-- ==== Sys2Proof/Word.lean ====
section
/-! DEFINITION. The word types of the device and the plainest arithmetic over them. -/

namespace Sys2Proof

/-- One byte. -/
abbrev Byte := BitVec 8

/-- One 32-bit register word (R8). -/
abbrev Word := BitVec 32

/-- One 64-bit SRAM word (R519). -/
abbrev Word64 := BitVec 64

end Sys2Proof
end

