-- ==== Sys2Proof/Machine/Types.lean ====
section
/-! DEFINITION. The shapes of commands' operands that are more than a number: what a frame, a message or a report brings. -/

namespace Sys2Proof.Machine

/-- A received PLC symbol (R333): its guard samples, the samples of its FFT window, and its SNR in 0.25 dB. -/
structure PlcSymbol where
  guard : List (BitVec 12)
  window : List (BitVec 12)
  snr : Nat
deriving DecidableEq, Repr

/-- A PHY block of a PLC frame (R334): the symbols it spans, and whether its CRC passes where R334 leaves that open. -/
structure PlcBlock where
  syms : List Nat
  crcOk : Bool
deriving DecidableEq, Repr

/-- What a TLS handshake arrived at (R348): a cipher suite that ISO 15118-2 defines on P-256, TLS_AES_256_GCM_SHA384, or another. -/
inductive TlsSuite where
  | iso2 | aes256GcmSha384 | other
deriving DecidableEq, Repr

/-- The curve of its key exchange and signatures (R348). -/
inductive TlsCurve where
  | p256 | secp521r1 | ed448 | other
deriving DecidableEq, Repr

/-- A TLS handshake that ended (R348): TLS 1.2 or 1.3 (false, true), its suite and curve, success, and the alert description of a
failure. -/
structure Handshake where
  v13 : Bool
  suite : TlsSuite
  curve : TlsCurve
  ok : Bool
  alert : BitVec 8 := 0
deriving DecidableEq, Repr

/-- The head of a received PLC frame (R326, R327, R334): its ROBO mode (VLK_LINK.ROBO), the time in ns for which its frame control
reserves the channel, and whether another station signalled in the two priority resolution slots before it. -/
structure PlcHead where
  robo : Fin 4
  reserved : Nat := 0
  prs0 : Bool := false
  prs1 : Bool := false
deriving DecidableEq, Repr

/-- The connection of an outlet as its pilot, or its CE and ID circuits, read (R279, OUT_SESS.CONN): 0 not connected, 1 connected, 2 ready,
3 error; and whether it has stood for 50 ms. -/
structure ConnRead where
  state : Fin 4
  stood : Bool := true
deriving DecidableEq, Repr

/-- The measuring-resistor voltage in µV over the last 25 ms of the positive and of the negative half of an insulation cycle (R287). -/
structure IsoReading where
  pos : List Int
  neg : List Int
deriving DecidableEq, Repr

/-- What a session protocol message brings (R310, R344 to R348, R354). -/
inductive V2g where
  /-- A TLS handshake ends. -/
  | tls (h : Handshake)
  /-- A charging profile or power schedule: of each entry its power in W and its start in ns of fabric time. -/
  | profile (entries : List (Nat × Nat))
  /-- A departure time in seconds since 1970 and the energy still needed in Wh, in scheduled or in dynamic control. -/
  | departure (dynamic : Bool) (sec wh : BitVec 32)
  /-- A welding-detection request. -/
  | weldingDetection
  /-- A certificate installation, or update, request. -/
  | certificate (update : Bool) (request : List Byte)
  /-- A request for a service the device does not support. -/
  | unsupported (service : Nat)
  /-- Any other message of the session. -/
  | other
deriving DecidableEq, Repr

/-- A CAN frame (R611, and the layout of CAN_RXDATA). -/
structure CanFrame where
  id : Nat := 0
  ide : Bool := false
  fdf : Bool := false
  brs : Bool := false
  esi : Bool := false
  rtr : Bool := false
  dlc : Nat := 0
  data : List Byte := []
  stamp : Nat := 0
deriving DecidableEq, Repr

/-- What an injected comparator test concerns (R453): function SF(k + 1) of an outlet, or a safe input. -/
inductive CompTarget where
  | outlet (n : Fin 16) (k : Fin 8)
  | input (i : Fin 16)
deriving DecidableEq, Repr

/-- A demand of the lodger's island (R456): the device-wide cause by its DEVCAUSE bit, or SF(k + 1) of an outlet. -/
inductive SafeDemand where
  | device (bit : Fin 6)
  | outlet (n : Fin 16) (k : Fin 8)
deriving DecidableEq, Repr

/-- The items of the MRAM partitions (R547), as R548 tells them apart. -/
inductive MramItem where
  | strongbox | lifecycle | pointer | resetCause | fabricAddress | sessionNumbers | calibration | retiredList
  | journal | records | windowCounts | shutdown | latches | lockouts | errorLog | guestbook
deriving DecidableEq, Repr

/-- What the reads of MRAM at Boot found: blocks corrected, blocks of which one copy was rewritten (R547), items lost (R548). -/
structure MramReport where
  corrected : List (BitVec 16) := []
  rewritten : List (BitVec 16) := []
  lost : List MramItem := []
deriving DecidableEq, Repr

/-- A sparse table keyed by an index or an address. -/
abbrev Tbl (α : Type) := List (Nat × α)

/-- The fields of a down frame after its preamble and before its CRC (R186); TYPE 3 stands for the short BLOCK (R196). -/
structure DownFrame where
  typ : Nat := 0
  seq : Nat := 0
  phase : Nat := 0
  drive : Nat := 0
  trim : Nat := 0
  hold : Nat := 0
  ramp : Nat := 0
deriving DecidableEq, Repr

/-- The fields of an up frame after its preamble and before its CRC (R201). -/
structure UpFrame where
  typ : Nat := 0
  seq : Nat := 0
  cur : Nat := 0
  volt : Nat := 0
  temp : Nat := 0
  status : Nat := 0
  aux : Nat := 0
deriving DecidableEq, Repr

/-- What the device keeps of one string beside its registers (R192, R205, R207, R214 to R218, R228 to R230, R373). -/
structure StrCtx where
  /-- SEQ of the last complete down frame that was not BLOCK; 15 at reset, so the first carries 0 (log 6). -/
  seq : Nat := 15
  /-- Type of the frame whose sync mark opens the next period, and of the one that opened this period; 0 none. -/
  inflight : Nat := 0
  opened : Nat := 0
  expect : Nat := 0
  last : DownFrame := {}
  staged : Option DownFrame := none
  up : UpFrame := {}
  heard : Bool := false
  fresh : Bool := false
  validRun : Nat := 0
  /-- Identity pages still to be sent, pages received since the last admission, and their contents. -/
  identDue : Nat := 0
  identGot : Nat := 0
  pages : Tbl Nat := []
  identBad : Bool := false
  /-- Telemetry sums of the present window, its valid periods, and the peaks to be seeded (bits q max, 4 + q min). -/
  sumV : Int := 0
  sumI : Int := 0
  sumP : Int := 0
  sumT : Int := 0
  winN : Nat := 0
  seeds : Nat := 255
  /-- Consecutive valid frames at or above TRIP or with OT; readmission after a thermal latch still due (R373). -/
  hotRun : Nat := 0
  thermHold : Bool := false
  /-- The retry counter: counter time in ns and the times at which the standing retries were recorded (R316). -/
  clock : Nat := 0
  retries : List Nat := []
  /-- A latched string whose latch was cleared waits for R218 (R317). -/
  readmit : Bool := false
  /-- Temperature in 0.1 °C at the last round snapshot (R140). -/
  snapT : Int := 0
  /-- The string alone carries its arc: its weight is 65,536, which INK_STRING.WEIGHT cannot hold (log 48). -/
  whole : Bool := false
deriving DecidableEq, Repr

/-- What a Tuner slot keeps beside its registers (R239 to R259). Integrators carry 16 fractional bits. -/
structure SlotCtx where
  i : Int := 0
  vi : Int := 0
  /-- The slot was evaluated in the period before this one (R245), and its operation at its last evaluation. -/
  ranPeriod : Nat := 0
  ran : Bool := false
  wasManual : Bool := false
  held : Bool := false
  presetBias : Option Int := none
  outOfService : Bool := false
deriving DecidableEq, Repr

/-- A pencil trigger that stands (R147): for SCHEDULE the announced power and start, for DEPART the energy and time. -/
structure Trigger where
  /-- Round at which a PLUGIN trigger began, or fabric time in ns of the entry's start or of departure. -/
  at_ : Nat
  /-- Power in W, or the energy needed in J at the time of the report. -/
  amount : Nat
  /-- The outlet's net energy count in mWh at the time of the report, from which the energy still needed counts down. -/
  base : Int := 0
deriving DecidableEq, Repr

/-- A session transition that waits for the next control-period boundary (R278), with its end cause and its rank among
coinciding triggers (R320). -/
structure SessNext where
  state : Nat := 0
  cause : Nat := 0
  rank : Nat := 0
  transient : Bool := false
deriving DecidableEq, Repr

/-- What one outlet keeps beside its registers. Voltages in 0.1 V, currents in 0.1 A. -/
structure OutCtx where
  /-- The sense snapshot of step 2 and the metering voltage input (R232, R226). -/
  senseV : Int := 0
  senseI : Int := 0
  meterV : Int := 0
  /-- The inked grant in W and the outlet current limit of R123. -/
  grantW : Nat := 0
  limit : Nat := 0
  spPrev : Int := 0
  /-- Device time in ns of the last step (R159, R160), or none. -/
  lastStep : Option Nat := none
  /-- Weight ramp of R653: its first period and the weights it starts from and ends at. -/
  rampStart : Option Nat := none
  rampFrom : Tbl Nat := []
  rampTo : Tbl Nat := []
  /-- An open shed window: first period, shed strings, and weights and phases before it (R158, R159). -/
  shedStart : Option Nat := none
  shedSet : List Nat := []
  shedWas : Tbl Nat := []
  shedWasPhase : Tbl Nat := []
  loadSum : Nat := 0
  loadN : Nat := 0
  /-- The window's end has come: the shed is inked at the next control-period boundary unless a step aborts it (R162). -/
  shedDone : Bool := false
  /-- Pencil triggers by code (R147); of SCHEDULE every announced entry. -/
  plugin : Option Trigger := none
  schedule : List Trigger := []
  depart : Option Trigger := none
  /-- Session layer: precharge target, requests, and what has been asked for and confirmed. -/
  vt : Nat := 0
  preTarget : Nat := 0
  preActive : Bool := false
  preDone : Bool := false
  softHalf : Bool := false
  lockOk : Bool := false
  isoPassed : Bool := false
  ccDone : Bool := false
  contReq : Bool := false
  closed : Bool := false
  opened : Bool := false
  stopReq : Bool := false
  disableAfter : Bool := false
  /-- The end of the session was an outlet transient fault (R314). -/
  transient : Bool := false
  eimSel : Bool := false
  /-- Insulation: cycles since injection began, consecutive cycles below fault, below warning, above 1.1 × warning. -/
  isoCycles : Nat := 0
  isoFault : Nat := 0
  isoWarn : Nat := 0
  isoClear : Nat := 0
  /-- The retry counter of R314 and R315. -/
  clock : Nat := 0
  retries : List Nat := []
  /-- The vehicle's parameters were accepted (R284). -/
  accepted : Bool := false
  /-- The vehicle's maximum power in W, where it has sent one (the D of R119). -/
  maxW : Option Nat := none
  next : Option SessNext := none
  /-- A demand that takes effect at the next boundary (R300): request and target. -/
  demand : Option (Int × Nat) := none
  /-- The CCS pilot: 0 off, 1 at 5 % duty (R278, R314). -/
  pilot : Nat := 0
  softWait : Bool := false
  /-- The contactors have been commanded on in this session (R278). -/
  commanded : Bool := false
  /-- The connection as it was last detected, after 50 ms: present, absent, or not yet known since the reset (R279). -/
  conn : Option Bool := none
  /-- Device time in ns at which the lock's pulse ends (R286). -/
  pulseEnd : Option Nat := none
  /-- The vehicle can send no stop request any more: its link has failed (R309). -/
  linkGone : Bool := false
  /-- UNLOCK has commanded the release (R312). -/
  unlockSent : Bool := false
  /-- A pending retry fell due while its counter was frozen (R318). -/
  retryOwed : Bool := false
  /-- The last applied round held the session at 0 for a tie stuck closed (R111). -/
  stuckHold : Bool := false
  /-- The sense-loss conditions that stand, by kind (R225). -/
  senseBad : Nat := 0
  /-- Sense fallback is due at the next control-period boundary (R226). -/
  fallNext : Bool := false
  /-- Period of the last pre-emptive BLOCK of its arc (R488). -/
  blockAt : Option Nat := none
deriving DecidableEq, Repr

/-- A steward's checkpoint of a session (R35): state, protocol, the vehicle's maxima, V_t, request and target. -/
structure Ckpt where
  state : Nat := 0
  proto : Nat := 0
  vmax : Nat := 0
  imax : Nat := 0
  vt : Nat := 0
  ireq : Int := 0
  vtgt : Nat := 0
deriving DecidableEq, Repr

/-- The medium access of an outlet's PLC link (R327): until when in ns of device time a reservation heard stands; the priority that other
stations resolved (0 none above CA0); the backoff procedure, backoff and deferral counters; frames that wait, with priority, kind
and fields, in their order. -/
structure MacCtx where
  busyUntil : Nat := 0
  resolved : Nat := 0
  bpc : Nat := 0
  bc : Nat := 0
  dc : Nat := 0
  wait : List (Nat × Nat × List Nat) := []
deriving DecidableEq, Repr

/-- What a course keeps beside INK_COURSE: the step of its move (0 none), the arc it moves to or from, the tie it moves,
a pencilled move or hold, a leave to begin again (R131, R132, R136). -/
structure CourseCtx where
  step : Nat := 0
  arc : Nat := 31
  tie : Nat := 0
  pencil : Bool := false
  again : Bool := false
  /-- Started by a dissolved arc or a reversed pencil: it belongs to no arc while it leaves. -/
  loose : Bool := false
  /-- Held in BLOCK after an acknowledge, until it is brought into use (R89). -/
  blocked : Bool := false
  /-- The control period at which its join began: courses of one arc and one direction that began together move together (R130). -/
  move : Nat := 0
  frozenMove : Bool := false
  stuckWall : Bool := false
deriving DecidableEq, Repr

/-- One outlet's part of a round result (R119 to R128, R145). -/
structure OutResult where
  live : Bool := false
  demand : Nat := 0
  cap : Nat := 0
  grant : Nat := 0
  limiter : Nat := 0
  limit : Nat := 0
  arc : List Nat := []
  ramp : Nat := 0
  /-- Held at 0 by a tie stuck closed (R111). -/
  stuck : Bool := false
deriving DecidableEq, Repr

/-- One outlet's pencilled entry of a round (R147 to R150): trigger, power in W, the courses beyond its inked arc, and all
the courses of the pencilled arc. -/
structure PencilResult where
  trigger : Nat := 0
  power : Nat := 0
  /-- Start of the schedule entry that is pencilled. -/
  start : Nat := 0
  arc : List Nat := []
  whole : List Nat := []
deriving DecidableEq, Repr

/-- The result of a round as it waits for its apply boundary (R113 to R117). -/
structure RoundResult where
  round : Nat := 0
  outs : List OutResult := []
  pencils : List PencilResult := []
  /-- Courses that leave their arcs (R125, R138), and sheds by outlet with their strings (R157). -/
  leaves : List Nat := []
  sheds : List (Nat × List Nat) := []
  reserve : Nat := 0
  curtail : Nat := 0
deriving DecidableEq, Repr

/-- One outlet's cable model (R364, R365, R378): tc, tk and hot in 1/65,536 K, and whether the model is started. -/
structure CableCtx where
  tc : Int := 0
  tk : Int := 0
  hot : Int := 0
  started : Bool := false
deriving DecidableEq, Repr

/-- What a rejoin streams to the lodger (R495): the read-only fields of the engines by field key, and their contexts, all by
index; the session checkpoints; the ties' commands, the round number and the result that waits. -/
structure Snapshot where
  regs : List (Nat × Nat) := []
  strs : List (Nat × StrCtx) := []
  slots : List (Nat × SlotCtx) := []
  outs : List (Nat × OutCtx) := []
  courses : List (Nat × CourseCtx) := []
  cables : List (Nat × CableCtx) := []
  ckpts : List (Nat × Ckpt) := []
  tieCmd : Nat := 0
  round : Nat := 0
  result : Option RoundResult := none
deriving DecidableEq, Repr

/-- An input that the keyholder forwards to the lodger (R477). -/
inductive Fwd where
  /-- The 104 bits of an up frame of a present string; a present string without one is lost in the period. -/
  | up (s : Fin 64) (word : Nat)
  /-- PT1000 readings, flow edges, the die throttle fraction. -/
  | rtd (readings : List (BitVec 16))
  | flow (edges : List Nat)
  | frac (f : Nat)
  /-- Tie feedback, lock feedback. GPIO levels reach the state through these and the flow edges alone. -/
  | tie (t : Fin 16) (closed : Bool)
  | lock (n : Fin 16)
  /-- A vehicle demand, and a session checkpoint: state, protocol, accepted maxima, V_t, request and target. -/
  | demand (n : Fin 16) (i : Int) (v : Nat)
  | checkpoint (n : Fin 16) (state proto vmax imax vt : Nat) (ireq : Int) (vtgt : Nat)
  | can (k : Fin 4) (f : CanFrame)
  /-- Station share in W, Island state, a pencil trigger (kind + 4: none stands of the kind), fabric time at the boundary. -/
  | share (w : Nat)
  | islandState (on : Bool)
  | trigger (n : Fin 16) (kind start amount : Nat) (base : Int)
  | time (ns : Nat)
  /-- A committed transaction: its apply round, handle, persist flag, field keys and values. -/
  | commit (round handle : Nat) (persist : Bool) (writes : List (Nat × Nat))
  /-- The keyholder's refusal of a commit that the lodger sent it: handle and code (R570). -/
  | refusal (handle code : Nat)
  /-- A host duty of an auxiliary channel; a tuning command (1 PLUCK, 2 PLUCKSTOP, 3 BOW, 4 BOWSTOP, 5 CAPFREE). -/
  | duty (i : Fin 48) (v : Nat)
  | tuning (k : Nat)
  /-- The keyholder's snapshot, at the start of a rejoin. -/
  | snapshot (x : Snapshot)
deriving DecidableEq, Repr

/-- A host write that is no transaction and waits for the next control-period boundary before an engine follows it (R49). -/
inductive HostAct where
  /-- STR_CMD.REIDENT; a clear of a string's latch. -/
  | reident
  | strlatch (s : Nat)
deriving DecidableEq, Repr

/-- What the partner's HEALTH message carries (R486, R493): its score, and, as every twin message does, its unique ID and station. -/
structure PartnerHealth where
  score : BitVec 7
  uid : BitVec 64
  station : BitVec 8
deriving DecidableEq, Repr

/-- Instructions of the JTAG TAP (R629). -/
inductive Jtag where
  | idcode | bypass | sample | extest | intest | clamp
deriving DecidableEq, Repr

/-- What HAIL carries (R501). -/
structure Hail where
  uid : Nat := 0
  addr : Nat := 255
  seat : Nat := 0
  seated : Bool := false
  station : Nat := 0
  level : Nat := 0
  digest : List Byte := []
  fw : Nat := 0
  role : Nat := 0
deriving DecidableEq, Repr

/-- A fabric frame (R498). -/
structure FabFrame where
  dst : Nat := 255
  src : Nat := 255
  typ : Nat := 0
  hops : Nat := 31
  seq : Nat := 0
  epoch : Nat := 0
  enc : Bool := false
  payload : List Byte := []
deriving DecidableEq, Repr

/-- One station's post of a round (R169). -/
structure Post where
  addr : Nat := 0
  station : Nat := 0
  round : Nat := 0
  demand : List Nat := []
  floor : Nat := 0
  reservation : Nat := 0
  digest : List Byte := []
  feedPlan : List Nat := []
  feedWin : List Nat := []
  draw : Int := 0
  setDigest : Nat := 0
  /-- Consecutive rounds without a post of this station (R171). -/
  missed : Nat := 0
deriving DecidableEq, Repr

/-- What Selftest finds (R59, R544 to R546, R27, R598, R453): the checker proof; banks that failed their March pass; the verified
steward images at load; the canary scale and its repeat, in 1/4,096; the island's self-test; the 16 falls of the hold-up test in
µV, and VSUP in mV; PLC front ends that failed; V5, V33, V18 and VCORE as the register counts them; owners of banks that are
placed. -/
structure SelftestReport where
  checker : Bool
  march : List (Fin 64)
  images : Bool
  canary : BitVec 16
  canaryAgain : BitVec 16
  island : Bool
  vsup : Nat
  falls : List Nat
  plcFail : BitVec 16
  v5 : BitVec 8
  v33 : BitVec 8
  v18 : BitVec 8
  vcore : BitVec 8
  placement : List (Fin 64 × Fin 32)
deriving DecidableEq, Repr

/-- A read of one register address, and whether the access is narrower than 32 bits (R8). -/
structure ReadAt where
  addr : BitVec 32
  narrow : Bool := false
deriving DecidableEq, Repr

/-- What a host access meets outside the registers: auxiliary channels whose fault condition is absent (R604), whether a down
frame of the partner is heard (R485), and words of the host window bank that read uncorrectable (R535). -/
structure HostEnv where
  absent : BitVec 48 := 0
  heard : Bool := false
  bad : List (Fin 32768) := []
deriving DecidableEq, Repr

/-- The header of a UDP host datagram (R574), its integers read little-endian (R15); its source, and how many requests are in
progress on the port, itself included (R576). -/
structure UdpHead where
  src : BitVec 32
  udp : BitVec 16
  tag : BitVec 16
  epoch : BitVec 16
  busy : Nat
deriving DecidableEq, Repr

end Sys2Proof.Machine
end

