-- ==== Sys2Proof/Syntax.lean ====
section
/-! DEFINITION. The commands of the block: one constructor per row of the command table of the spec. -/

namespace Sys2Proof

open Sys2Proof.Machine

/-- A command: what reaches the device from outside, or an event of its own that the command table lists. Those
with operands come first, then those without, each in the order of the families. -/
inductive Instr where
  /-- VSUP rises through the power-on threshold from Off and every rail is in regulation, so everything resets and the device
  enters Boot (R72). -/
  | powerOnReset (mv : Int)
  /-- RESET_N held low for at least 10 µs is accepted as a cold reset; the main logic stops and no further down frame is sent
  (R77). -/
  | resetNAssert (ns : Nat)
  /-- 1 ms after a power-on or RESET_N release, BOOTSEL0 to BOOTSEL2 are sampled once (R96). -/
  | bootselSample (code : BitVec 3) (testN : Bool)
  /-- Boot finishes verifying the TAB copies and steward images and moves to Selftest, Recovery or Safe hold (R57). -/
  | bootComplete (mib : BitVec 16) (octal : Bool) (tieFb : BitVec 16) (hostBank : Fin 64) (mram : MramReport)
  /-- Selftest ends and the device moves to Commission, Standby, Idle, Safe hold or Recovery (R57). -/
  | selftestComplete (r : SelftestReport)
  /-- VSUP below 14.0 V for 50 µs enters Last gasp: BLOCK on every arc, ports powered down, release of live outputs (R57). -/
  | supplyLoss (mv : Int)
  /-- Last gasp finishes and the device goes to Off, or to Boot as a cold reset if VSUP has returned (R57). -/
  | lastGaspComplete (mv : Nat) (e2 : Nat) (e3 : Nat)
  /-- A steward watchdog expires and that steward is reset; its sessions resume from their checkpoints (R72). -/
  | stewardWatchdog (k : Fin 8)
  /-- An uncorrectable instruction fetch traps the steward, which reloads its image and resets with EV025 (R535). -/
  | stewardFetchTrap (k : Fin 8) (bank : Fin 64) (word : Fin 32768) (synd : BitVec 8)
  /-- The TB2 sync mark opens a control period: the period number advances and the round results and transactions due take
  effect (R51). -/
  | periodBoundary (opened : Bool) (ns : Nat) (fabric : Nat) (ticks : Nat) (mismatch : BitVec 16)
  /-- Every 100 µs the Purse counts canary laps and compares the measured path with the target (R25). -/
  | canaryMeasurement (laps : Nat)
  /-- The safety island detects loss of TB0 and demands BLOCK and Safe hold (R30). -/
  | tb0Loss (lost : Bool)
  /-- Every 1 ms TB10 and TB11 are measured against TB0, and a 5 % disagreement demands Safe hold (R32). -/
  | timebaseCheck (f10 : Nat) (f11 : Nat)
  /-- A safe-output enable line that stops toggling for 50 µs switches its output off (R17). -/
  | enableLineTimeout (j : Fin 32)
  /-- After a cold reset the island releases a live outlet's safe outputs on 1 ms below 5 A, or at its deadline (R79). -/
  | coldResetOutputRelease (n : Fin 16)
  /-- The 32.768 kHz crystal stops; the RTC continues from TB0, TB_STATUS.FAULT bit 9 and TB_FAULTLATCH are set, and a
  system-group event is raised (R625). -/
  | tb9ReferenceLoss (lost : Bool)
  /-- An instruction is shifted into the JTAG TAP; EXTEST, INTEST and CLAMP are honoured only in Blank and Decommissioned
  (R629). -/
  | jtagInstruction (ins : Jtag)
  /-- An up frame from a cell is received and CRC-checked (R201). -/
  | upFrame (str : Fin 64) (w : BitVec 104) (symbolsOk : Bool)
  /-- A BLOCK demand for an arc cuts any frame in progress, sends an abort gap and a BLOCK frame, and holds the slots (R197). -/
  | blockDemand (n : Fin 16)
  /-- Eight consecutive lost periods, or a bad cell state, fault a string and raise its string-group event (R217). -/
  | stringFault (str : Fin 64)
  /-- After 64 valid periods with the cell in READY or STOPPED, the faulted string is readmitted or latched by its retry counter
  (R218). -/
  | stringRecovery (str : Fin 64)
  /-- A rising SYNC_IN edge is taken to lock TB2 or to count toward its return (R223). -/
  | syncInEdge (interval : Nat) (phaseErr : Int)
  /-- A sense-loss condition stands for 1 ms and the live outlet switches to sense fallback (R225). -/
  | senseLoss (n : Fin 16) (kind : Fin 3) (present : Bool)
  /-- A read of a peak register returns the held value and restarts the peak (R230). -/
  | peakRead (agent : Fin 3) (a : ReadAt)
  /-- A read of the low word of a 64-bit register latches the matching high word until it is read (R8). -/
  | highWordLatchRead (agent : Fin 3) (a : ReadAt)
  /-- On the last up frame or at the up-frame deadline, the Tuner evaluates the outlet and string slots and stages 64 commands
  (R235). -/
  | powerPass (sense : List (Int × Int × Int)) (poison : List (Fin 128)) (late : List (Fin 64)) (pathNs : Nat)
  /-- Due thermal slots are evaluated after the power pass, in ascending order (R237). -/
  | thermalPass (poison : List (Fin 128))
  /-- Eight consecutive poisoned evaluations take a power slot out of service (R258). -/
  | slotOutOfService (ix : Fin 128)
  /-- An integrator held at a clamp for 10 s sets SAT and raises EV059 (R259). -/
  | integratorSaturated (ix : Fin 128)
  /-- A periods after the round boundary, the round result is released through the ink gate and takes effect (R114). -/
  | applyBoundary (ready : Bool)
  /-- The shed window ends and the shed is inked, so the shed strings stop switching (R158). -/
  | shedWindowEnd (n : Fin 16)
  /-- TDOWN ends and the current check of the tie to be opened begins (R131). -/
  | moveTdownElapsed (c : Fin 16)
  /-- The tie current stays below 1 A for TCHECK, so the tie is commanded open (R131). -/
  | moveTcheckPassed (c : Fin 16)
  /-- The tie current stays at or above 1 A for 5 ms and the move aborts (R132). -/
  | moveCheckAbort (c : Fin 16)
  /-- Tie feedback confirms the commanded open or close, and the move goes on (R131). -/
  | tieFeedbackConfirmed (t : Fin 16) (closed : Bool)
  /-- Tie feedback disagrees with its command for longer than the step time; the tie is recorded stuck and its course is walled
  (R110). -/
  | tieStuck (t : Fin 16) (closed : Bool)
  /-- The joining course bus reaches the arc voltage window, so the ties are commanded closed (R135). -/
  | moveVoltageWindow (c : Fin 16)
  /-- The voltage window is not reached within TPRE; the move aborts and the course is parked (R133). -/
  | movePrechargeTimeout (c : Fin 16)
  /-- TUP ends and the joining course becomes a Member (R653). -/
  | moveTupElapsed (c : Fin 16)
  /-- A PLUGIN, SCHEDULE or DEPART trigger lapses at its age or time limit (R147). -/
  | pencilTriggerLapse (n : Fin 16) (kind : Fin 4)
  /-- A site-battery frame on the configured identifier updates the battery offer (R165). -/
  | batteryOfferFrame (port : Fin 4) (f : CanFrame)
  /-- Device power above budget for 10 ms powers down work in order (R174). -/
  | deviceOverBudget (powers : List Nat)
  /-- Device power below budget for 1 s powers work up again in reverse order (R174). -/
  | deviceUnderBudget (power : Nat)
  /-- A pilot or CE state change wakes the outlet's PLC front end or T1S PHY within 2 ms (R175). -/
  | frontEndWake (n : Fin 16)
  /-- 50 ms of the connected state moves the outlet from VACANT to CONNECTED and then LINK (R279). -/
  | connectionDetected (n : Fin 16) (read : ConnRead)
  /-- 50 ms of the not-connected state sends the outlet to VACANT, or feeds SF7 while live (R279). -/
  | disconnectionDetected (n : Fin 16)
  /-- Session setup and service selection complete and the outlet enters AUTH, or a legal session is refused (R278). -/
  | sessionSetupComplete (n : Fin 16) (proto : BitVec 3) (eim : Bool)
  /-- The vehicle's contract chain is checked for Plug & Charge authorisation (R282). -/
  | contractAuthorisation (n : Fin 16) (chain : List Byte)
  /-- The host authorises the session in AUTH (R282). -/
  | outCmdAuthok (n : Fin 16)
  /-- The host refuses authorisation (R282). -/
  | outCmdAuthno (n : Fin 16)
  /-- A stage timeout from LINK to PRECHARGE expires and the session ends with end cause 5 (R281). -/
  | stageTimeout (n : Fin 16)
  /-- A message-level timeout of the vehicle's standard expires and the session proceeds as that standard prescribes, as a
  vehicle-link error (R36). -/
  | messageTimeout (n : Fin 16)
  /-- The vehicle's parameters are accepted or refused in DISCOVERY (R284). -/
  | chargeParameters (n : Fin 16) (minV : BitVec 16) (maxV : BitVec 16) (maxI : BitVec 16) (disV : BitVec 16) (maxW : Option Nat)
  /-- Cable check is requested: the outlet enters CABLECHECK, reserves its course and commands the lock (R285). -/
  | cableCheckRequest (n : Fin 16)
  /-- Lock feedback reads locked and insulation injection starts (R286). -/
  | lockConfirmed (n : Fin 16)
  /-- The lock is not confirmed within TLOCK, which is a transient fault with end cause 6 (R286). -/
  | lockTimeout (n : Fin 16)
  /-- A 250 ms injection cycle ends and the insulation resistance is computed and judged (R287). -/
  | insulationCycle (n : Fin 16) (reading : IsoReading)
  /-- Insulation has passed, sense is checked and the own course is Parked, so cable check is reported complete (R285). -/
  | cableCheckComplete (n : Fin 16)
  /-- The vehicle requests precharge; the island limits are loaded and the safe outputs are requested once voltages agree
  (R293). -/
  | prechargeRequest (n : Fin 16) (vt : BitVec 16)
  /-- Both feedback inputs confirm closing and PRECHARGE frames go to the course's strings (R294). -/
  | contactorsClosed (n : Fin 16)
  /-- Feedback does not read closed within 50 ms; the outputs are released and NOCLOSE is set as a transient fault (R440). -/
  | contactorCloseTimeout (n : Fin 16)
  /-- Every 10 ms the precharge target is corrected by V_t less the sense voltage (R294). -/
  | prechargeCorrection (n : Fin 16)
  /-- Sense has not passed 10 % of V_t within 50 ms, so precharge stops and the outputs are requested off (R295). -/
  | softStartFailure (n : Fin 16)
  /-- 2 s after a first failure, soft start is repeated once at half the limit (R296). -/
  | softStartRetry (n : Fin 16)
  /-- Sense stays within V_t ± 10 V for DWELL and completion is reported to the vehicle (R297). -/
  | prechargeComplete (n : Fin 16)
  /-- The vehicle requests power delivery after precharge and the outlet enters DELIVERY (R278). -/
  | powerDeliveryStart (n : Fin 16)
  /-- A vehicle current request and target voltage are taken into OUT_DEMAND (R300). -/
  | currentDemand (n : Fin 16) (ireq : BitVec 16) (v : BitVec 16)
  /-- An ISO 15118-20 standby request moves DELIVERY to PAUSE (R304). -/
  | standbyRequest (n : Fin 16)
  /-- An ISO 15118-20 resume request moves PAUSE to DELIVERY (R278). -/
  | resumeRequest (n : Fin 16)
  /-- A vehicle stop starts RUNDOWN at the fall slew rate (R308). -/
  | vehicleStop (n : Fin 16)
  /-- The host ends the outlet's session by last orders (R278). -/
  | outCmdStop (n : Fin 16)
  /-- The host disables the outlet, acting as STOP in a live state (R320). -/
  | outCmdDisable (n : Fin 16)
  /-- The host enables a disabled outlet, which goes to VACANT (R278). -/
  | outCmdEnable (n : Fin 16)
  /-- A dummy-load run is started in Commission on a TYPE 3 outlet (R276). -/
  | outCmdDummyrun (n : Fin 16)
  /-- A grant that stays zero for 60 s in DELIVERY raises EV032+n (R304). -/
  | grantZeroTimeout (n : Fin 16)
  /-- Arc capacity 0 for 1 s in DELIVERY is an outlet transient fault (R313). -/
  | arcCapacityZero (n : Fin 16)
  /-- Current at or below 2 A for 10 ms, with the stop request in, completes run-down and enters WELDCHECK (R309). -/
  | rundownComplete (n : Fin 16)
  /-- Current still above 2 A after RUNDOWN + 100 ms demands BLOCK and completes run-down (R309). -/
  | rundownOverrun (n : Fin 16)
  /-- Both feedback inputs read open, which marks the opening instant (R310). -/
  | contactorsOpened (n : Fin 16)
  /-- 2 s after opening, sense above 60 V finds a weld; otherwise the outlet goes to UNLOCK (R310). -/
  | weldVoltageCheck (n : Fin 16) (v2s : Nat)
  /-- Lock feedback reads unlocked and the outlet enters ENDED (R312). -/
  | unlockComplete (n : Fin 16)
  /-- Unlock is not confirmed within TLOCK; EV032+n is raised and the outlet enters ENDED (R312). -/
  | unlockTimeout (n : Fin 16)
  /-- After the 3 s pilot-off or link-down wait, one retry is recorded and the outlet returns to LINK (R314). -/
  | retryDue (n : Fin 16)
  /-- A retry leaves the counter after 10 minutes, or 1 hour for strings, of counter time (R315). -/
  | retryExpiry (k : Fin 80)
  /-- Writing 1 clears a string's latch and counter (R317). -/
  | outStrlatchClear (str : Fin 64)
  /-- The first valid frame from the vehicle brings the T1S link up and the outlet to SETUP (R343). -/
  | t1sLinkUp (n : Fin 16)
  /-- No valid frame for LINKTMO, or jabber, takes the T1S link down (R343). -/
  | t1sLinkDown (n : Fin 16) (jabber : Bool)
  /-- CM_SLAC_PARM.REQ is answered and the run's sounds are collected on every powered front end (R337). -/
  | slacParmReq (n : Fin 16) (id : BitVec 64)
  /-- A RunID's sounding ends and the outlets are compared; the winner answers, or no outlet does (R338). -/
  | slacSoundingEnd (id : BitVec 64) (sounds : List (List (List Nat)))
  /-- CM_SLAC_MATCH.REQ is accepted on the winner, and matching is confirmed once the vehicle joins (R340). -/
  | slacMatchReq (n : Fin 16) (id : BitVec 64) (joined : Bool)
  /-- CM_VALIDATE.REQ is accepted on the winner and the pilot toggles are counted (R340). -/
  | slacValidateReq (n : Fin 16) (id : BitVec 64) (toggles : Nat)
  /-- A received PLC frame is blanked, erased and decoded block by block (R334). -/
  | plcFrameReceived (n : Fin 16) (head : PlcHead) (symbols : List PlcSymbol) (blocks : List PlcBlock)
  /-- A unicast frame with failed blocks or no acknowledgement is sent again, up to RETRY times (R328). -/
  | plcRetransmission (n : Fin 16) (fresh : Bool)
  /-- A beacon starts OFFSET µs after every second positive zero crossing, or at the nominal period in fallback (R329). -/
  | beacon (cycles : Nat)
  /-- Eight good half-cycles set RELOCK, and beacons move back to LOCKED (R331). -/
  | beaconRelock (err : Int)
  /-- A session protocol message is received from the vehicle and processed by its steward (R344). -/
  | v2gMessage (n : Fin 16) (src : BitVec 48) (m : V2g)
  /-- No acknowledgement by MARGIN before the vehicle timeout is treated as code 2, with EV100 (R355). -/
  | relayTimeout (n : Fin 16)
  /-- An identity key pair is generated in the Strongbox (R350). -/
  | vlkIdcmdGenerate (ix : Fin 4) (curve : Fin 2)
  /-- The certificate chain is installed from the host window into the slot, or refused (R350). -/
  | vlkIdcmdInstall (ix : Fin 4) (len : BitVec 14)
  /-- An identity slot is emptied (R350). -/
  | vlkIdcmdErase (ix : Fin 4)
  /-- Every 1 ms each PT1000 input is converted and reported (R358). -/
  | rtdConversion (readings : List (BitVec 16))
  /-- A reading out of range for 10 ms faults the input, and 1 s in range recovers it; EV068 (R361). -/
  | rtdFault (n : Fin 16) (k : Fin 4) (faulted : Bool)
  /-- Every 250 ms the flow is computed from the pulse count (R359). -/
  | flowUpdate (edges : List Nat)
  /-- Low flow at minimum duty for 2 s sets a flow fault, and 2 s at FMIN clears it (R361). -/
  | flowFault (n : Fin 16) (faulted : Bool)
  /-- The hot spot or a contact above its limit plus TRIPM for 100 ms latches the outlet with ceiling 0 (R371). -/
  | outletThermalLatch (n : Fin 16)
  /-- After 10 s of cool, valid conditions the outlet thermal latch releases (R372). -/
  | outletLatchRelease (n : Fin 16)
  /-- Three frames at or above TRIP, or with OT, latch the string and remove it from its arc (R373). -/
  | stringThermalLatch (str : Fin 64)
  /-- A 60 s run below REL releases the string latch, which is followed by HOLD and re-IDENT (R373). -/
  | stringLatchRelease (str : Fin 64)
  /-- Run-on ends at the hot-spot level, after 10 minutes, or when the outlet is live again (R378). -/
  | runonEnd (n : Fin 16) (byTime : Bool)
  /-- Every 1 ms the die diode is converted and compared with the absolute levels (R380). -/
  | diodeConversion (raw : BitVec 16)
  /-- Every 125 µs all 56 channels are sampled, corrected and accumulated into import or export (R404). -/
  | meterSample (own : List (BitVec 24)) (fwd : Option (List (BitVec 24)))
  /-- A feed voltage crossing held for 13 samples is accepted and counts a line cycle (R408). -/
  | zeroCrossing (feed : Fin 4) (phase : Fin 3) (positive : Bool) (ns : Nat)
  /-- Held records up to the written RECSEQ are released (R423). -/
  | talRecack (seq : BitVec 32)
  /-- A pulse output's count reaches 1,000,000 / CONST mWh and a pulse starts (R413). -/
  | pulseEmit (k : Fin 8)
  /-- The pulse high time ends (R414). -/
  | pulseEnd (k : Fin 8)
  /-- Every JOURNAL × 0.1 s the Tally state is written to an MRAM slot and verified (R426). -/
  | journalWrite (ok : Bool) (okRepeat : Bool) (corrected : List (BitVec 16)) (rewritten : List (BitVec 16))
  /-- A safe input in demand for the filter F acts in its role, SF1 or SF6 (R433). -/
  | safeInputDemand (ix : Fin 16) (isOpen : Bool)
  /-- Paired inputs differing for longer than DISC set a discrepancy fault (R434). -/
  | pairDiscrepancy (k : Fin 8) (differ : Bool)
  /-- A test-pulse output emits its low pulse and the assigned inputs are checked (R435). -/
  | testPulse (k : Fin 8) (bad : BitVec 16)
  /-- Every 1 s each on safe output is briefly released and must fall below 2 V (R438). -/
  | outputOffTest (j : Fin 32) (fell : Bool)
  /-- A failed OFF test or 1 ms read-back disagreement releases the outlet and latches SAF_SOUTFLT (R439). -/
  | outputDiagnosticFault (j : Fin 32) (readsOn : Bool)
  /-- Feedback reading open for 5 ms while the output is confirmed on acts as SF4 (R440). -/
  | contactorDiscrepancy (j : Fin 32)
  /-- Feedback reading closed 100 ms after release acts as SF4 (R440). -/
  | contactorWeld (j : Fin 32)
  /-- An insulation monitor demand, or no cycle result for 1 s while live, acts on the outlet (R443). -/
  | sf2 (n : Fin 16) (missing : Bool)
  /-- Unlocked feedback for 20 ms at 60 V or more acts on the outlet and holds the lock (R443). -/
  | sf3 (n : Fin 16)
  /-- Outlet voltage above VLIM plus margin for VFILT acts on the outlet (R443). -/
  | sf5 (n : Fin 16) (v : Nat)
  /-- Contact or coolant temperature, lost excitation or an SF6 input acts on the outlet with a thermal latch (R443). -/
  | sf6 (n : Fin 16) (k : Fin 4) (temp : Int) (lost : Bool)
  /-- A pilot or CE fault level while live acts on the outlet (R443). -/
  | sf7 (n : Fin 16) (level : Nat) (ceFault : Bool)
  /-- Outlet current above ILIM plus margin, or above 3,300 A, acts on the outlet (R443). -/
  | sf8 (n : Fin 16) (cur : Nat)
  /-- After BLOCK, the island stops the enable lines on low current or at 1.0 ms (R445). -/
  | safeOutputRelease (n : Fin 16) (ma : Nat) (elapsed : Bool)
  /-- The island reads a latched outlet cause of SF5, SF6, SF8 or the cross-check as inactive while the outlet is not live, so
  the latch clears and the outlet's own course leaves BLOCK (R443). -/
  | safetyCauseInactive (n : Fin 16) (k : Fin 8)
  /-- A write of the acknowledge code is accepted in Safe hold, or refused (R448). -/
  | safAck (code : BitVec 16)
  /-- SF4 and output diagnostic latches of masked outlets that are not live are cleared (R449). -/
  | safOutclr (code : BitVec 16) (mask : BitVec 16)
  /-- A safe frame is checked and accepted or discarded, and may demand SF1 (R460). -/
  | safeFrameReceived (carrier : Fin 7) (bytes : List Byte)
  /-- WD passes without an accepted frame and SF1 is demanded (R461). -/
  | safeConnectionWatchdog (k : Fin 16)
  /-- A connection still waiting for its first frame after 10 s raises EV084 (R461). -/
  | safeConnectionWait (k : Fin 16)
  /-- A send connection sends its frame each CYCLE or on a payload change (R462). -/
  | safeFrameSend (k : Fin 16)
  /-- Island comparators and DACs are tested with injected levels every 100 ms (R453). -/
  | comparatorTest (t : CompTarget) (pass : Bool)
  /-- Every 10 s the island's ROM signature is checked (R453). -/
  | islandRomCheck (pass : Bool)
  /-- Every 1 ms the edge counts of the enable lines are read back (R453). -/
  | enableLineCheck (j : Fin 32) (ok : Bool)
  /-- A module's own safe-output driver sources more than 10 mA for 1 ms while commanded off, setting a stuck-on diagnostic
  fault that makes a lodger ineligible (R455). -/
  | stuckOnFault (j : Fin 32)
  /-- A lodger's island demand reported in a twin message is acted on by the keyholder's island (R456). -/
  | lodgerSafetyDemand (x : SafeDemand)
  /-- The lodger receives the keyholder's forwarded inputs for a period and computes that period (R477). -/
  | forwardedInputs (period : Nat) (inputs : List Fwd) (sense : List (Int × Int × Int)) (poison : List (Fin 128)) (late : List (Fin 64))
  /-- A class of input disagrees for its count or time, which sets DUP_PLAUS and raises EV091 (R479). -/
  | plausibilityDisagreement (j : Fin 8)
  /-- The lodger compares each heard down frame with its own computed frame (R488). -/
  | downFrameCompare (period : Nat) (heard : List (Fin 64 × Option (BitVec 68))) (touched : BitVec 16)
  /-- On a dispute each module re-executes period p and sends its verdict (R490). -/
  | dispute (p : Nat) (pass : Bool) (digest : BitVec 64)
  /-- The exchanged verdicts fix the outcome by the table (R490). -/
  | disputeVerdict (pass : Bool) (digest : BitVec 64)
  /-- A lease renewal is heard on KEY_IN or as a twin message (R482). -/
  | leaseReceived (pin : Bool) (uid : BitVec 64) (station : BitVec 8)
  /-- After expiry and the 50 µs guard, an eligible lodger takes the key and starts driving (R484). -/
  | keyTake (heard : Bool) (wires : BitVec 32) (gap : Nat)
  /-- A module that has not learned its partner waits 10 ms without lease or frames, then takes the key (R486). -/
  | startupKeyWait (heard : Bool)
  /-- The host makes an ineligible lodger take the key as a cold start (R485). -/
  | dupCmdTake (heard : Bool)
  /-- Three whole rounds compared with no mismatch make the lodger synced (R495). -/
  | rejoinComplete (digestEqual : Bool) (levelEqual : Bool)
  /-- Every 10 ms the lodger computes its health score and publishes it (R493). -/
  | healthScore (fails : BitVec 5)
  /-- The keyholder receives the lodger's HEALTH twin message, updating PARTHEALTH and the partner's eligibility that surrender
  depends on (R493). -/
  | healthReceived (score : PartnerHealth) (eligible : Bool) (synced : Bool)
  /-- The partner absent, unsynced or ineligible for 1 s sets REDUCED and raises EV090 (R494). -/
  | reducedAvailability (absent : Bool)
  /-- An enabled port sends HAIL every 1 ms until authenticated, then every 100 ms (R501). -/
  | hail (p : Fin 6)
  /-- A HAIL from the peer starts authentication and address settlement (R501). -/
  | hailReceived (p : Fin 6) (h : Hail)
  /-- An AUTH frame carries certificates, signatures and key agreement for the link (R502). -/
  | authFrame (p : Fin 6) (chain : List Byte) (key : List Byte) (digest : List Byte) (sig : List Byte) (enc : Bool)
  /-- The link re-keys every 2^32 frames or 24 h (R502). -/
  | linkRekey (p : Fin 6)
  /-- A lane loses block lock and the link continues at half rate with EV093 (R497). -/
  | laneLoss (p : Fin 6) (lane : Fin 2)
  /-- A fabric or twin lane gains block lock, bringing the link or lane back into use (R497). -/
  | laneBlockLock (p : Fin 6) (lane : Fin 2)
  /-- A fabric frame is acknowledged, delivered or forwarded (R500). -/
  | fabricFrameReceived (p : Fin 6) (f : FabFrame) (check : List Byte)
  /-- An unacknowledged frame is resent after 20 µs, and after 8 tries the link goes down (R500). -/
  | fabricAckTimeout (p : Fin 6) (tries : Nat) (f : FabFrame)
  /-- An LSA is flooded on change or every 1 s, and paths are recomputed on receipt (R507). -/
  | lsa (received : Option (Fin 32 × BitVec 16 × List (Fin 32)))
  /-- Every 10 ms TIME frames are exchanged and fabric time is slewed (R509). -/
  | timeExchange (p : Fin 6) (t1 : Int) (t2 : Int) (t3 : Int) (t4 : Int) (synced : Bool) (inIsland : Bool)
  /-- A round post is received, and it is used or discarded as late (R514). -/
  | postReceived (q : Post)
  /-- A NOTIFY fabric frame records the sender and event and raises EV015 (R586). -/
  | notifyReceived (src : Fin 32) (event : Fin 128)
  /-- The device certificate is installed from the host window (R503). -/
  | fabCertcmdInstall (len : BitVec 13)
  /-- An internal compare-and-write to MEM_BANKOWN claims, releases or transfers a bank (R523). -/
  | bankHandover (b : Fin 64) (new : Fin 32) (compare : Fin 32) (dma : Bool)
  /-- A bank waking from Off or Retention becomes On after clearing or a wake scrub (R532). -/
  | bankWake (b : Fin 64) (bad : List (Fin 32768))
  /-- An owner requests Retention for its bank (R533). -/
  | bankRetentionRequest (agent : Fin 32) (b : Fin 64)
  /-- A write through the bit-set or bit-clear window is an atomic read-modify-write (R530). -/
  | aliasBitOperation (agent : Fin 32) (b : Fin 64) (w : Fin 32768) (mask : BitVec 64) (set_ : Bool) (bad : Bool)
  /-- A write narrower than 64 bits is a read-modify-write, and clears poison if that read fails (R529). -/
  | partialWrite (agent : Fin 32) (b : Fin 64) (w : Fin 32768) (data : BitVec 64) (mask : BitVec 8) (bad : Bool)
  /-- The Night Porter reads a word in a free port B handshake and writes back a correction (R536). -/
  | nightPorterScrub (b : Fin 64) (w : Fin 32768) (result : Fin 3) (synd : BitVec 8)
  /-- The host ORs a 32-bit mask into the host window half-word (R531). -/
  | memAtomset (mask : BitVec 32)
  /-- The host clears mask bits in the host window half-word (R531). -/
  | memAtomclr (mask : BitVec 32)
  /-- An enabled tamper input at its level for 10 µs wipes the Strongbox (R551). -/
  | tamper (k : Fin 4)
  /-- A TAMP input changes state without wiping, for example leaving its tamper level, updating MEM_TAMPSTAT.LEVEL and raising
  EV029 (R553). -/
  | tamperLevelChange (k : Fin 4) (pin : Bool)
  /-- A read of TXN_BEGIN opens a transaction and returns its handle, or 0 (R565). -/
  | txnBegin (agent : Fin 11)
  /-- A write of the handle validates the shadows and schedules the apply boundary, or refuses (R567). -/
  | txnCommit (agent : Fin 11) (handle : BitVec 16) (persist : Bool)
  /-- A write of the handle discards every shadow (R568). -/
  | txnAbort (agent : Fin 11) (handle : BitVec 16)
  /-- The persisted image is written and verified; the pointer moves and EV004 is raised (R569). -/
  | persistWriteComplete (ok : Bool)
  /-- A fabric prepare for a site change is validated, held and answered (R571). -/
  | txnPrepareReceived (station : BitVec 8) (handle : BitVec 16) (writes : List (Nat × Nat))
  /-- A peer's answer to a prepare is received (R571). -/
  | txnPrepareReply (station : BitVec 8) (code : BitVec 4)
  /-- A fabric commit schedules the held site change at the named round (R571). -/
  | txnFabricCommit (station : BitVec 8) (round : Nat)
  /-- A fabric abort rolls back the held prepare (R571). -/
  | txnFabricAbort (station : BitVec 8)
  /-- A POST fills an EMPTY pigeonhole and wakes the receiver (R579). -/
  | pghPost (agent : Fin 13) (h : Fin 32) (len : BitVec 16) (payload : List Byte) (addr : Fin 32) (epoch : BitVec 16)
  /-- The receiver takes a POSTED message (R579). -/
  | pghTake (agent : Fin 13) (h : Fin 32)
  /-- The receiver acknowledges with a return code and the sender is woken (R579). -/
  | pghAck (agent : Fin 13) (h : Fin 32) (code : BitVec 16)
  /-- The recorded sender empties an ACKED pigeonhole (R579). -/
  | pghDone (agent : Fin 13) (h : Fin 32)
  /-- A host port empties a pigeonhole (R579). -/
  | pghFlush (agent : Fin 13) (h : Fin 32)
  /-- Writing 1 clears a raw event bit unless a raise arrives in the same handshake (R584). -/
  | evtRawClear (k : Fin 4) (mask : BitVec 32) (raised : List (Fin 32 × BitVec 8))
  /-- Runs checks 1 to 5 on the named copy (R621). -/
  | nvmCheck (copy : Fin 2)
  /-- Checks the named copy and moves the pointer to it for the next Boot (R621). -/
  | nvmActivate (copy : Fin 2)
  /-- A flash operation completes with EV117, or fails with EV118 (R621). -/
  | nvmOpComplete (ok : Bool)
  /-- A host write to a register with no row of its own goes to a shadow, takes effect, or is refused (R564). -/
  | registerWrite (agent : Fin 11) (a : BitVec 32) (v : BitVec 32) (narrow : Bool) (env : HostEnv)
  /-- A UDP READ request returns COUNT words (R575). -/
  | hostRead (p : Fin 2) (h : UdpHead) (count : BitVec 16) (addr : BitVec 32) (env : HostEnv)
  /-- A UDP WRITE request writes COUNT words (R575). -/
  | hostWrite (p : Fin 2) (h : UdpHead) (count : BitVec 16) (addr : BitVec 32) (bytes : List Byte) (env : HostEnv)
  /-- A UDP POST stages data and posts it to a pigeonhole (R574). -/
  | hostPost (p : Fin 2) (h : UdpHead) (hole : BitVec 32) (bytes : List Byte)
  /-- A UDP PGHGET returns a pigeonhole's status, epochs, return code and payload (R574). -/
  | hostPghget (p : Fin 2) (h : UdpHead) (hole : BitVec 32)
  /-- The device sends a NOTIFY datagram with EVT_RAW, at most every 10 ms (R574). -/
  | hostNotify (p : Fin 2)
  /-- A UDP host datagram from a source not in HST_ALLOW, or with a malformed header or unknown OP, is answered DENIED or
  FORMAT, counted, and may raise EV111 (R573). -/
  | hostRequestDenied (p : Fin 2) (h : UdpHead) (magic : BitVec 16) (version : BitVec 8) (op : BitVec 8)
  /-- An ARP request on a host port is answered (R573). -/
  | arpRequest (p : Fin 2) (srcMac : List Byte) (src : BitVec 32) (target : BitVec 32)
  /-- An ICMP echo request on a host port is answered with an echo reply (R573). -/
  | icmpEchoRequest (p : Fin 2) (srcMac : List Byte) (src : BitVec 32) (target : BitVec 32) (payload : List Byte)
  /-- A SPI command 0x02 writes words at ascending addresses (R578). -/
  | spiWrite (addr : BitVec 32) (words : List (BitVec 32)) (whole : Bool) (env : HostEnv)
  /-- A SPI command 0x0B reads words after 8 dummy cycles (R578). -/
  | spiRead (addr : BitVec 32) (count : Nat) (whole : Bool) (env : HostEnv)
  /-- An SGMII host port's link comes up or goes down, updating HST_STAT.LINK and SPEED and raising EV108 or EV109 (R619). -/
  | ethernetLinkChange (p : Fin 2) (up : Bool) (speed : Fin 2)
  /-- VSUP leaves or returns to the operating range, setting RANGE and raising EV112 (R589). -/
  | vsupRangeChange (mv : Int)
  /-- V5, V33 or V18 out of ±10 % for 20 µs signals the core-rail undervoltage line (R593). -/
  | railFault (rail : Fin 4) (mv : Nat) (out : Bool)
  /-- A channel in current limit for ILIMT, or over temperature, switches off and latches (R604). -/
  | auxCurrentLimit (ch : Fin 48)
  /-- A channel commanded off reading above VSUP/2 for 10 ms latches STB (R605). -/
  | auxShortToVsup (ch : Fin 48)
  /-- Aggregate current above 16 A for 10 ms switches channels off in descending order (R606). -/
  | auxAggregateLimit (currents : List Nat)
  /-- A host write of a host channel's duty is applied at the next boundary and forwarded in a duplex station (R603). -/
  | auxDutyWrite (ch : Fin 48) (duty : BitVec 14)
  /-- The host clears a channel's fault bit if the condition is absent (R604). -/
  | auxFaultClear (ch : Fin 48) (absent : Bool)
  /-- Every 1 ms the lamp-mode applied duty is recomputed from VSUP (R602). -/
  | lampDutyUpdate (vsup : Nat)
  /-- A received CAN frame goes to its device user or the host FIFO (R617). -/
  | canFrameReceived (k : Fin 4) (f : CanFrame)
  /-- A transmission completes or fails after its retries (R614). -/
  | canFrameSent (k : Fin 4) (ok : Bool)
  /-- The host queues the frame in CAN_TXDATA for transmission (R614). -/
  | canTxcmdSend (k : Fin 4)
  /-- The host removes the oldest frame from the FIFO (R617). -/
  | canRxstatPop (k : Fin 4)
  /-- A port reaches bus-off and raises EV104+k (R618). -/
  | canBusOff (k : Fin 4)
  /-- After 128 occurrences of 11 recessive bits, the port recovers from bus-off (R618). -/
  | canBusOffRecovery (k : Fin 4)
  /-- A port's error counters put it into error passive and raise EV104+k (R618). -/
  | canErrorPassive (k : Fin 4) (tec : Nat) (rec : Nat)
  /-- Release of RESET_N after a cold reset moves the device to Boot (R57). -/
  | resetNRelease
  /-- A host write of SYS_CMD.WARM restarts all eight stewards in the same mode and aborts any open transaction (R72). -/
  | sysCmdWarm
  /-- The stewards complete their restart after a device warm reset and resume their sessions from checkpoints (R24). -/
  | warmRestartDone
  /-- The canary ring stops lapping for 100 µs, so the rail is held at 0.90 V (R27). -/
  | canaryStall
  /-- The core rail stays below 0.47 V for 2 µs, so the island demands BLOCK on every arc and the device enters Safe hold (R23).
  -/
  | coreRailUndervoltage
  /-- 3.18 µs before the boundary, the controller starts the down frame on every present string (R188). -/
  | downFrameStart
  /-- IDENT pages 0 to 6 are sent to every present string in READY or STOPPED (R207). -/
  | strCmdReident
  /-- Every STR_STRERR counter is cleared (R10). -/
  | strCmdClrcnt
  /-- Three consecutive missing SYNC_IN edges put TB2 into GLIDE (R222). -/
  | syncInMissing
  /-- TB2 reaches the internal frequency and STATE becomes INTERNAL (R222). -/
  | glideComplete
  /-- After 16 periods within 0.1 % phase error, TB2 STATE becomes LOCKED (R223). -/
  | relockComplete
  /-- A window of 2^K periods ends and the average registers update (R228). -/
  | telemetryWindowEnd
  /-- A request to start a pluck test at the next round boundary (R262). -/
  | tunCmdPluck
  /-- The running pluck test is aborted (R265). -/
  | tunCmdPluckstop
  /-- The last measured cycle ends; Ku, Tu and the suggested gains are computed (R264). -/
  | pluckTestComplete
  /-- The pluck test aborts on its abort band, its timeout, a connection, a BLOCK or a mode change (R265). -/
  | pluckTestAbort
  /-- A bow sweep is started on a dummy-load slot, or refused (R267). -/
  | tunCmdBow
  /-- The bow sweep is aborted (R272). -/
  | tunCmdBowstop
  /-- The capture bank is freed (R271). -/
  | tunCmdCapfree
  /-- The bow sweep ends because the signal is done or the capture bank is full (R271). -/
  | bowSweepEnd
  /-- The sweep aborts on over 110 % of rating, a BLOCK, Safe hold or a poisoned read (R272). -/
  | bowSweepAbort
  /-- At a round boundary the Innkeeper snapshots its inputs, computes grants, arcs, pencils and sheds, and posts to the fabric
  (R113). -/
  | roundBoundary
  /-- At the first round boundary after each whole second, the Purse plans site import, the budget and the battery request
  (R655). -/
  | sitePlan
  /-- A plan older than 3 s is replaced by the station floor, and STALE is set (R167). -/
  | planStale
  /-- A new demand window begins, and the feed import counts at its start are recorded in MRAM (R656). -/
  | demandWindowStart
  /-- Each second, blanked samples above EVTRATE × 1,000 raise EV098 (R335). -/
  | blankRateCheck
  /-- Three missing half-cycles set beacon FALLBACK and raise EV097 (R330). -/
  | beaconFallback
  /-- The host's pigeonhole acknowledgement delivers the relay response to the vehicle (R354). -/
  | relayAnswer
  /-- Daily, a leaf expiring within 30 days, or an unknown time, raises EV101 (R352). -/
  | identityExpiryCheck
  /-- Every 1 ms each outlet's cable model updates tc, tk and the hot spot (R364). -/
  | cableModelUpdate
  /-- Every 100 ms the cable, contact and thermal ceilings are computed (R367). -/
  | ceilingCompute
  /-- After 1 s of good conversions the diode fault clears and the rate regime restarts (R382). -/
  | diodeFaultClear
  /-- Every 100 ms the rate of rise and the throttle target are computed (R384). -/
  | rateUpdate
  /-- A rate at or above WARNRATE throughout WARNTIME sets WARN and raises EV064 (R383). -/
  | dieWarning
  /-- The diode at 150 °C trips hardware into Thermal shutdown, with BLOCK and the shutdown record (R388). -/
  | hardwareTrip
  /-- 10 ms after the shutdown BLOCK, the island releases the safe outputs (R389). -/
  | shutdownOutputRelease
  /-- Every 100 ms the peak temperature in the shutdown record is updated (R389). -/
  | shutdownPeakUpdate
  /-- 60 s below release in Recovery releases the shutdown record and leads to Boot (R391). -/
  | recoveryDwellComplete
  /-- Once per second TB9 is corrected from the diode temperature (R381). -/
  | rtcCompensation
  /-- Every 1 ms the reference correction is computed from the diode temperature (R401). -/
  | refcorrUpdate
  /-- No crossing within TMO sets ZCSTATE FALLBACK and raises EV072 (R409). -/
  | zeroCrossingTimeout
  /-- The end of every Nth counted cycle latches all enabled scopes and takes LATCH records (R412). -/
  | cycleLatch
  /-- The host latches at the next sample boundary with HOST records (R411). -/
  | talCmdLatch
  /-- Signing of a queued record completes in RECSEQ order (R418). -/
  | recordSigned
  /-- A safety demand seen by one island only for longer than 10 ms raises EV087 on both modules (R456). -/
  | duplexSafetyDisagreement
  /-- Forwarded inputs have not arrived by SAMPLE_DELAY + 8.5 µs (R480). -/
  | forwardedInputsMissing
  /-- Every 100 µs the keyholder renews the lease by KEY_OUT pulse and LEASE message (R481). -/
  | leaseRenewal
  /-- 400 µs after the last renewal, the partner's lease is seen as expired (R482). -/
  | leaseExpiry
  /-- The keyholder island, 400 µs after its own last renewal, releases outputs and DN drivers (R483). -/
  | keyholderSelfRelease
  /-- The keyholder hands the key over at the next boundary (R487). -/
  | dupCmdSurrender
  /-- The host starts a rejoin (R495). -/
  | dupCmdRejoin
  /-- 10 ms after hearing the new keyholder's down frame, a former keyholder switches its shared channels off (R474). -/
  | sharedChannelsOff
  /-- An error between 1 µs and 1 ms is stepped at a boundary in the middle third of a round (R510). -/
  | timeStep
  /-- An error above 1 ms enters Island and steps to the source (R511). -/
  | timeErrorIsland
  /-- The source leaves and the next station becomes source without a step (R508). -/
  | timeSourceChange
  /-- The fabric device key pair is generated in the Strongbox (R503). -/
  | fabCertcmdGenerate
  /-- The fabric device key and certificate are erased (R503). -/
  | fabCertcmdErase
  /-- A scrub lap ends and LAST is updated (R536). -/
  | nightPorterLapEnd
  /-- A lap reaching LAPMAX raises EV018 (R537). -/
  | lapOverLapmax
  /-- After the last word is copied, the mapping switches and the retired list is written (R543). -/
  | migrationSwitch
  /-- The die shield mesh breaks and the Strongbox is wiped (R550). -/
  | shieldBreak
  /-- A transaction still open after TXN_TIMEOUT is aborted with code 7 (R568). -/
  | txnTimeoutExpiry
  /-- Answers missing after 50 ms lead to an abort, and the commit is refused with code 8 (R571). -/
  | txnPrepareTimeout
  /-- A prepare held 1 s without commit or abort rolls back (R571). -/
  | txnPrepareHoldExpiry
  /-- Every 100 ms the waiting Guestbook entries are written to MRAM (R587). -/
  | guestbookFlush
  /-- Erases a 64 KiB flash sector (R621). -/
  | nvmErase
  /-- Programs flash from the host window (R621). -/
  | nvmProgram
  /-- Reads flash into the host window (R621). -/
  | nvmRead
  /-- Ends the host's hold on the inactive copy and lets a postponed persist run (R623). -/
  | nvmRelease
  /-- A SPI command 0x05 returns the status byte (R578). -/
  | spiStatus
  /-- A 3.3 V output read-back differing for 1 ms raises EV119 (R595). -/
  | outputShort
deriving DecidableEq, Repr

end Sys2Proof
end

