-- ==== Sys2Proof/Machine/Crypto.lean ====
section
/-! DEFINITION. The digests and check sums the spec names by their standards: SHA-256 (FIPS 180-4, PRESUMED, log 5),
CRC-16 with polynomial 0x1021 (R187), the CRC-32 of IEEE 802.3 (R587) and the CRC-32 with polynomial 0xF4ACFB13 of the safe
frames (R459). -/

namespace Sys2Proof.Machine

/-- One bit of a most-significant-bit-first CRC of width `w`. -/
def crcBit (w poly : Nat) (c : Nat) (b : Bool) : Nat :=
  let top := (c / 2 ^ (w - 1)) % 2 = 1
  let c' := (c * 2) % 2 ^ w
  if top != b then c' ^^^ poly else c'

/-- A most-significant-bit-first CRC over bits, from an initial value. -/
def crcBits (w poly init : Nat) (bits : List Bool) : Nat := bits.foldl (crcBit w poly) init

/-- The low `n` bits of a number, most significant first (R14). -/
def bitsOf : Nat → Nat → List Bool
  | 0, _ => []
  | n + 1, v => v.testBit n :: bitsOf n v

/-- The number whose bits, most significant first, are given. -/
def ofBits (bits : List Bool) : Nat := bits.foldl (fun a b => 2 * a + (if b then 1 else 0)) 0

/-- CRC-16 of the cell-link frames: polynomial 0x1021, initial value 0xFFFF (R187). -/
def crc16 (bits : List Bool) : Nat := crcBits 16 0x1021 0xFFFF bits

/-- One byte of a least-significant-bit-first (reflected) CRC-32. -/
def crc32Byte (rpoly : Nat) (c : Nat) (b : Byte) : Nat :=
  (List.range 8).foldl (fun c _ => if c % 2 = 1 then (c / 2) ^^^ rpoly else c / 2) (c ^^^ b.toNat)

/-- A reflected CRC-32 with initial value and final XOR of all ones. -/
def crc32r (rpoly : Nat) (bytes : List Byte) : Nat :=
  (bytes.foldl (crc32Byte rpoly) 0xFFFFFFFF) ^^^ 0xFFFFFFFF

/-- CRC-32 per IEEE 802.3 (R587). -/
def crc32Ieee (bytes : List Byte) : Nat := crc32r 0xEDB88320 bytes

/-- CRC-32 of the safe frames: polynomial 0xF4ACFB13, reflected (R459). -/
def crc32Safe (bytes : List Byte) : Nat := crc32r 0xC8DF352F bytes

/-- The bits of a byte list, most significant bit of the first byte first. -/
def byteBits (bytes : List Byte) : List Bool := bytes.flatMap fun b => bitsOf 8 b.toNat

/-- Little-endian bytes of a number (R15). -/
def leBytes : Nat → Nat → List Byte
  | 0, _ => []
  | n + 1, v => BitVec.ofNat 8 v :: leBytes n (v / 256)

/-- The number whose little-endian bytes are given. -/
def ofLe : List Byte → Nat
  | [] => 0
  | b :: rest => b.toNat + 256 * ofLe rest

/-- Big-endian bytes of a number. -/
def beBytes (n v : Nat) : List Byte := (leBytes n v).reverse

/-- The number whose big-endian bytes are given. -/
def ofBe (bs : List Byte) : Nat := ofLe bs.reverse

/-- The 32-bit words of a number of `n` words, the highest first. -/
def wordsOf (n x : Nat) : List Nat := (List.range n).map fun i => x / 2 ^ (32 * (n - 1 - i)) % 2 ^ 32

/-- The 64 round constants of SHA-256, sixteen to a number: the fractional parts of the cube roots of the first primes. -/
def shaConstants : List Nat := [
  0x428A2F9871374491B5C0FBCFE9B5DBA53956C25B59F111F1923F82A4AB1C5ED5D807AA9812835B01243185BE550C7DC372BE5D7480DEB1FE9BDC06A7C19BF174,
  0xE49B69C1EFBE47860FC19DC6240CA1CC2DE92C6F4A7484AA5CB0A9DC76F988DA983E5152A831C66DB00327C8BF597FC7C6E00BF3D5A7914706CA635114292967,
  0x27B70A852E1B21384D2C6DFC53380D13650A7354766A0ABB81C2C92E92722C85A2BFE8A1A81A664BC24B8B70C76C51A3D192E819D6990624F40E3585106AA070,
  0x19A4C1161E376C082748774C34B0BCB5391C0CB34ED8AA4A5B9CCA4F682E6FF3748F82EE78A5636F84C878148CC7020890BEFFFAA4506CEBBEF9A3F7C67178F2].flatMap (wordsOf 16)

/-- A 32-bit rotation to the right. -/
def shaRotr (n x : Nat) : Nat := (x >>> n) ||| ((x <<< (32 - n)) % 2 ^ 32)

/-- The message schedule: each further word from the sixteen newest, which are kept newest first. -/
def shaExpand : Nat → List Nat → List Nat
  | 0, ws => ws
  | n + 1, ws =>
    let w2 := ws.getD 1 0
    let w7 := ws.getD 6 0
    let w15 := ws.getD 14 0
    let w16 := ws.getD 15 0
    let s0 := shaRotr 7 w15 ^^^ shaRotr 18 w15 ^^^ (w15 >>> 3)
    let s1 := shaRotr 17 w2 ^^^ shaRotr 19 w2 ^^^ (w2 >>> 10)
    shaExpand n ((s1 + w7 + s0 + w16) % 2 ^ 32 :: ws)

/-- One SHA-256 round on the eight working variables. -/
def shaRound (v : List Nat) (kw : Nat × Nat) : List Nat :=
  match v with
  | [a, b, c, d, e, f, g, h] =>
    let s1 := shaRotr 6 e ^^^ shaRotr 11 e ^^^ shaRotr 25 e
    let ch := (e &&& f) ^^^ ((0xFFFFFFFF ^^^ e) &&& g)
    let t1 := h + s1 + ch + kw.1 + kw.2
    let s0 := shaRotr 2 a ^^^ shaRotr 13 a ^^^ shaRotr 22 a
    let mj := (a &&& b) ^^^ (a &&& c) ^^^ (b &&& c)
    [(t1 + s0 + mj) % 2 ^ 32, a, b, c, (d + t1) % 2 ^ 32, e, f, g]
  | v => v

/-- One 64-byte block. -/
def shaBlock (hs : List Nat) (block : List Byte) : List Nat :=
  let w := (List.range 16).map fun i => ofBe ((block.drop (4 * i)).take 4)
  let sched := (shaExpand 48 w.reverse).reverse
  let out := (shaConstants.zip sched).foldl shaRound hs
  (hs.zip out).map fun p => (p.1 + p.2) % 2 ^ 32

/-- The blocks of a padded message, `n` of them. -/
def shaBlocks : Nat → List Nat → List Byte → List Nat
  | 0, hs, _ => hs
  | n + 1, hs, m => shaBlocks n (shaBlock hs (m.take 64)) (m.drop 64)

/-- SHA-256 of a byte string. -/
def sha256 (msg : List Byte) : List Byte :=
  let len := msg.length
  let padded := msg ++ [0x80#8] ++ List.replicate ((119 - len % 64) % 64) 0#8 ++ beBytes 8 (8 * len)
  let hs := shaBlocks (padded.length / 64)
    (wordsOf 8 0x6A09E667BB67AE853C6EF372A54FF53A510E527F9B05688C1F83D9AB5BE0CD19) padded
  hs.flatMap (beBytes 4)

end Sys2Proof.Machine
end

