-- ==== Sys2Proof/Config.lean ====
section
/-! DEFINITION. What an implementation fixes and the free values: constants with no body, so that a claim is true
whatever they are. Functions of `Nat → …` whose argument is a counter of the state (`Dev.freeCtr`) give a fresh value at
each use. -/

namespace Sys2Proof.Config

/-- Whether a `RESET_N` pulse of 1 µs to 10 µs is taken as a cold reset: it "may or may not be" (R73). -/
opaque shortReset : Nat → Bool

/-- ECDSA verification: public key, message digest, signature (R556, R502, R418). -/
opaque ecdsaVerify : List Byte → List Byte → List Byte → Bool

/-- ECDSA signature by the key pair whose secret is the first argument; the nonce is free (second argument). -/
opaque ecdsaSign : List Byte → Nat → List Byte → List Byte

/-- The vendor public key in ROM (R5). -/
opaque vendorKey : List Byte

/-- The device persist key pair, derived at every Boot from a secret in the trim area (R560): secret and public key. -/
opaque persistSecret : List Byte
opaque persistKey : List Byte

/-- A fresh key pair made in the Strongbox: its secret, by counter; and its public key X then Y (R100, R350, R503, R624). -/
opaque newSecret : Nat → List Byte
opaque publicKey : List Byte → List Byte

/-- Whether a certificate chain given as DER bytes is well formed and its leaf names this public key (R350, R503). -/
opaque chainNamesKey : List Byte → List Byte → Bool

/-- Whether a certificate chain verifies under one of the given root certificates (R348, R502). -/
opaque chainVerifies : List Byte → List (List Byte) → Bool

/-- Seconds since 1970 from which every certificate of a chain is valid, and at which the first of them expires (R352). -/
opaque chainStart : List Byte → Nat
opaque chainEnd : List Byte → Nat

/-- Seconds since 1970 at which the leaf of a certificate chain expires (R352). -/
opaque chainExpiry : List Byte → Nat

/-- AES-GCM sealing and opening of a fabric frame: key, counter, text (R502). -/
opaque aeadSeal : List Byte → Nat → List Byte → List Byte
opaque aeadOpen : List Byte → Nat → List Byte → Option (List Byte)

/-- Whether a Guestbook entry that finds the 256-entry waiting buffer full is kept: the spec states no result (R587). -/
opaque guestbookOverflow : Nat → Bool

/-- Whether an entry of the bow sweep's sine table that is not whole is rounded away from 0: the spec does not give its rounding
(R270). -/
opaque sineUp : Nat → Bool

/-- Whether a quotient that is not whole is rounded up where the spec gives a division and no rounding: numerator and
denominator (R228, R399, R401, R404). -/
opaque roundsUp : Int → Nat → Bool

/-- The four-sample interpolation of the phase correction: PHASE in 0.001°, frequency in mHz, the sample and the three
before it; the spec gives no coefficients (R399). -/
opaque phaseShift : Int → Nat → List Int → Int

/-- The 64-bit digest of a posted set: the spec gives no function (R514). -/
opaque postDigest : List (List Nat) → Nat

/-- ADDR of a reply datagram, by OP and TAG, and TAG, COUNT, ADDR and STATUS (0 to 3) of a NOTIFY: R574 does not state them. -/
opaque replyAddr : Nat → Nat → Nat
opaque notifyField : Nat → Nat

/-- A value the spec leaves open where the machine goes on, by counter. -/
opaque freeNat : Nat → Nat

end Sys2Proof.Config
end

