-- ==== Sys2Proof/Machine/Cells.lean ====
section
/-! DEFINITION. Sparse tables: a list of (key, value) pairs in one canonical form (keys strictly rising, no entry equal
to what an unlisted key reads as). Registers, SRAM and flash bytes, MRAM items and every per-index context of the
device are such tables. -/

namespace Sys2Proof.Machine

/-- Reads one key of a table; a key with no entry reads as `dflt`. -/
def tget {α : Type} (dflt : α) : List (Nat × α) → Nat → α
  | [], _ => dflt
  | (k', v) :: rest, k => if k' = k then v else tget dflt rest k

/-- Drops the entry of a key. -/
def tdrop {α : Type} : List (Nat × α) → Nat → List (Nat × α)
  | [], _ => []
  | (k', v) :: rest, k => if k' = k then tdrop rest k else (k', v) :: tdrop rest k

/-- Inserts an entry before the first larger key. -/
def tinsert {α : Type} : List (Nat × α) → Nat → α → List (Nat × α)
  | [], k, v => [(k, v)]
  | (k', v') :: rest, k, v => if k < k' then (k, v) :: (k', v') :: rest else (k', v') :: tinsert rest k v

/-- Writes one key of a table; writing what an unlisted key reads as removes the entry. -/
def tput {α : Type} [DecidableEq α] (dflt : α) (m : List (Nat × α)) (k : Nat) (v : α) : List (Nat × α) :=
  if v = dflt then tdrop m k else tinsert (tdrop m k) k v

/-- Applies a function to one key's value. -/
def tmod {α : Type} [DecidableEq α] (dflt : α) (m : List (Nat × α)) (k : Nat) (f : α → α) : List (Nat × α) :=
  tput dflt m k (f (tget dflt m k))

/-- The canonical form: keys strictly rising and no entry equal to the default. -/
def tableWf {α : Type} [DecidableEq α] (dflt : α) : List (Nat × α) → Bool
  | [] => true
  | (k, v) :: rest =>
    (v != dflt) && (rest.all fun e => decide (k < e.1)) && tableWf dflt rest

end Sys2Proof.Machine
end

