-- ==== Sys2Proof/Machine/Fields.lean ====
section
/-! DEFINITION. What a register field is: its key in the register file and its width; what the register table says of
it (access R10, lock R11, whether the TAB loads it R13). -/

namespace Sys2Proof.Machine

/-- A register field: `key` is 32 × the register's address plus the field's lowest bit, `width` its width in bits. -/
structure Fld where
  key : Nat
  width : Nat
deriving DecidableEq, Repr

/-- The access codes of R10. -/
inductive Acc where
  | ro | rw | wo | w1c | rwl
deriving DecidableEq, Repr

/-- The lock points of R11. -/
inductive Lock where
  | open | commit | seal
deriving DecidableEq, Repr

/-- What the Reset column names (R13): a stated power-on value, the TAB image, MRAM, the trim area, a fixed value. -/
inductive Src where
  | por | tab | mram | trim | fixed
deriving DecidableEq, Repr

/-- One field of a register as the register maps give it. -/
structure FieldDesc where
  lo : Nat
  width : Nat
  acc : Acc
  lock : Lock
  src : Src
  reset : Nat
  /-- The default that the register map states for a TAB field no record sets (R558). -/
  tabDefault : Nat
deriving DecidableEq, Repr

/-- One register heading: the address at index 0, (stride, count) per index, and its fields. -/
structure RegDesc where
  addr : Nat
  dims : List (Nat × Nat)
  fields : List FieldDesc
deriving DecidableEq, Repr

/-- Whether an offset is reached by the indices of a register heading. -/
def dimsHit : List (Nat × Nat) → Nat → Bool
  | [], r => r = 0
  | (st, n) :: rest, r => decide (r / st < n) && dimsHit rest (r % st)

/-- Whether the register heading occupies the address. -/
def RegDesc.hits (d : RegDesc) (a : Nat) : Bool :=
  decide (d.addr ≤ a) && dimsHit d.dims (a - d.addr)

end Sys2Proof.Machine
end

