-- ==== Sys2Proof/Machine/RegTable.lean ====
section
/-! DEFINITION. The register maps of the spec as one table: address, index strides, and each field's place, access, lock,
whether the TAB loads it, and its power-on value. Values the spec gives as TAB, MRAM, trim or fixed stand as 0 here
(DESIGN CHOICE, log 2). -/

namespace Sys2Proof.Machine

/-- The TB registers. -/
def regTableTb : List RegDesc := [
   -- TB_STATUS
   .mk 0x40050000 [] [.mk 16 12 .ro .open .por 0 0, .mk 0 12 .ro .open .por 3585 0],
   -- TB_FAULTLATCH
   .mk 0x40050004 [] [.mk 0 12 .w1c .open .por 0 0],
   -- TB_TIME_LO
   .mk 0x40050008 [] [.mk 0 32 .ro .open .por 0 0],
   -- TB_TIME_HI
   .mk 0x4005000C [] [.mk 0 32 .ro .open .por 0 0],
   -- TB_TB2CFG
   .mk 0x40050010 [] [.mk 17 1 .rwl .commit .tab 0 0, .mk 16 1 .rwl .commit .tab 0 0, .mk 0 7 .rwl .commit .tab 0 20],
   -- TB_TB2STAT
   .mk 0x40050014 [] [.mk 16 16 .ro .open .por 0 0, .mk 4 4 .ro .open .por 0 0, .mk 0 2 .ro .open .por 0 0],
   -- TB_PERIOD_LO
   .mk 0x40050018 [] [.mk 0 32 .ro .open .por 0 0],
   -- TB_PERIOD_HI
   .mk 0x4005001C [] [.mk 0 32 .ro .open .por 0 0],
   -- TB_RTC_SEC
   .mk 0x40050020 [] [.mk 0 32 .rw .open .por 0 0],
   -- TB_RTC_FRAC
   .mk 0x40050024 [] [.mk 0 15 .ro .open .por 0 0],
   -- TB_TB10_MEAS
   .mk 0x40050028 [] [.mk 0 24 .ro .open .por 0 0],
   -- TB_COMP
   .mk 0x4005002C [] [.mk 0 16 .ro .open .por 0 0]]

/-- The INK registers, part A. -/
def regTableInkA : List RegDesc := [
   -- INK_CFG
   .mk 0x40080000 [] [.mk 17 1 .rw .open .tab 0 0, .mk 16 1 .rw .open .tab 0 0, .mk 0 16 .rw .open .tab 0 500],
   -- INK_STATUS
   .mk 0x40080004 [] [.mk 16 16 .ro .open .por 0 0, .mk 8 8 .ro .open .por 0 0, .mk 0 1 .ro .open .por 0 0],
   -- INK_ROUND
   .mk 0x40080008 [] [.mk 0 32 .ro .open .por 0 0],
   -- INK_CELLCFG
   .mk 0x4008000C [] [.mk 16 12 .rwl .commit .tab 0 0, .mk 0 16 .rwl .commit .tab 0 0],
   -- INK_TIECFG
   .mk 0x40080010 [] [.mk 0 16 .rwl .commit .tab 0 0],
   -- INK_MOVECFG
   .mk 0x40080014 [] [.mk 27 5 .rw .open .tab 0 5, .mk 24 3 .rw .open .tab 0 1, .mk 19 5 .rw .open .tab 0 8, .mk 14 5 .rw .open .tab 0 6, .mk 9 5 .rw .open .tab 0 10, .mk 4 5 .rw .open .tab 0 5, .mk 0 4 .rw .open .tab 0 5],
   -- INK_MOVECFG2
   .mk 0x40080018 [] [.mk 0 5 .rw .open .tab 0 16],
   -- INK_SHEDCFG
   .mk 0x4008001C [] [.mk 24 8 .rw .open .tab 0 25, .mk 16 8 .rw .open .tab 0 70, .mk 8 8 .rw .open .tab 0 85, .mk 4 4 .rw .open .tab 0 2, .mk 0 4 .rw .open .tab 0 5],
   -- INK_SHARECFG
   .mk 0x40080020 [] [.mk 16 1 .rw .open .tab 0 0, .mk 8 8 .rw .open .tab 0 20, .mk 0 8 .rw .open .tab 0 20],
   -- INK_SPECCFG
   .mk 0x40080024 [] [.mk 0 16 .rw .open .tab 0 12000],
   -- INK_TIESTATE
   .mk 0x40080028 [] [.mk 16 16 .ro .open .por 0 0, .mk 0 16 .ro .open .por 0 0],
   -- INK_TIESTUCK
   .mk 0x4008002C [] [.mk 16 16 .w1c .open .por 0 0, .mk 0 16 .w1c .open .por 0 0]]

/-- The INK registers, part B. -/
def regTableInkB : List RegDesc := [
   -- INK_COURSECFG
   .mk 0x40080080 [(4, 16)] [.mk 0 2 .rwl .commit .tab 0 0],
   -- INK_COURSE
   .mk 0x40080100 [(4, 16)] [.mk 12 3 .ro .open .por 0 0, .mk 8 4 .ro .open .por 0 0, .mk 0 5 .ro .open .por 31 0],
   -- INK_GRANT
   .mk 0x40080200 [(4, 16)] [.mk 28 4 .ro .open .por 0 0, .mk 16 5 .ro .open .por 0 0, .mk 0 16 .ro .open .por 0 0],
   -- INK_OUTCFG
   .mk 0x40080240 [(4, 16)] [.mk 30 2 .rw .open .tab 0 0, .mk 21 9 .rw .open .tab 0 50, .mk 10 11 .rw .open .tab 0 0, .mk 0 10 .rw .open .tab 0 0],
   -- INK_OUTLIM
   .mk 0x40080280 [(4, 16)] [.mk 0 16 .rwl .commit .tab 0 0],
   -- INK_OUTFCV
   .mk 0x400802C0 [(4, 16)] [.mk 0 16 .rw .open .tab 0 8000],
   -- INK_STRING
   .mk 0x40080300 [(4, 64)] [.mk 28 3 .ro .open .por 0 0, .mk 16 12 .ro .open .por 0 0, .mk 0 16 .ro .open .por 0 0],
   -- INK_PENCIL
   .mk 0x40080400 [(8, 16)] [.mk 31 1 .ro .open .por 0 0, .mk 28 3 .ro .open .por 0 0, .mk 16 12 .ro .open .por 0 0, .mk 0 16 .ro .open .por 0 0],
   -- INK_PENCILMASK
   .mk 0x40080404 [(8, 16)] [.mk 17 7 .ro .open .por 0 0, .mk 16 1 .ro .open .por 0 0, .mk 0 16 .ro .open .por 0 0]]

/-- The PRS registers, part A. -/
def regTablePrsA : List RegDesc := [
   -- PRS_STATUS
   .mk 0x40090000 [] [.mk 16 16 .ro .open .por 0 0, .mk 8 8 .ro .open .por 0 0, .mk 1 1 .ro .open .por 0 0, .mk 0 1 .ro .open .por 0 0],
   -- PRS_CURTAIL
   .mk 0x40090004 [] [.mk 6 1 .ro .open .por 0 0, .mk 5 1 .ro .open .por 0 0, .mk 4 1 .ro .open .por 0 0, .mk 3 1 .ro .open .por 0 0, .mk 2 1 .ro .open .por 0 0, .mk 1 1 .ro .open .por 0 0, .mk 0 1 .ro .open .por 0 0],
   -- PRS_SITECFG
   .mk 0x40090008 [] [.mk 2 8 .rw .open .tab 0 20, .mk 0 2 .rw .open .tab 0 1],
   -- PRS_IMPORTLIM
   .mk 0x4009000C [] [.mk 0 18 .rw .open .tab 0 0],
   -- PRS_CONTRACT
   .mk 0x40090010 [] [.mk 0 18 .rw .open .tab 0 0],
   -- PRS_STATIONFLOOR
   .mk 0x40090014 [] [.mk 0 16 .rw .open .tab 0 0],
   -- PRS_FEEDLIM
   .mk 0x40090020 [(4, 4)] [.mk 16 16 .ro .open .por 0 0, .mk 0 16 .rw .open .tab 0 0],
   -- PRS_BATT
   .mk 0x40090030 [] [.mk 31 1 .ro .open .por 0 0, .mk 24 7 .ro .open .por 0 0, .mk 0 24 .ro .open .por 0 0],
   -- PRS_WINUSED
   .mk 0x40090034 [] [.mk 0 32 .ro .open .por 0 0],
   -- PRS_PLAN
   .mk 0x40090038 [] [.mk 0 32 .ro .open .por 0 0],
   -- PRS_SHARE
   .mk 0x4009003C [] [.mk 0 32 .ro .open .por 0 0],
   -- PRS_RESERVE
   .mk 0x40090040 [] [.mk 0 32 .ro .open .por 0 0]]

/-- The PRS registers, part B. -/
def regTablePrsB : List RegDesc := [
   -- PRS_DEVCFG
   .mk 0x40090080 [] [.mk 24 8 .rw .open .tab 0 200, .mk 16 8 .rw .open .tab 0 100, .mk 0 5 .rw .open .tab 0 10],
   -- PRS_DEVSTAT
   .mk 0x40090084 [] [.mk 31 1 .ro .open .por 0 0, .mk 30 1 .ro .open .por 0 0, .mk 16 6 .ro .open .por 40 0, .mk 0 16 .ro .open .por 0 0],
   -- PRS_DEVPOWER
   .mk 0x40090088 [] [.mk 0 16 .ro .open .por 0 0],
   -- PRS_GATE
   .mk 0x4009008C [] [.mk 16 16 .ro .open .por 0 0, .mk 0 16 .ro .open .por 0 0],
   -- PRS_HOLDUP
   .mk 0x40090090 [] [.mk 16 16 .ro .open .por 0 0, .mk 0 16 .ro .open .por 0 0],
   -- PRS_CANARY
   .mk 0x40090094 [] [.mk 16 16 .ro .open .trim 0 0, .mk 0 16 .ro .open .por 0 0],
   -- PRS_FABSTAT
   .mk 0x40090100 [] [.mk 0 32 .ro .open .por 0 0],
   -- PRS_POST
   .mk 0x40090140 [(4, 32)] [.mk 28 4 .ro .open .por 0 0, .mk 25 3 .ro .open .por 0 0, .mk 0 16 .ro .open .por 0 0],
   -- PRS_SHAREOF
   .mk 0x400901C0 [(4, 32)] [.mk 16 16 .ro .open .por 0 0, .mk 0 16 .ro .open .por 0 0]]

/-- The STR registers, part A. -/
def regTableStrA : List RegDesc := [
   -- STR_LINKCFG
   .mk 0x400A0000 [] [.mk 28 4 .rw .open .tab 0 10, .mk 24 1 .rwl .commit .tab 0 0, .mk 16 8 .rw .open .tab 0 20, .mk 0 13 .rwl .commit .tab 0 200],
   -- STR_TELCFG
   .mk 0x400A0004 [] [.mk 0 5 .rw .open .tab 0 10],
   -- STR_SENSECFG
   .mk 0x400A0008 [] [.mk 0 8 .rw .open .tab 0 20],
   -- STR_SENSE
   .mk 0x400A000C [] [.mk 16 16 .ro .open .por 0 0, .mk 0 16 .ro .open .por 0 0],
   -- STR_CMD
   .mk 0x400A0010 [] [.mk 1 1 .wo .open .por 0 0, .mk 0 1 .wo .open .por 0 0],
   -- STR_BLOCKSTAT
   .mk 0x400A0014 [] [.mk 16 16 .ro .open .por 0 0, .mk 0 16 .ro .open .por 0 0],
   -- STR_FAULT_LO
   .mk 0x400A0018 [] [.mk 0 32 .ro .open .por 0 0],
   -- STR_FAULT_HI
   .mk 0x400A001C [] [.mk 0 32 .ro .open .por 0 0],
   -- STR_IDSEL
   .mk 0x400A0020 [] [.mk 31 1 .ro .open .por 0 0, .mk 8 6 .rw .open .por 0 0, .mk 0 4 .rw .open .por 0 0],
   -- STR_IDDATA
   .mk 0x400A0024 [] [.mk 0 32 .ro .open .por 0 0],
   -- STR_STRCFG
   .mk 0x400A0100 [(4, 64)] [.mk 16 1 .rwl .commit .tab 0 0, .mk 0 8 .rw .open .tab 0 0],
   -- STR_STRSTAT
   .mk 0x400A0200 [(4, 64)] [.mk 29 3 .ro .open .por 0 0, .mk 25 4 .ro .open .por 0 0, .mk 24 1 .ro .open .por 0 0, .mk 20 4 .ro .open .por 0 0, .mk 16 1 .ro .open .por 0 0, .mk 0 16 .ro .open .por 0 0]]

/-- The STR registers, part B. -/
def regTableStrB : List RegDesc := [
   -- STR_STRERR
   .mk 0x400A0300 [(4, 64)] [.mk 16 16 .ro .open .por 0 0, .mk 0 16 .ro .open .por 0 0],
   -- STR_TELAVG
   .mk 0x400A1000 [(16, 64), (4, 4)] [.mk 0 32 .ro .open .por 0 0],
   -- STR_TELMAX
   .mk 0x400A1400 [(16, 64), (4, 4)] [.mk 0 32 .ro .open .por 0 0],
   -- STR_TELMIN
   .mk 0x400A1800 [(16, 64), (4, 4)] [.mk 0 32 .ro .open .por 0 0],
   -- STR_OUTAVG
   .mk 0x400A1C00 [(16, 16), (4, 4)] [.mk 0 32 .ro .open .por 0 0],
   -- STR_OUTMAX
   .mk 0x400A1D00 [(16, 16), (4, 4)] [.mk 0 32 .ro .open .por 0 0],
   -- STR_OUTMIN
   .mk 0x400A1E00 [(16, 16), (4, 4)] [.mk 0 32 .ro .open .por 0 0]]

/-- The TUN registers, part A. -/
def regTableTunA : List RegDesc := [
   -- TUN_STATUS
   .mk 0x400C0000 [] [.mk 16 16 .ro .open .por 0 0, .mk 0 16 .ro .open .por 0 0],
   -- TUN_CMD
   .mk 0x400C0004 [] [.mk 4 1 .wo .open .por 0 0, .mk 3 1 .wo .open .por 0 0, .mk 2 1 .wo .open .por 0 0, .mk 1 1 .wo .open .por 0 0, .mk 0 1 .wo .open .por 0 0],
   -- TUN_PLUCKCFG
   .mk 0x400C0010 [] [.mk 25 7 .rw .open .por 0 0, .mk 22 3 .rw .open .por 4 0, .mk 10 12 .rw .open .por 1200 0],
   -- TUN_PLUCKOUT
   .mk 0x400C0014 [] [.mk 16 16 .rw .open .por 5000 0, .mk 0 16 .rw .open .por 1000 0],
   -- TUN_PLUCKERR
   .mk 0x400C0018 [] [.mk 16 16 .rw .open .por 500 0, .mk 0 16 .rw .open .por 10 0],
   -- TUN_PLUCKSTAT
   .mk 0x400C001C [] [.mk 28 4 .ro .open .por 0 0, .mk 24 4 .ro .open .por 0 0, .mk 20 4 .ro .open .por 0 0, .mk 0 20 .ro .open .por 0 0],
   -- TUN_PLUCKKU
   .mk 0x400C0020 [] [.mk 0 32 .ro .open .por 0 0],
   -- TUN_PLUCKTU
   .mk 0x400C0024 [] [.mk 0 32 .ro .open .por 0 0],
   -- TUN_PLUCKA
   .mk 0x400C0028 [] [.mk 0 32 .ro .open .por 0 0],
   -- TUN_PLUCKKP
   .mk 0x400C002C [] [.mk 0 32 .ro .open .por 0 0],
   -- TUN_PLUCKKI
   .mk 0x400C0030 [] [.mk 0 32 .ro .open .por 0 0],
   -- TUN_PLUCKSUG
   .mk 0x400C0040 [(8, 3)] [.mk 0 32 .ro .open .por 0 0]]

/-- The TUN registers, part B. -/
def regTableTunB : List RegDesc := [
   -- TUN_PLUCKSUGM
   .mk 0x400C0044 [(8, 3)] [.mk 16 16 .ro .open .por 0 0, .mk 0 16 .ro .open .por 0 0],
   -- TUN_BOWCFG
   .mk 0x400C0080 [] [.mk 25 7 .rw .open .por 0 0, .mk 23 2 .rw .open .por 0 0, .mk 22 1 .rw .open .por 0 0, .mk 16 6 .rw .open .por 10 0, .mk 0 9 .rw .open .por 1 0],
   -- TUN_BOWPRBS
   .mk 0x400C0084 [] [.mk 0 9 .rw .open .por 1 0],
   -- TUN_BOWSINE
   .mk 0x400C0088 [] [.mk 16 16 .rw .open .por 0 0, .mk 0 16 .rw .open .por 0 0],
   -- TUN_BOWSINE2
   .mk 0x400C008C [] [.mk 8 8 .rw .open .por 8 0, .mk 0 6 .rw .open .por 16 0],
   -- TUN_BOWSTAT
   .mk 0x400C0090 [] [.mk 28 4 .ro .open .por 0 0, .mk 24 4 .ro .open .por 0 0, .mk 23 1 .ro .open .por 0 0, .mk 0 15 .ro .open .por 0 0],
   -- TUN_CAPSEL
   .mk 0x400C0094 [] [.mk 0 14 .rw .open .por 0 0],
   -- TUN_CAPDATA
   .mk 0x400C00A0 [(4, 4)] [.mk 0 32 .ro .open .por 0 0],
   -- TUN_BOARD
   .mk 0x400C0800 [(4, 32)] [.mk 31 1 .ro .open .por 0 0, .mk 0 5 .rw .open .tab 0 0],
   -- TUN_FRETBRK
   .mk 0x400C1000 [(128, 32), (8, 16)] [.mk 0 32 .rw .open .tab 0 0],
   -- TUN_FRETMUL
   .mk 0x400C1004 [(128, 32), (8, 16)] [.mk 16 16 .rw .open .tab 0 0, .mk 0 16 .rw .open .tab 0 0],
   -- TUN_SCFG
   .mk 0x400C4000 [(128, 128)] [.mk 31 1 .rw .open .tab 0 0, .mk 25 5 .rw .open .tab 0 0, .mk 20 5 .rw .open .tab 0 0, .mk 19 1 .rw .open .tab 0 0, .mk 14 5 .rw .open .tab 0 0, .mk 0 10 .rw .open .tab 0 0]]

/-- The TUN registers, part C. -/
def regTableTunC : List RegDesc := [
   -- TUN_SSRC
   .mk 0x400C4004 [(128, 128)] [.mk 8 8 .rw .open .tab 0 0, .mk 0 8 .rw .open .tab 0 0],
   -- TUN_KP
   .mk 0x400C4008 [(128, 128)] [.mk 0 32 .rw .open .tab 0 0],
   -- TUN_KI
   .mk 0x400C400C [(128, 128)] [.mk 0 32 .rw .open .tab 0 0],
   -- TUN_VKP
   .mk 0x400C4044 [(128, 128)] [.mk 0 32 .rw .open .tab 0 0],
   -- TUN_VKI
   .mk 0x400C4048 [(128, 128)] [.mk 0 32 .rw .open .tab 0 0],
   -- TUN_IMAX
   .mk 0x400C4010 [(128, 128)] [.mk 0 32 .rw .open .tab 0 0],
   -- TUN_IMIN
   .mk 0x400C4014 [(128, 128)] [.mk 0 32 .rw .open .tab 0 0],
   -- TUN_UMAX
   .mk 0x400C4018 [(128, 128)] [.mk 0 32 .rw .open .tab 0 0],
   -- TUN_UMIN
   .mk 0x400C401C [(128, 128)] [.mk 0 32 .rw .open .tab 0 0],
   -- TUN_RISE
   .mk 0x400C4020 [(128, 128)] [.mk 0 32 .rw .open .tab 0 0],
   -- TUN_FALL
   .mk 0x400C4024 [(128, 128)] [.mk 0 32 .rw .open .tab 0 0],
   -- TUN_MANOUT
   .mk 0x400C4028 [(128, 128)] [.mk 0 32 .rw .open .tab 0 0]]

/-- The TUN registers, part D. -/
def regTableTunD : List RegDesc := [
   -- TUN_SP
   .mk 0x400C402C [(128, 128)] [.mk 0 32 .rw .open .tab 0 0],
   -- TUN_SPEFF
   .mk 0x400C4030 [(128, 128)] [.mk 0 32 .ro .open .por 0 0],
   -- TUN_PV
   .mk 0x400C4034 [(128, 128)] [.mk 0 32 .ro .open .por 0 0],
   -- TUN_OUT
   .mk 0x400C4038 [(128, 128)] [.mk 0 32 .ro .open .por 0 0],
   -- TUN_INTEG
   .mk 0x400C403C [(128, 128)] [.mk 0 32 .ro .open .por 0 0],
   -- TUN_VINTEG
   .mk 0x400C404C [(128, 128)] [.mk 0 32 .ro .open .por 0 0],
   -- TUN_SSTAT
   .mk 0x400C4040 [(128, 128)] [.mk 28 4 .ro .open .por 0 0, .mk 27 1 .ro .open .por 0 0, .mk 26 1 .ro .open .por 0 0, .mk 25 1 .ro .open .por 0 0, .mk 24 1 .ro .open .por 0 0, .mk 16 8 .ro .open .por 0 0, .mk 0 16 .ro .open .por 0 0],
   -- TUN_VSP
   .mk 0x400C4050 [(128, 128)] [.mk 0 32 .ro .open .por 0 0]]

/-- The OUT registers, part A. -/
def regTableOutA : List RegDesc := [
   -- OUT_STATUS
   .mk 0x400E0000 [] [.mk 16 16 .ro .open .por 0 0, .mk 0 16 .ro .open .por 0 0],
   -- OUT_TMO
   .mk 0x400E0004 [] [.mk 26 6 .rw .open .tab 0 20, .mk 20 6 .rw .open .tab 0 20, .mk 14 6 .rw .open .tab 0 20, .mk 8 6 .rw .open .tab 0 20, .mk 4 4 .rw .open .tab 0 7, .mk 0 4 .rw .open .tab 0 4],
   -- OUT_TMO2
   .mk 0x400E0008 [] [.mk 0 9 .rw .open .tab 0 60],
   -- OUT_STRLATCH_LO
   .mk 0x400E0010 [] [.mk 0 32 .w1c .open .por 0 0],
   -- OUT_STRLATCH_HI
   .mk 0x400E0014 [] [.mk 0 32 .w1c .open .por 0 0],
   -- OUT_STRCNT
   .mk 0x400E0100 [(4, 64)] [.mk 31 1 .ro .open .por 0 0, .mk 30 1 .ro .open .por 0 0, .mk 28 2 .ro .open .por 0 0, .mk 0 12 .ro .open .por 0 0],
   -- OUT_CFG
   .mk 0x400E1000 [(256, 16)] [.mk 30 2 .rwl .commit .tab 0 0, .mk 29 1 .rw .open .tab 0 0, .mk 28 1 .rwl .seal .tab 0 0, .mk 27 1 .rw .open .tab 0 0, .mk 26 1 .rw .open .tab 0 0, .mk 25 1 .rw .open .tab 0 0, .mk 24 1 .rw .open .tab 0 0, .mk 23 1 .rw .open .tab 0 0, .mk 22 1 .rw .open .tab 0 0, .mk 21 1 .rwl .commit .tab 0 0],
   -- OUT_RATING
   .mk 0x400E1004 [(256, 16)] [.mk 16 16 .rwl .commit .tab 0 0, .mk 0 16 .rwl .commit .tab 0 0],
   -- OUT_BPT
   .mk 0x400E1008 [(256, 16)] [.mk 16 16 .rw .open .tab 0 0, .mk 0 16 .rw .open .tab 0 0],
   -- OUT_LOCKCFG
   .mk 0x400E100C [(256, 16)] [.mk 24 8 .rwl .commit .tab 0 0, .mk 20 4 .rwl .commit .tab 0 0, .mk 19 1 .rw .open .tab 0 0, .mk 18 1 .rw .open .tab 0 0, .mk 8 10 .rw .open .tab 0 0],
   -- OUT_PRECFG
   .mk 0x400E1010 [(256, 16)] [.mk 8 8 .rw .open .tab 0 20, .mk 0 8 .rw .open .tab 0 10],
   -- OUT_CMD
   .mk 0x400E1014 [(256, 16)] [.mk 5 1 .wo .open .por 0 0, .mk 4 1 .wo .open .por 0 0, .mk 3 1 .wo .open .por 0 0, .mk 2 1 .wo .open .por 0 0, .mk 1 1 .wo .open .por 0 0, .mk 0 1 .wo .open .por 0 0]]

/-- The OUT registers, part B. -/
def regTableOutB : List RegDesc := [
   -- OUT_SESS
   .mk 0x400E1018 [(256, 16)] [.mk 28 4 .ro .open .por 0 0, .mk 26 2 .ro .open .por 0 0, .mk 23 3 .ro .open .por 0 0, .mk 22 1 .ro .open .por 0 0, .mk 21 1 .ro .open .por 0 0, .mk 20 1 .ro .open .por 0 0, .mk 16 3 .ro .open .por 0 0],
   -- OUT_SESSNUM
   .mk 0x400E101C [(256, 16)] [.mk 0 32 .ro .open .por 0 0],
   -- OUT_DEMAND
   .mk 0x400E1020 [(256, 16)] [.mk 16 16 .ro .open .por 0 0, .mk 0 16 .ro .open .por 0 0],
   -- OUT_EVMAX
   .mk 0x400E1024 [(256, 16)] [.mk 16 16 .ro .open .por 0 0, .mk 0 16 .ro .open .por 0 0],
   -- OUT_ADV
   .mk 0x400E1028 [(256, 16)] [.mk 16 16 .ro .open .por 0 0, .mk 0 16 .ro .open .por 0 0],
   -- OUT_ISO
   .mk 0x400E102C [(256, 16)] [.mk 30 2 .ro .open .por 0 0, .mk 0 24 .ro .open .por 0 0],
   -- OUT_RETRY
   .mk 0x400E1030 [(256, 16)] [.mk 31 1 .ro .open .por 0 0, .mk 30 1 .ro .open .por 0 0, .mk 29 1 .ro .open .por 0 0, .mk 27 2 .ro .open .por 0 0, .mk 25 2 .ro .open .por 0 0, .mk 0 10 .ro .open .por 0 0],
   -- OUT_EVCAUSE
   .mk 0x400E1034 [(256, 16)] [.mk 10 1 .w1c .open .por 0 0, .mk 9 1 .w1c .open .por 0 0, .mk 8 1 .w1c .open .por 0 0, .mk 7 1 .w1c .open .por 0 0, .mk 6 1 .w1c .open .por 0 0, .mk 5 1 .w1c .open .por 0 0, .mk 4 1 .w1c .open .por 0 0, .mk 3 1 .w1c .open .por 0 0, .mk 2 1 .w1c .open .por 0 0, .mk 1 1 .w1c .open .por 0 0, .mk 0 1 .w1c .open .por 0 0],
   -- OUT_END
   .mk 0x400E1038 [(256, 16)] [.mk 0 8 .ro .open .por 0 0],
   -- OUT_WELD
   .mk 0x400E103C [(256, 16)] [.mk 30 2 .ro .open .por 0 0, .mk 0 16 .ro .open .por 0 0],
   -- OUT_DUMMYSP
   .mk 0x400E1040 [(256, 16)] [.mk 16 16 .rw .open .por 0 0, .mk 0 16 .rw .open .por 0 0]]

/-- The VLK registers, part A. -/
def regTableVlkA : List RegDesc := [
   -- VLK_STATUS
   .mk 0x40100000 [] [.mk 16 16 .ro .open .por 0 0, .mk 0 16 .ro .open .por 0 0],
   -- VLK_BCNCFG
   .mk 0x40100004 [] [.mk 16 2 .rw .open .tab 0 0, .mk 14 2 .rw .open .tab 0 0, .mk 13 1 .rw .open .tab 0 0, .mk 0 12 .rw .open .tab 0 0],
   -- VLK_BCNSTAT
   .mk 0x40100008 [] [.mk 30 2 .ro .open .por 1 0, .mk 16 4 .ro .open .por 0 0, .mk 0 16 .ro .open .por 0 0],
   -- VLK_NOISECFG
   .mk 0x4010000C [] [.mk 4 16 .rw .open .tab 0 0, .mk 0 4 .rw .open .tab 0 5],
   -- VLK_MACCFG
   .mk 0x40100010 [] [.mk 0 4 .rw .open .tab 0 7],
   -- VLK_SLACCFG
   .mk 0x40100014 [] [.mk 8 4 .rw .open .tab 0 3, .mk 0 8 .rw .open .tab 0 10],
   -- VLK_T1SCFG
   .mk 0x40100018 [] [.mk 0 7 .rw .open .tab 0 20],
   -- VLK_TLSCFG
   .mk 0x4010001C [] [.mk 1 1 .rw .open .tab 0 0, .mk 0 1 .rw .open .tab 0 0],
   -- VLK_RELAYCFG
   .mk 0x40100020 [] [.mk 31 1 .rwl .commit .tab 0 0, .mk 16 5 .rwl .commit .tab 0 0, .mk 0 16 .rw .open .tab 0 500],
   -- VLK_IDCMD
   .mk 0x40100024 [] [.mk 30 2 .wo .open .por 0 0, .mk 28 2 .wo .open .por 0 0, .mk 27 1 .wo .open .por 0 0, .mk 0 14 .wo .open .por 0 0],
   -- VLK_IDSTAT
   .mk 0x40100040 [(4, 4)] [.mk 28 4 .ro .open .por 0 0, .mk 27 1 .ro .open .por 0 0, .mk 0 16 .ro .open .por 0 0],
   -- VLK_ROOTSTAT
   .mk 0x40100050 [] [.mk 0 16 .ro .open .por 0 0]]

/-- The VLK registers, part B. -/
def regTableVlkB : List RegDesc := [
   -- VLK_AMBIG
   .mk 0x40100054 [] [.mk 0 16 .ro .open .por 0 0],
   -- VLK_OUTCFG
   .mk 0x40101000 [(256, 16)] [.mk 2 2 .rw .open .tab 0 0, .mk 0 2 .rw .open .tab 0 0],
   -- VLK_LINK
   .mk 0x40101004 [(256, 16)] [.mk 28 4 .ro .open .por 0 0, .mk 26 2 .ro .open .por 0 0, .mk 16 2 .ro .open .por 0 0, .mk 8 8 .w1c .open .por 0 0, .mk 0 8 .ro .open .por 0 0],
   -- VLK_ATTEN
   .mk 0x40101008 [(256, 16)] [.mk 20 12 .ro .open .por 0 0, .mk 16 4 .ro .open .por 0 0, .mk 11 5 .ro .open .por 31 0, .mk 0 11 .ro .open .por 0 0],
   -- VLK_BLANK
   .mk 0x4010100C [(256, 16)] [.mk 0 32 .ro .open .por 0 0],
   -- VLK_ERASE
   .mk 0x40101010 [(256, 16)] [.mk 0 32 .ro .open .por 0 0],
   -- VLK_PBERR
   .mk 0x40101014 [(256, 16)] [.mk 0 32 .ro .open .por 0 0],
   -- VLK_RETRY
   .mk 0x40101018 [(256, 16)] [.mk 0 32 .ro .open .por 0 0],
   -- VLK_T1SSTAT
   .mk 0x4010101C [(256, 16)] [.mk 16 16 .ro .open .por 0 0, .mk 8 8 .ro .open .por 0 0, .mk 0 8 .ro .open .por 0 0],
   -- VLK_TLS
   .mk 0x40101020 [(256, 16)] [.mk 8 2 .ro .open .por 0 0, .mk 0 8 .ro .open .por 0 0],
   -- VLK_RELAY
   .mk 0x40101024 [(256, 16)] [.mk 30 2 .ro .open .por 0 0, .mk 28 2 .ro .open .por 0 0, .mk 14 14 .ro .open .por 0 0, .mk 0 14 .rw .open .por 0 0],
   -- VLK_DEPART
   .mk 0x40101028 [(256, 16)] [.mk 0 32 .ro .open .por 0 0]]

/-- The VLK registers, part C. -/
def regTableVlkC : List RegDesc := [
   -- VLK_ENERGY
   .mk 0x4010102C [(256, 16)] [.mk 0 32 .ro .open .por 0 0],
   -- VLK_EVID_LO
   .mk 0x40101030 [(256, 16)] [.mk 0 32 .ro .open .por 0 0],
   -- VLK_EVID_HI
   .mk 0x40101034 [(256, 16)] [.mk 0 32 .ro .open .por 0 0]]

/-- The CAB registers, part A. -/
def regTableCabA : List RegDesc := [
   -- CAB_STATUS
   .mk 0x40120000 [] [.mk 16 16 .ro .open .por 0 0, .mk 0 16 .ro .open .por 0 0],
   -- CAB_TRES
   .mk 0x40120100 [(32, 8)] [.mk 16 16 .rwl .commit .tab 0 0, .mk 0 16 .rwl .commit .tab 0 0],
   -- CAB_TGEOM
   .mk 0x40120104 [(32, 8)] [.mk 31 1 .rwl .commit .tab 0 0, .mk 20 10 .rwl .commit .tab 0 0, .mk 0 16 .rwl .commit .tab 0 0],
   -- CAB_TRCK
   .mk 0x40120108 [(32, 8)] [.mk 0 32 .rwl .commit .tab 0 0],
   -- CAB_TCAP
   .mk 0x4012010C [(32, 8)] [.mk 16 16 .rwl .commit .tab 0 0, .mk 0 16 .rwl .commit .tab 0 0],
   -- CAB_TCOOL
   .mk 0x40120110 [(32, 8)] [.mk 16 16 .rwl .commit .tab 0 0, .mk 0 16 .rwl .commit .tab 0 0],
   -- CAB_OCFG
   .mk 0x40120400 [(32, 16)] [.mk 29 3 .rwl .commit .tab 0 0, .mk 8 8 .rw .open .tab 0 90, .mk 0 8 .rw .open .tab 0 90],
   -- CAB_OCFG2
   .mk 0x40120404 [(32, 16)] [.mk 24 8 .rw .open .tab 0 10, .mk 16 8 .rw .open .tab 0 5, .mk 8 8 .rw .open .tab 0 10, .mk 0 8 .rw .open .tab 0 45],
   -- CAB_FLOWCFG
   .mk 0x40120408 [(32, 16)] [.mk 16 16 .rwl .commit .tab 0 0, .mk 12 4 .rwl .commit .tab 0 0, .mk 4 4 .rw .open .tab 0 0, .mk 0 4 .rw .open .tab 0 3],
   -- CAB_COOLSP
   .mk 0x4012040C [(32, 16)] [.mk 16 16 .rw .open .tab 0 0, .mk 0 16 .rw .open .tab 0 0],
   -- CAB_HEATCFG
   .mk 0x40120410 [(32, 16)] [.mk 0 16 .rw .open .tab 0 0],
   -- CAB_CEIL
   .mk 0x40120414 [(32, 16)] [.mk 28 4 .ro .open .por 0 0, .mk 0 16 .ro .open .por 0 0]]

/-- The CAB registers, part B. -/
def regTableCabB : List RegDesc := [
   -- CAB_TEMP
   .mk 0x40120418 [(32, 16)] [.mk 16 16 .ro .open .por 0 0, .mk 0 16 .ro .open .por 0 0],
   -- CAB_STAT
   .mk 0x4012041C [(32, 16)] [.mk 31 1 .ro .open .por 0 0, .mk 30 1 .ro .open .por 0 0, .mk 29 1 .ro .open .por 0 0, .mk 25 4 .ro .open .por 0 0, .mk 0 16 .ro .open .por 0 0],
   -- CAB_RTD
   .mk 0x40120800 [(16, 16), (4, 4)] [.mk 0 16 .ro .open .por 0 0]]

/-- The THM registers. -/
def regTableThm : List RegDesc := [
   -- THM_DIODE
   .mk 0x40060000 [] [.mk 16 16 .ro .open .por 0 0, .mk 0 16 .ro .open .por 0 0],
   -- THM_STATUS
   .mk 0x40060004 [] [.mk 30 2 .ro .open .por 1 0, .mk 29 1 .ro .open .por 0 0, .mk 28 1 .ro .open .por 0 0, .mk 27 1 .ro .open .por 0 0, .mk 0 11 .ro .open .por 1024 0],
   -- THM_RATECFG
   .mk 0x40060008 [] [.mk 24 8 .rw .open .tab 0 20, .mk 16 8 .rw .open .tab 0 5, .mk 8 8 .rw .open .tab 0 50, .mk 0 8 .rw .open .tab 0 10],
   -- THM_ABSCFG
   .mk 0x4006000C [] [.mk 24 8 .rw .open .por 105 0, .mk 16 8 .rw .open .por 115 0, .mk 8 8 .rw .open .por 125 0, .mk 0 8 .rw .open .por 5 0],
   -- THM_STRLIM
   .mk 0x40060010 [] [.mk 24 8 .rw .open .tab 0 110, .mk 16 8 .rw .open .tab 0 90],
   -- THM_STRLATCH_LO
   .mk 0x40060014 [] [.mk 0 32 .ro .open .por 0 0],
   -- THM_STRLATCH_HI
   .mk 0x40060018 [] [.mk 0 32 .ro .open .por 0 0],
   -- THM_SHUT0
   .mk 0x40060020 [] [.mk 0 32 .ro .open .mram 0 0],
   -- THM_SHUT1
   .mk 0x40060024 [] [.mk 31 1 .ro .open .mram 0 0, .mk 30 1 .ro .open .mram 0 0, .mk 29 1 .ro .open .mram 0 0, .mk 25 4 .ro .open .mram 0 0, .mk 0 16 .ro .open .mram 0 0],
   -- THM_SHUT2
   .mk 0x40060028 [] [.mk 16 6 .ro .open .por 0 0, .mk 0 16 .ro .open .mram 0 0],
   -- THM_RTCCOMP
   .mk 0x4006002C [] [.mk 16 16 .rw .open .tab 0 250, .mk 0 16 .rw .open .tab 0 65196],
   -- THM_EVCAUSE
   .mk 0x40060030 [] [.mk 0 8 .w1c .open .por 0 0]]

/-- The TAL registers, part A. -/
def regTableTalA : List RegDesc := [
   -- TAL_STATUS
   .mk 0x40140000 [] [.mk 30 2 .ro .open .por 1 0, .mk 29 1 .ro .open .por 0 0, .mk 28 1 .ro .open .por 0 0, .mk 0 9 .ro .open .por 0 0],
   -- TAL_CFG
   .mk 0x40140004 [] [.mk 24 1 .rw .open .tab 0 0, .mk 16 8 .rw .open .tab 0 10, .mk 0 16 .rw .open .tab 0 50],
   -- TAL_ZCCFG
   .mk 0x40140008 [] [.mk 16 2 .rw .open .tab 0 0, .mk 14 2 .rw .open .tab 0 0, .mk 0 8 .rw .open .tab 0 60],
   -- TAL_CMD
   .mk 0x4014000C [] [.mk 0 1 .wo .open .por 0 0],
   -- TAL_LATCHNUM
   .mk 0x40140010 [] [.mk 0 32 .ro .open .mram 0 0],
   -- TAL_REF
   .mk 0x40140014 [] [.mk 16 16 .ro .open .trim 0 0, .mk 0 16 .ro .open .trim 0 0],
   -- TAL_REFCORR
   .mk 0x40140018 [] [.mk 0 32 .ro .open .por 0 0],
   -- TAL_LGCFG
   .mk 0x4014001C [] [.mk 0 7 .rw .open .tab 0 25],
   -- TAL_RECSTAT
   .mk 0x40140020 [] [.mk 31 1 .ro .open .por 0 0, .mk 16 15 .ro .open .por 0 0, .mk 0 9 .ro .open .mram 0 0],
   -- TAL_RECHEAD
   .mk 0x40140024 [] [.mk 0 32 .ro .open .mram 0 0],
   -- TAL_RECSEL
   .mk 0x40140028 [] [.mk 0 32 .rw .open .por 0 0],
   -- TAL_RECACK
   .mk 0x4014002C [] [.mk 0 32 .rw .open .por 0 0]]

/-- The TAL registers, part B. -/
def regTableTalB : List RegDesc := [
   -- TAL_CALID
   .mk 0x40140030 [] [.mk 0 32 .ro .open .mram 0 0],
   -- TAL_EVCAUSE
   .mk 0x40140034 [] [.mk 0 8 .w1c .open .por 0 0],
   -- TAL_PULSECFG
   .mk 0x40140080 [(4, 8)] [.mk 31 1 .rw .open .tab 0 0, .mk 30 1 .rw .open .tab 0 0, .mk 29 1 .rw .open .tab 0 0, .mk 24 5 .rw .open .tab 0 0, .mk 0 17 .rw .open .tab 0 0],
   -- TAL_RECDATA
   .mk 0x40140100 [(4, 50)] [.mk 0 32 .ro .open .por 0 0],
   -- TAL_IMP_LO
   .mk 0x40140400 [(64, 20)] [.mk 0 32 .ro .open .mram 0 0],
   -- TAL_IMP_HI
   .mk 0x40140404 [(64, 20)] [.mk 0 32 .ro .open .mram 0 0],
   -- TAL_EXP_LO
   .mk 0x40140408 [(64, 20)] [.mk 0 32 .ro .open .mram 0 0],
   -- TAL_EXP_HI
   .mk 0x4014040C [(64, 20)] [.mk 0 32 .ro .open .mram 0 0],
   -- TAL_LIMP_LO
   .mk 0x40140410 [(64, 20)] [.mk 0 32 .ro .open .mram 0 0],
   -- TAL_LIMP_HI
   .mk 0x40140414 [(64, 20)] [.mk 0 32 .ro .open .mram 0 0],
   -- TAL_LEXP_LO
   .mk 0x40140418 [(64, 20)] [.mk 0 32 .ro .open .mram 0 0],
   -- TAL_LEXP_HI
   .mk 0x4014041C [(64, 20)] [.mk 0 32 .ro .open .mram 0 0]]

/-- The TAL registers, part C. -/
def regTableTalC : List RegDesc := [
   -- TAL_PWR
   .mk 0x40140420 [(64, 20)] [.mk 0 32 .ro .open .por 0 0],
   -- TAL_SCOPECFG
   .mk 0x40140424 [(64, 20)] [.mk 31 1 .rw .open .tab 0 0, .mk 30 1 .rwl .commit .tab 0 0, .mk 0 18 .rwl .commit .tab 0 0],
   -- TAL_SCOPESTAT
   .mk 0x40140428 [(64, 20)] [.mk 0 9 .ro .open .por 0 0],
   -- TAL_CHSCALE
   .mk 0x40141000 [(128, 56)] [.mk 0 32 .rwl .seal .mram 0 0],
   -- TAL_CHOFFSET
   .mk 0x40141004 [(128, 56)] [.mk 0 24 .rwl .seal .mram 0 0],
   -- TAL_CHSTAT
   .mk 0x40141008 [(128, 56)] [.mk 29 3 .ro .open .por 0 0, .mk 28 1 .w1c .open .por 0 0],
   -- TAL_SEGBND
   .mk 0x40141010 [(128, 56), (4, 7)] [.mk 0 32 .rwl .seal .mram 0 0],
   -- TAL_SEGCORR
   .mk 0x40141030 [(128, 56), (4, 8)] [.mk 16 16 .rwl .seal .mram 0 0, .mk 0 16 .rwl .seal .mram 0 0]]

/-- The SAF registers, part A. -/
def regTableSafA : List RegDesc := [
   -- SAF_STATUS
   .mk 0x40160000 [] [.mk 31 1 .ro .open .por 0 0, .mk 16 8 .ro .open .por 0 0, .mk 0 16 .ro .open .por 0 0],
   -- SAF_ACK
   .mk 0x40160004 [] [.mk 30 2 .ro .open .por 0 0, .mk 0 16 .wo .open .por 0 0],
   -- SAF_OUTCLR
   .mk 0x40160008 [] [.mk 16 16 .wo .open .por 0 0, .mk 0 16 .wo .open .por 0 0],
   -- SAF_CFG
   .mk 0x4016000C [] [.mk 0 6 .rwl .commit .tab 0 20],
   -- SAF_TPCFG
   .mk 0x40160010 [] [.mk 16 10 .rwl .commit .tab 0 100, .mk 0 7 .rwl .commit .tab 0 40],
   -- SAF_SINSTAT
   .mk 0x40160014 [] [.mk 16 16 .ro .open .por 0 0, .mk 0 16 .ro .open .por 0 0],
   -- SAF_FBSTAT
   .mk 0x40160018 [] [.mk 0 32 .ro .open .por 0 0],
   -- SAF_SOUTSTAT
   .mk 0x4016001C [] [.mk 0 32 .ro .open .por 0 0],
   -- SAF_SOUTFLT
   .mk 0x40160020 [] [.mk 0 32 .ro .open .por 0 0],
   -- SAF_FBPOL
   .mk 0x40160024 [] [.mk 0 32 .rwl .commit .tab 0 0],
   -- SAF_XCHECK
   .mk 0x40160028 [] [.mk 16 16 .ro .open .por 0 0, .mk 0 16 .ro .open .por 0 0],
   -- SAF_EVCAUSE
   .mk 0x4016002C [] [.mk 0 8 .w1c .open .por 0 0]]

/-- The SAF registers, part B. -/
def regTableSafB : List RegDesc := [
   -- SAF_NETCFG
   .mk 0x40160030 [] [.mk 0 16 .rwl .commit .tab 0 41520],
   -- SAF_SINCFG
   .mk 0x40160040 [(4, 16)] [.mk 30 2 .rwl .commit .tab 0 0, .mk 29 1 .rwl .commit .tab 0 0, .mk 26 3 .rwl .commit .tab 0 0, .mk 16 10 .rwl .commit .tab 0 50, .mk 0 16 .rwl .commit .tab 0 0],
   -- SAF_OCFG
   .mk 0x40160100 [(16, 16)] [.mk 24 8 .rwl .commit .tab 0 20, .mk 16 8 .rwl .commit .tab 0 10, .mk 8 8 .rwl .commit .tab 0 10, .mk 0 8 .rwl .commit .tab 0 5],
   -- SAF_OTEMP
   .mk 0x40160104 [(16, 16)] [.mk 24 8 .rwl .commit .tab 0 105, .mk 16 8 .rwl .commit .tab 0 75],
   -- SAF_OLIM
   .mk 0x40160108 [(16, 16)] [.mk 16 16 .ro .open .por 0 0, .mk 0 16 .ro .open .por 0 0],
   -- SAF_OSTAT
   .mk 0x4016010C [(16, 16)] [.mk 24 8 .ro .open .por 0 0, .mk 16 8 .ro .open .por 0 0, .mk 15 1 .ro .open .por 0 0, .mk 14 1 .ro .open .por 0 0, .mk 13 1 .w1c .open .por 0 0, .mk 12 1 .ro .open .por 0 0],
   -- SAF_CONNCFG
   .mk 0x40160400 [(16, 16)] [.mk 30 2 .rwl .commit .tab 0 0, .mk 29 1 .rwl .commit .tab 0 0, .mk 25 3 .rwl .commit .tab 0 0, .mk 22 3 .rwl .commit .tab 0 0, .mk 0 8 .rwl .commit .tab 0 0],
   -- SAF_CONNID
   .mk 0x40160404 [(16, 16)] [.mk 0 32 .rwl .commit .tab 0 0],
   -- SAF_CONNTIM
   .mk 0x40160408 [(16, 16)] [.mk 16 16 .rwl .commit .tab 0 0, .mk 0 16 .rwl .commit .tab 0 0],
   -- SAF_CONNSTAT
   .mk 0x4016040C [(16, 16)] [.mk 30 2 .ro .open .por 0 0, .mk 16 8 .ro .open .por 0 0, .mk 8 8 .ro .open .por 0 0, .mk 0 8 .ro .open .por 0 0]]

/-- The DUP registers, part A. -/
def regTableDupA : List RegDesc := [
   -- DUP_CFG
   .mk 0x40180000 [] [.mk 31 1 .rwl .commit .tab 0 0, .mk 28 3 .rwl .commit .tab 0 0, .mk 24 4 .rw .open .tab 0 2, .mk 16 8 .rw .open .tab 0 80],
   -- DUP_STATUS
   .mk 0x40180004 [] [.mk 30 2 .ro .open .por 0 0, .mk 29 1 .ro .open .por 0 0, .mk 28 1 .ro .open .por 0 0, .mk 27 1 .ro .open .por 0 0, .mk 26 1 .ro .open .por 0 0, .mk 24 2 .ro .open .por 0 0, .mk 16 8 .ro .open .por 0 0, .mk 8 8 .ro .open .por 0 0],
   -- DUP_LEASE
   .mk 0x40180008 [] [.mk 31 1 .ro .open .por 0 0, .mk 30 1 .ro .open .por 0 0, .mk 29 1 .ro .open .por 0 0, .mk 0 16 .ro .open .por 0 0],
   -- DUP_PARTNER_LO
   .mk 0x4018000C [] [.mk 0 32 .ro .open .por 0 0],
   -- DUP_PARTNER_HI
   .mk 0x40180010 [] [.mk 0 32 .ro .open .por 0 0],
   -- DUP_CMPCNT
   .mk 0x40180014 [] [.mk 16 16 .ro .open .por 0 0, .mk 0 16 .ro .open .por 0 0],
   -- DUP_DISPUTE
   .mk 0x40180018 [] [.mk 28 4 .ro .open .por 0 0, .mk 16 12 .ro .open .por 0 0, .mk 0 16 .ro .open .por 0 0],
   -- DUP_SWITCH
   .mk 0x4018001C [] [.mk 16 16 .ro .open .por 0 0, .mk 0 16 .ro .open .por 0 0],
   -- DUP_HEALTHDET
   .mk 0x40180020 [] [.mk 0 7 .ro .open .por 0 0],
   -- DUP_PLAUS
   .mk 0x40180024 [] [.mk 0 8 .w1c .open .por 0 0],
   -- DUP_CMD
   .mk 0x40180028 [] [.mk 2 1 .wo .open .por 0 0, .mk 1 1 .wo .open .por 0 0, .mk 0 1 .wo .open .por 0 0],
   -- DUP_AUXSHARE_LO
   .mk 0x4018002C [] [.mk 0 32 .rwl .commit .tab 0 0]]

/-- The DUP registers, part B. -/
def regTableDupB : List RegDesc := [
   -- DUP_AUXSHARE_HI
   .mk 0x40180030 [] [.mk 0 16 .rwl .commit .tab 0 0],
   -- DUP_EVCAUSE
   .mk 0x40180034 [] [.mk 0 5 .w1c .open .por 0 0]]

/-- The FAB registers, part A. -/
def regTableFabA : List RegDesc := [
   -- FAB_CFG
   .mk 0x40190000 [] [.mk 31 1 .rwl .commit .tab 0 0, .mk 26 5 .rwl .commit .tab 0 0, .mk 21 5 .rwl .commit .tab 0 0, .mk 12 6 .rwl .commit .tab 0 0, .mk 0 6 .rwl .commit .tab 0 0],
   -- FAB_SITECFG
   .mk 0x40190004 [] [.mk 0 6 .rwl .commit .tab 0 0],
   -- FAB_ID
   .mk 0x40190008 [] [.mk 24 8 .ro .open .por 1 0, .mk 0 24 .ro .open .por 0 0],
   -- FAB_STATUS
   .mk 0x4019000C [] [.mk 31 1 .ro .open .por 0 0, .mk 30 1 .ro .open .por 0 0, .mk 29 1 .ro .open .por 0 0, .mk 24 5 .ro .open .por 0 0, .mk 22 2 .ro .open .por 0 0, .mk 20 2 .ro .open .por 0 0, .mk 15 5 .ro .open .por 0 0, .mk 10 5 .ro .open .por 0 0],
   -- FAB_MEMBERS
   .mk 0x40190010 [] [.mk 0 32 .ro .open .por 0 0],
   -- FAB_GUESTS
   .mk 0x40190014 [] [.mk 0 32 .ro .open .por 0 0],
   -- FAB_REFUSED
   .mk 0x40190018 [] [.mk 0 32 .ro .open .por 0 0],
   -- FAB_TIMEERR
   .mk 0x4019001C [] [.mk 0 32 .ro .open .por 0 0],
   -- FAB_ISLAND
   .mk 0x40190020 [] [.mk 0 4 .ro .open .por 0 0],
   -- FAB_SETDIG
   .mk 0x40190024 [] [.mk 16 16 .ro .open .por 0 0, .mk 0 16 .ro .open .por 0 0],
   -- FAB_CERTCMD
   .mk 0x40190028 [] [.mk 30 2 .wo .open .por 0 0, .mk 0 13 .wo .open .por 0 0],
   -- FAB_CERTSTAT
   .mk 0x4019002C [] [.mk 28 4 .ro .open .por 0 0]]

/-- The FAB registers, part B. -/
def regTableFabB : List RegDesc := [
   -- FAB_EVCAUSE
   .mk 0x40190030 [] [.mk 0 3 .w1c .open .por 0 0],
   -- FAB_DIGEST
   .mk 0x40190040 [(4, 8)] [.mk 0 32 .ro .open .tab 0 0],
   -- FAB_PORT
   .mk 0x40190080 [(4, 6)] [.mk 29 3 .ro .open .por 0 0, .mk 27 2 .ro .open .por 0 0, .mk 26 1 .ro .open .por 0 0, .mk 21 5 .ro .open .por 0 0, .mk 0 16 .ro .open .por 0 0],
   -- FAB_ROUTE
   .mk 0x40190100 [(4, 32)] [.mk 31 1 .ro .open .por 0 0, .mk 28 3 .ro .open .por 0 0, .mk 23 5 .ro .open .por 0 0]]

/-- The MEM registers, part A. -/
def regTableMemA : List RegDesc := [
   -- MEM_STATUS
   .mk 0x40040000 [] [.mk 30 2 .ro .open .por 0 0, .mk 29 1 .ro .open .por 0 0, .mk 16 7 .ro .open .por 0 0],
   -- MEM_RETIRE
   .mk 0x40040004 [] [.mk 6 1 .wo .open .por 0 0, .mk 0 6 .wo .open .por 0 0],
   -- MEM_RETSTAT
   .mk 0x40040008 [] [.mk 29 3 .ro .open .por 0 0, .mk 26 3 .ro .open .por 0 0, .mk 20 6 .ro .open .por 0 0, .mk 14 6 .ro .open .por 0 0, .mk 0 8 .ro .open .por 0 0],
   -- MEM_HOSTWIN
   .mk 0x4004000C [] [.mk 0 6 .ro .open .por 0 0],
   -- MEM_RETIRED_LO
   .mk 0x40040010 [] [.mk 0 32 .ro .open .mram 0 0],
   -- MEM_RETIRED_HI
   .mk 0x40040014 [] [.mk 0 32 .ro .open .mram 0 0],
   -- MEM_PORTERCFG
   .mk 0x40040018 [] [.mk 0 12 .rw .open .tab 0 60],
   -- MEM_PORTER
   .mk 0x4004001C [] [.mk 16 16 .ro .open .por 0 0, .mk 0 16 .ro .open .por 0 0],
   -- MEM_LOGHEAD
   .mk 0x40040020 [] [.mk 0 32 .ro .open .mram 0 0],
   -- MEM_LOGSEL
   .mk 0x40040024 [] [.mk 0 6 .rw .open .por 0 0],
   -- MEM_LOGDATA
   .mk 0x40040028 [(4, 4)] [.mk 0 32 .ro .open .por 0 0],
   -- MEM_CECFG
   .mk 0x40040038 [] [.mk 0 8 .rw .open .tab 0 16]]

/-- The MEM registers, part B. -/
def regTableMemB : List RegDesc := [
   -- MEM_DMAHALT
   .mk 0x4004003C [] [.mk 0 32 .ro .open .por 0 0],
   -- MEM_DMAERR
   .mk 0x40040040 [] [.mk 27 5 .ro .open .por 0 0, .mk 21 6 .ro .open .por 0 0, .mk 0 16 .ro .open .por 0 0],
   -- MEM_TAMPCFG
   .mk 0x40040044 [] [.mk 4 4 .rwl .commit .tab 0 0, .mk 0 4 .rwl .commit .tab 0 0],
   -- MEM_TAMPSTAT
   .mk 0x40040048 [] [.mk 16 16 .ro .open .mram 0 0, .mk 12 1 .ro .open .mram 0 0, .mk 8 4 .ro .open .por 0 0, .mk 4 1 .w1c .open .por 0 0, .mk 0 4 .w1c .open .por 0 0],
   -- MEM_SELFTEST
   .mk 0x4004004C [] [.mk 31 1 .ro .open .por 0 0, .mk 30 1 .ro .open .por 0 0, .mk 24 6 .ro .open .por 0 0],
   -- MEM_SELFFAIL_LO
   .mk 0x40040050 [] [.mk 0 32 .ro .open .por 0 0],
   -- MEM_SELFFAIL_HI
   .mk 0x40040054 [] [.mk 0 32 .ro .open .por 0 0],
   -- MEM_MRAMSTAT
   .mk 0x40040058 [] [.mk 16 16 .ro .open .por 0 0, .mk 8 8 .ro .open .por 0 0, .mk 0 8 .ro .open .mram 0 0],
   -- MEM_ATOMADDR
   .mk 0x4004005C [] [.mk 2 16 .rw .open .por 0 0],
   -- MEM_ATOMSET
   .mk 0x40040060 [] [.mk 0 32 .wo .open .por 0 0],
   -- MEM_ATOMCLR
   .mk 0x40040064 [] [.mk 0 32 .wo .open .por 0 0],
   -- MEM_ATOMOLD
   .mk 0x40040068 [] [.mk 0 32 .ro .open .por 0 0]]

/-- The MEM registers, part C. -/
def regTableMemC : List RegDesc := [
   -- MEM_EVCAUSE
   .mk 0x4004006C [] [.mk 0 16 .w1c .open .por 0 0],
   -- MEM_BANKOWN
   .mk 0x40040100 [(4, 64)] [.mk 30 2 .ro .open .por 2 0, .mk 27 3 .ro .open .mram 0 0, .mk 21 6 .ro .open .mram 0 0, .mk 0 5 .ro .open .por 0 0],
   -- MEM_BANKERR
   .mk 0x40040200 [(4, 64)] [.mk 24 8 .ro .open .por 0 0, .mk 16 8 .ro .open .por 0 0, .mk 8 8 .ro .open .por 0 0]]

/-- The SYS registers. -/
def regTableSys : List RegDesc := [
   -- SYS_ID
   .mk 0x40000000 [] [.mk 16 16 .ro .open .por 1600 0, .mk 12 4 .ro .open .fixed 0 0, .mk 4 8 .ro .open .por 161 0],
   -- SYS_UID_LO
   .mk 0x40000004 [] [.mk 0 32 .ro .open .fixed 0 0],
   -- SYS_UID_HI
   .mk 0x40000008 [] [.mk 0 32 .ro .open .fixed 0 0],
   -- SYS_STATUS
   .mk 0x4000000C [] [.mk 6 1 .ro .open .por 0 0, .mk 5 1 .ro .open .por 0 0, .mk 4 1 .ro .open .por 0 0, .mk 0 4 .ro .open .por 1 0],
   -- SYS_CMD
   .mk 0x40000010 [] [.mk 0 1 .wo .open .por 0 0],
   -- SYS_RESETCAUSE
   .mk 0x40000014 [] [.mk 29 3 .ro .open .mram 0 0, .mk 26 3 .ro .open .mram 0 0],
   -- SYS_LIFECYCLE
   .mk 0x40000018 [] [.mk 4 2 .rw .open .por 0 0, .mk 0 2 .ro .open .mram 0 0],
   -- SYS_REFUSE
   .mk 0x4000001C [] [.mk 24 8 .ro .open .por 0 0, .mk 0 24 .ro .open .por 0 0],
   -- SYS_TAB
   .mk 0x40000020 [] [.mk 31 1 .ro .open .mram 0 0, .mk 30 1 .ro .open .por 0 0, .mk 29 1 .ro .open .por 0 0, .mk 28 1 .ro .open .por 0 0, .mk 0 28 .ro .open .por 0 0],
   -- SYS_STNDIG
   .mk 0x40000040 [(4, 8)] [.mk 0 32 .ro .open .tab 0 0]]

/-- The TXN registers. -/
def regTableTxn : List RegDesc := [
   -- TXN_BEGIN
   .mk 0x40030000 [] [.mk 0 16 .ro .open .por 0 0],
   -- TXN_COMMIT
   .mk 0x40030004 [] [.mk 31 1 .wo .open .por 0 0, .mk 0 16 .wo .open .por 0 0],
   -- TXN_ABORT
   .mk 0x40030008 [] [.mk 31 1 .wo .open .por 0 0, .mk 0 16 .wo .open .por 0 0],
   -- TXN_STATUS
   .mk 0x4003000C [] [.mk 28 4 .ro .open .por 0 0, .mk 24 4 .ro .open .por 0 0, .mk 20 4 .ro .open .por 0 0, .mk 0 16 .ro .open .por 0 0],
   -- TXN_TIMEOUT
   .mk 0x40030010 [] [.mk 0 10 .rw .open .tab 0 50],
   -- TXN_ERRADDR
   .mk 0x40030014 [] [.mk 0 32 .ro .open .por 0 0],
   -- TXN_APPLY
   .mk 0x40030018 [] [.mk 0 32 .ro .open .por 0 0],
   -- TXN_PHASE
   .mk 0x4003001C [] [.mk 29 3 .ro .open .por 0 0, .mk 26 3 .ro .open .por 0 0, .mk 21 5 .ro .open .por 0 0]]

/-- The PGH registers. -/
def regTablePgh : List RegDesc := [
   -- PGH_PEND
   .mk 0x40020000 [] [.mk 0 32 .ro .open .por 0 0],
   -- PGH_OP
   .mk 0x40020004 [] [.mk 29 3 .wo .open .por 0 0, .mk 24 5 .wo .open .por 0 0, .mk 0 16 .wo .open .por 0 0],
   -- PGH_RESULT
   .mk 0x40020008 [] [.mk 0 3 .ro .open .por 0 0],
   -- PGH_STAGE
   .mk 0x40020100 [(4, 64)] [.mk 0 32 .rw .open .por 0 0],
   -- PGH_CFG
   .mk 0x40020200 [(16, 32)] [.mk 0 4 .rwl .commit .tab 0 0],
   -- PGH_STAT
   .mk 0x40020204 [(16, 32)] [.mk 30 2 .ro .open .por 0 0, .mk 29 1 .ro .open .por 0 0, .mk 28 1 .ro .open .por 0 0, .mk 24 4 .ro .open .por 0 0, .mk 19 5 .ro .open .por 0 0, .mk 0 9 .ro .open .por 0 0],
   -- PGH_EPOCH
   .mk 0x40020208 [(16, 32)] [.mk 16 16 .ro .open .por 0 0, .mk 0 16 .ro .open .por 0 0],
   -- PGH_ACKCODE
   .mk 0x4002020C [(16, 32)] [.mk 0 16 .ro .open .por 0 0],
   -- PGH_DATA
   .mk 0x40021000 [(256, 32), (4, 64)] [.mk 0 32 .ro .open .por 0 0]]

/-- The EVT registers. -/
def regTableEvt : List RegDesc := [
   -- EVT_RAW
   .mk 0x40010000 [(4, 4)] [.mk 0 32 .w1c .open .por 0 0],
   -- EVT_MASK
   .mk 0x40010010 [(4, 4)] [.mk 0 32 .rw .open .tab 0 0],
   -- EVT_ALERT
   .mk 0x40010020 [] [.mk 0 4 .ro .open .por 0 0],
   -- EVT_MISC
   .mk 0x40010024 [] [.mk 16 16 .ro .open .por 0 0, .mk 8 5 .ro .open .por 0 0, .mk 0 7 .ro .open .por 0 0],
   -- EVT_GBHEAD
   .mk 0x40010030 [] [.mk 0 32 .ro .open .mram 0 0],
   -- EVT_GBSEL
   .mk 0x40010034 [] [.mk 0 32 .rw .open .por 0 0],
   -- EVT_GBDATA
   .mk 0x40010040 [(4, 8)] [.mk 0 32 .ro .open .mram 0 0],
   -- EVT_ROUTE
   .mk 0x40010100 [(4, 128)] [.mk 15 1 .rw .open .tab 0 0, .mk 10 5 .rw .open .tab 0 0, .mk 9 1 .rw .open .tab 0 0, .mk 4 5 .rw .open .tab 0 0, .mk 0 4 .rw .open .tab 0 0]]

/-- The HST registers. -/
def regTableHst : List RegDesc := [
   -- HST_PORTCFG
   .mk 0x401C0000 [(16, 2)] [.mk 31 1 .rw .open .tab 0 0, .mk 16 6 .rw .open .tab 0 0, .mk 0 16 .rw .open .tab 0 41500],
   -- HST_IP
   .mk 0x401C0004 [(16, 2)] [.mk 0 32 .rw .open .tab 0 0],
   -- HST_NOTIFY
   .mk 0x401C0008 [(16, 2)] [.mk 0 32 .rw .open .tab 0 0],
   -- HST_STAT
   .mk 0x401C000C [(16, 2)] [.mk 31 1 .ro .open .por 0 0, .mk 30 1 .ro .open .por 0 0, .mk 8 8 .ro .open .por 0 0, .mk 0 8 .ro .open .por 0 0],
   -- HST_EPOCH
   .mk 0x401C0040 [(4, 3)] [.mk 0 16 .rw .open .por 0 0],
   -- HST_ALLOW
   .mk 0x401C0080 [(4, 8)] [.mk 0 32 .rw .open .tab 0 0]]

/-- The PWR registers. -/
def regTablePwr : List RegDesc := [
   -- PWR_STATUS
   .mk 0x401D0000 [] [.mk 3 3 .ro .open .por 0 0, .mk 2 1 .ro .open .por 0 0, .mk 1 1 .ro .open .por 0 0, .mk 0 1 .ro .open .por 0 0],
   -- PWR_VSUP
   .mk 0x401D0004 [] [.mk 16 16 .ro .open .por 0 0, .mk 0 16 .ro .open .por 0 0],
   -- PWR_RAIL
   .mk 0x401D0008 [] [.mk 24 8 .ro .open .por 0 0, .mk 16 8 .ro .open .por 0 0, .mk 8 8 .ro .open .por 0 0, .mk 0 8 .ro .open .por 0 0],
   -- PWR_HOLDUP
   .mk 0x401D000C [] [.mk 30 2 .ro .open .por 0 0, .mk 0 16 .ro .open .por 0 0],
   -- PWR_EVCAUSE
   .mk 0x401D0010 [] [.mk 0 8 .w1c .open .por 0 0]]

/-- The AUX registers. -/
def regTableAux : List RegDesc := [
   -- AUX_CFG
   .mk 0x401A0000 [] [.mk 0 9 .rw .open .tab 0 240],
   -- AUX_TOTAL
   .mk 0x401A0004 [] [.mk 16 16 .ro .open .por 0 0, .mk 0 16 .ro .open .por 0 0],
   -- AUX_FLT_LO
   .mk 0x401A0008 [] [.mk 0 32 .w1c .open .por 0 0],
   -- AUX_FLT_HI
   .mk 0x401A000C [] [.mk 0 16 .w1c .open .por 0 0],
   -- AUX_ON_LO
   .mk 0x401A0010 [] [.mk 0 32 .ro .open .por 0 0],
   -- AUX_ON_HI
   .mk 0x401A0014 [] [.mk 0 16 .ro .open .por 0 0],
   -- AUX_CHCFG
   .mk 0x401A0100 [(4, 48)] [.mk 30 2 .rw .open .tab 0 0, .mk 27 3 .ro .open .por 0 0, .mk 22 5 .rw .open .tab 0 2, .mk 0 15 .rw .open .tab 0 0],
   -- AUX_CHOUT
   .mk 0x401A0200 [(4, 48)] [.mk 30 2 .ro .open .por 0 0, .mk 14 12 .ro .open .por 0 0, .mk 0 14 .rw .open .por 0 0],
   -- AUX_GPIOCFG
   .mk 0x401A0300 [(4, 16)] [.mk 30 2 .ro .open .por 0 0, .mk 6 2 .rw .open .tab 0 0, .mk 0 5 .rw .open .tab 0 0],
   -- AUX_GPIOIN
   .mk 0x401A0340 [] [.mk 0 16 .ro .open .por 0 0]]

/-- The CAN registers. -/
def regTableCan : List RegDesc := [
   -- CAN_CFG
   .mk 0x401B0000 [(1024, 4)] [.mk 31 1 .rwl .commit .tab 0 0, .mk 30 1 .rw .open .tab 0 0, .mk 29 1 .ro .open .por 0 0, .mk 0 4 .rw .open .tab 0 0],
   -- CAN_NBT
   .mk 0x401B0004 [(1024, 4)] [.mk 16 8 .rw .open .tab 0 0, .mk 10 6 .rw .open .tab 0 0, .mk 5 5 .rw .open .tab 0 0, .mk 0 5 .rw .open .tab 0 0],
   -- CAN_DBT
   .mk 0x401B0008 [(1024, 4)] [.mk 31 1 .rw .open .tab 0 0, .mk 24 7 .rw .open .tab 0 0, .mk 16 8 .rw .open .tab 0 0, .mk 10 6 .rw .open .tab 0 0, .mk 5 5 .rw .open .tab 0 0, .mk 0 5 .rw .open .tab 0 0],
   -- CAN_PSTAT
   .mk 0x401B000C [(1024, 4)] [.mk 30 2 .ro .open .por 0 0, .mk 16 8 .ro .open .por 0 0, .mk 8 8 .ro .open .por 0 0, .mk 4 4 .ro .open .por 0 0, .mk 0 4 .w1c .open .por 0 0],
   -- CAN_RXSTAT
   .mk 0x401B0010 [(1024, 4)] [.mk 31 1 .wo .open .por 0 0, .mk 8 8 .ro .open .por 0 0, .mk 0 7 .ro .open .por 0 0],
   -- CAN_TXCMD
   .mk 0x401B0014 [(1024, 4)] [.mk 31 1 .wo .open .por 0 0, .mk 0 2 .ro .open .por 0 0],
   -- CAN_FILT
   .mk 0x401B0040 [(1024, 4), (8, 8)] [.mk 31 1 .rw .open .tab 0 0, .mk 30 1 .rw .open .tab 0 0, .mk 0 29 .rw .open .tab 0 0],
   -- CAN_MASK
   .mk 0x401B0044 [(1024, 4), (8, 8)] [.mk 0 29 .rw .open .tab 0 0],
   -- CAN_RXDATA
   .mk 0x401B0100 [(1024, 4), (4, 19)] [.mk 0 32 .ro .open .por 0 0],
   -- CAN_TXDATA
   .mk 0x401B0200 [(1024, 4), (4, 19)] [.mk 0 32 .rw .open .por 0 0]]

/-- The NVM registers. -/
def regTableNvm : List RegDesc := [
   -- NVM_CMD
   .mk 0x401E0000 [] [.mk 28 4 .wo .open .por 0 0, .mk 27 1 .wo .open .por 0 0],
   -- NVM_ADDR
   .mk 0x401E0004 [] [.mk 0 32 .rw .open .por 0 0],
   -- NVM_SRC
   .mk 0x401E0008 [] [.mk 0 32 .rw .open .por 0 0],
   -- NVM_LEN
   .mk 0x401E000C [] [.mk 0 32 .rw .open .por 0 0],
   -- NVM_STATUS
   .mk 0x401E0010 [] [.mk 30 2 .ro .open .por 0 0, .mk 26 4 .ro .open .por 0 0, .mk 25 1 .ro .open .por 0 0, .mk 24 1 .ro .open .por 0 0, .mk 23 1 .ro .open .por 0 0],
   -- NVM_INFO
   .mk 0x401E0014 [] [.mk 30 2 .ro .open .por 0 0, .mk 0 16 .ro .open .por 0 0],
   -- NVM_PUBSEL
   .mk 0x401E0020 [] [.mk 16 16 .ro .open .por 0 0, .mk 0 3 .rw .open .por 0 0],
   -- NVM_PUBDATA
   .mk 0x401E0040 [(4, 33)] [.mk 0 32 .ro .open .por 0 0]]

/-- Every register of the device (R47). -/
def regTable : List RegDesc :=
  regTableTb ++
  regTableInkA ++
  regTableInkB ++
  regTablePrsA ++
  regTablePrsB ++
  regTableStrA ++
  regTableStrB ++
  regTableTunA ++
  regTableTunB ++
  regTableTunC ++
  regTableTunD ++
  regTableOutA ++
  regTableOutB ++
  regTableVlkA ++
  regTableVlkB ++
  regTableVlkC ++
  regTableCabA ++
  regTableCabB ++
  regTableThm ++
  regTableTalA ++
  regTableTalB ++
  regTableTalC ++
  regTableSafA ++
  regTableSafB ++
  regTableDupA ++
  regTableDupB ++
  regTableFabA ++
  regTableFabB ++
  regTableMemA ++
  regTableMemB ++
  regTableMemC ++
  regTableSys ++
  regTableTxn ++
  regTablePgh ++
  regTableEvt ++
  regTableHst ++
  regTablePwr ++
  regTableAux ++
  regTableCan ++
  regTableNvm

end Sys2Proof.Machine
end

