-- ==== Sys2Proof/Machine/RegsOutlets.lean ====
section
/-! DEFINITION. The fields of the outlet, vehicle-link, cable and thermal registers: each field of each register heading of the spec's
register maps, at the block base of R47 plus the heading's offset (R8, R47). -/

namespace Sys2Proof.Machine.Reg

/-- `OUT_STATUS.LIVE`, bits 31:16, RO, reset 0. -/
def OUT_STATUS_LIVE : Fld := ⟨32 * (0x400E0000) + 16, 16⟩
/-- `OUT_STATUS.SERVING`, bits 15:0, RO, reset 0. -/
def OUT_STATUS_SERVING : Fld := ⟨32 * (0x400E0000), 16⟩
/-- `OUT_TMO.TCOMM`, bits 31:26, RW, reset TAB. -/
def OUT_TMO_TCOMM : Fld := ⟨32 * (0x400E0004) + 26, 6⟩
/-- `OUT_TMO.TSETUP`, bits 25:20, RW, reset TAB. -/
def OUT_TMO_TSETUP : Fld := ⟨32 * (0x400E0004) + 20, 6⟩
/-- `OUT_TMO.TDISC`, bits 19:14, RW, reset TAB. -/
def OUT_TMO_TDISC : Fld := ⟨32 * (0x400E0004) + 14, 6⟩
/-- `OUT_TMO.TCC`, bits 13:8, RW, reset TAB. -/
def OUT_TMO_TCC : Fld := ⟨32 * (0x400E0004) + 8, 6⟩
/-- `OUT_TMO.TPRE`, bits 7:4, RW, reset TAB. -/
def OUT_TMO_TPRE : Fld := ⟨32 * (0x400E0004) + 4, 4⟩
/-- `OUT_TMO.TLOCK`, bits 3:0, RW, reset TAB. -/
def OUT_TMO_TLOCK : Fld := ⟨32 * (0x400E0004), 4⟩
/-- `OUT_TMO2.TAUTH`, bits 8:0, RW, reset TAB. -/
def OUT_TMO2_TAUTH : Fld := ⟨32 * (0x400E0008), 9⟩
/-- `OUT_STRLATCH_LO.LATCH`, bits 31:0, W1C, reset 0. -/
def OUT_STRLATCH_LO_LATCH : Fld := ⟨32 * (0x400E0010), 32⟩
/-- `OUT_STRLATCH_HI.LATCH`, bits 31:0, W1C, reset 0. -/
def OUT_STRLATCH_HI_LATCH : Fld := ⟨32 * (0x400E0014), 32⟩
/-- `OUT_STRCNT[s].FROZEN`, bits 31:31, RO, reset 0. -/
def OUT_STRCNT_FROZEN (s : Nat) : Fld := ⟨32 * (0x400E0100 + 4 * s) + 31, 1⟩
/-- `OUT_STRCNT[s].LATCHED`, bits 30:30, RO, reset 0. -/
def OUT_STRCNT_LATCHED (s : Nat) : Fld := ⟨32 * (0x400E0100 + 4 * s) + 30, 1⟩
/-- `OUT_STRCNT[s].COUNT`, bits 29:28, RO, reset 0. -/
def OUT_STRCNT_COUNT (s : Nat) : Fld := ⟨32 * (0x400E0100 + 4 * s) + 28, 2⟩
/-- `OUT_STRCNT[s].NEXT`, bits 11:0, RO, reset 0. -/
def OUT_STRCNT_NEXT (s : Nat) : Fld := ⟨32 * (0x400E0100 + 4 * s), 12⟩
/-- `OUT_CFG[n].TYPE`, bits 31:30, RWL COMMIT, reset TAB. -/
def OUT_CFG_TYPE (n : Nat) : Fld := ⟨32 * (0x400E1000 + 256 * n) + 30, 2⟩
/-- `OUT_CFG[n].BPT`, bits 29:29, RW, reset TAB. -/
def OUT_CFG_BPT (n : Nat) : Fld := ⟨32 * (0x400E1000 + 256 * n) + 29, 1⟩
/-- `OUT_CFG[n].LEGAL`, bits 28:28, RWL SEAL, reset TAB. -/
def OUT_CFG_LEGAL (n : Nat) : Fld := ⟨32 * (0x400E1000 + 256 * n) + 28, 1⟩
/-- `OUT_CFG[n].DIN`, bits 27:27, RW, reset TAB. -/
def OUT_CFG_DIN (n : Nat) : Fld := ⟨32 * (0x400E1000 + 256 * n) + 27, 1⟩
/-- `OUT_CFG[n].ISO2`, bits 26:26, RW, reset TAB. -/
def OUT_CFG_ISO2 (n : Nat) : Fld := ⟨32 * (0x400E1000 + 256 * n) + 26, 1⟩
/-- `OUT_CFG[n].ISO20`, bits 25:25, RW, reset TAB. -/
def OUT_CFG_ISO20 (n : Nat) : Fld := ⟨32 * (0x400E1000 + 256 * n) + 25, 1⟩
/-- `OUT_CFG[n].EIM`, bits 24:24, RW, reset TAB. -/
def OUT_CFG_EIM (n : Nat) : Fld := ⟨32 * (0x400E1000 + 256 * n) + 24, 1⟩
/-- `OUT_CFG[n].PNC`, bits 23:23, RW, reset TAB. -/
def OUT_CFG_PNC (n : Nat) : Fld := ⟨32 * (0x400E1000 + 256 * n) + 23, 1⟩
/-- `OUT_CFG[n].FREE`, bits 22:22, RW, reset TAB. -/
def OUT_CFG_FREE (n : Nat) : Fld := ⟨32 * (0x400E1000 + 256 * n) + 22, 1⟩
/-- `OUT_CFG[n].LOCK`, bits 21:21, RWL COMMIT, reset TAB. -/
def OUT_CFG_LOCK (n : Nat) : Fld := ⟨32 * (0x400E1000 + 256 * n) + 21, 1⟩
/-- `OUT_RATING[n].VMAX`, bits 31:16, RWL COMMIT, reset TAB. -/
def OUT_RATING_VMAX (n : Nat) : Fld := ⟨32 * (0x400E1004 + 256 * n) + 16, 16⟩
/-- `OUT_RATING[n].IMAX`, bits 15:0, RWL COMMIT, reset TAB. -/
def OUT_RATING_IMAX (n : Nat) : Fld := ⟨32 * (0x400E1004 + 256 * n), 16⟩
/-- `OUT_BPT[n].VMIN`, bits 31:16, RW, reset TAB. -/
def OUT_BPT_VMIN (n : Nat) : Fld := ⟨32 * (0x400E1008 + 256 * n) + 16, 16⟩
/-- `OUT_BPT[n].IDIS`, bits 15:0, RW, reset TAB. -/
def OUT_BPT_IDIS (n : Nat) : Fld := ⟨32 * (0x400E1008 + 256 * n), 16⟩
/-- `OUT_LOCKCFG[n].ACT`, bits 31:24, RWL COMMIT, reset TAB. -/
def OUT_LOCKCFG_ACT (n : Nat) : Fld := ⟨32 * (0x400E100C + 256 * n) + 24, 8⟩
/-- `OUT_LOCKCFG[n].FB`, bits 23:20, RWL COMMIT, reset TAB. -/
def OUT_LOCKCFG_FB (n : Nat) : Fld := ⟨32 * (0x400E100C + 256 * n) + 20, 4⟩
/-- `OUT_LOCKCFG[n].MODE`, bits 19:19, RW, reset TAB. -/
def OUT_LOCKCFG_MODE (n : Nat) : Fld := ⟨32 * (0x400E100C + 256 * n) + 19, 1⟩
/-- `OUT_LOCKCFG[n].FBPOL`, bits 18:18, RW, reset TAB. -/
def OUT_LOCKCFG_FBPOL (n : Nat) : Fld := ⟨32 * (0x400E100C + 256 * n) + 18, 1⟩
/-- `OUT_LOCKCFG[n].PULSE`, bits 17:8, RW, reset TAB. -/
def OUT_LOCKCFG_PULSE (n : Nat) : Fld := ⟨32 * (0x400E100C + 256 * n) + 8, 10⟩
/-- `OUT_PRECFG[n].ILIM`, bits 15:8, RW, reset TAB. -/
def OUT_PRECFG_ILIM (n : Nat) : Fld := ⟨32 * (0x400E1010 + 256 * n) + 8, 8⟩
/-- `OUT_PRECFG[n].DWELL`, bits 7:0, RW, reset TAB. -/
def OUT_PRECFG_DWELL (n : Nat) : Fld := ⟨32 * (0x400E1010 + 256 * n), 8⟩
/-- `OUT_CMD[n].DUMMYRUN`, bits 5:5, WO, reset 0. -/
def OUT_CMD_DUMMYRUN (n : Nat) : Fld := ⟨32 * (0x400E1014 + 256 * n) + 5, 1⟩
/-- `OUT_CMD[n].AUTHNO`, bits 4:4, WO, reset 0. -/
def OUT_CMD_AUTHNO (n : Nat) : Fld := ⟨32 * (0x400E1014 + 256 * n) + 4, 1⟩
/-- `OUT_CMD[n].AUTHOK`, bits 3:3, WO, reset 0. -/
def OUT_CMD_AUTHOK (n : Nat) : Fld := ⟨32 * (0x400E1014 + 256 * n) + 3, 1⟩
/-- `OUT_CMD[n].STOP`, bits 2:2, WO, reset 0. -/
def OUT_CMD_STOP (n : Nat) : Fld := ⟨32 * (0x400E1014 + 256 * n) + 2, 1⟩
/-- `OUT_CMD[n].DISABLE`, bits 1:1, WO, reset 0. -/
def OUT_CMD_DISABLE (n : Nat) : Fld := ⟨32 * (0x400E1014 + 256 * n) + 1, 1⟩
/-- `OUT_CMD[n].ENABLE`, bits 0:0, WO, reset 0. -/
def OUT_CMD_ENABLE (n : Nat) : Fld := ⟨32 * (0x400E1014 + 256 * n), 1⟩
/-- `OUT_SESS[n].STATE`, bits 31:28, RO, reset 0. -/
def OUT_SESS_STATE (n : Nat) : Fld := ⟨32 * (0x400E1018 + 256 * n) + 28, 4⟩
/-- `OUT_SESS[n].CONN`, bits 27:26, RO, reset 0. -/
def OUT_SESS_CONN (n : Nat) : Fld := ⟨32 * (0x400E1018 + 256 * n) + 26, 2⟩
/-- `OUT_SESS[n].PROTO`, bits 25:23, RO, reset 0. -/
def OUT_SESS_PROTO (n : Nat) : Fld := ⟨32 * (0x400E1018 + 256 * n) + 23, 3⟩
/-- `OUT_SESS[n].DISCHG`, bits 22:22, RO, reset 0. -/
def OUT_SESS_DISCHG (n : Nat) : Fld := ⟨32 * (0x400E1018 + 256 * n) + 22, 1⟩
/-- `OUT_SESS[n].ISOWARN`, bits 21:21, RO, reset 0. -/
def OUT_SESS_ISOWARN (n : Nat) : Fld := ⟨32 * (0x400E1018 + 256 * n) + 21, 1⟩
/-- `OUT_SESS[n].FALLBACK`, bits 20:20, RO, reset 0. -/
def OUT_SESS_FALLBACK (n : Nat) : Fld := ⟨32 * (0x400E1018 + 256 * n) + 20, 1⟩
/-- `OUT_SESS[n].STEWARD`, bits 18:16, RO, reset 0. -/
def OUT_SESS_STEWARD (n : Nat) : Fld := ⟨32 * (0x400E1018 + 256 * n) + 16, 3⟩
/-- `OUT_SESSNUM[n].NUM`, bits 31:0, RO, reset 0. -/
def OUT_SESSNUM_NUM (n : Nat) : Fld := ⟨32 * (0x400E101C + 256 * n), 32⟩
/-- `OUT_DEMAND[n].IREQ`, bits 31:16, RO, reset 0. -/
def OUT_DEMAND_IREQ (n : Nat) : Fld := ⟨32 * (0x400E1020 + 256 * n) + 16, 16⟩
/-- `OUT_DEMAND[n].VTGT`, bits 15:0, RO, reset 0. -/
def OUT_DEMAND_VTGT (n : Nat) : Fld := ⟨32 * (0x400E1020 + 256 * n), 16⟩
/-- `OUT_EVMAX[n].IMAX`, bits 31:16, RO, reset 0. -/
def OUT_EVMAX_IMAX (n : Nat) : Fld := ⟨32 * (0x400E1024 + 256 * n) + 16, 16⟩
/-- `OUT_EVMAX[n].VMAX`, bits 15:0, RO, reset 0. -/
def OUT_EVMAX_VMAX (n : Nat) : Fld := ⟨32 * (0x400E1024 + 256 * n), 16⟩
/-- `OUT_ADV[n].KW`, bits 31:16, RO, reset 0. -/
def OUT_ADV_KW (n : Nat) : Fld := ⟨32 * (0x400E1028 + 256 * n) + 16, 16⟩
/-- `OUT_ADV[n].IMAX`, bits 15:0, RO, reset 0. -/
def OUT_ADV_IMAX (n : Nat) : Fld := ⟨32 * (0x400E1028 + 256 * n), 16⟩
/-- `OUT_ISO[n].STATUS`, bits 31:30, RO, reset 0. -/
def OUT_ISO_STATUS (n : Nat) : Fld := ⟨32 * (0x400E102C + 256 * n) + 30, 2⟩
/-- `OUT_ISO[n].KOHM`, bits 23:0, RO, reset 0. -/
def OUT_ISO_KOHM (n : Nat) : Fld := ⟨32 * (0x400E102C + 256 * n), 24⟩
/-- `OUT_RETRY[n].FROZEN`, bits 31:31, RO, reset 0. -/
def OUT_RETRY_FROZEN (n : Nat) : Fld := ⟨32 * (0x400E1030 + 256 * n) + 31, 1⟩
/-- `OUT_RETRY[n].PENDING`, bits 30:30, RO, reset 0. -/
def OUT_RETRY_PENDING (n : Nat) : Fld := ⟨32 * (0x400E1030 + 256 * n) + 30, 1⟩
/-- `OUT_RETRY[n].LOCKOUT`, bits 29:29, RO, reset 0. -/
def OUT_RETRY_LOCKOUT (n : Nat) : Fld := ⟨32 * (0x400E1030 + 256 * n) + 29, 1⟩
/-- `OUT_RETRY[n].SOFT`, bits 28:27, RO, reset 0. -/
def OUT_RETRY_SOFT (n : Nat) : Fld := ⟨32 * (0x400E1030 + 256 * n) + 27, 2⟩
/-- `OUT_RETRY[n].COUNT`, bits 26:25, RO, reset 0. -/
def OUT_RETRY_COUNT (n : Nat) : Fld := ⟨32 * (0x400E1030 + 256 * n) + 25, 2⟩
/-- `OUT_RETRY[n].NEXT`, bits 9:0, RO, reset 0. -/
def OUT_RETRY_NEXT (n : Nat) : Fld := ⟨32 * (0x400E1030 + 256 * n), 10⟩
/-- `OUT_EVCAUSE[n].GRANT0`, bits 10:10, W1C, reset 0. -/
def OUT_EVCAUSE_GRANT0 (n : Nat) : Fld := ⟨32 * (0x400E1034 + 256 * n) + 10, 1⟩
/-- `OUT_EVCAUSE[n].RUNDOWN`, bits 9:9, W1C, reset 0. -/
def OUT_EVCAUSE_RUNDOWN (n : Nat) : Fld := ⟨32 * (0x400E1034 + 256 * n) + 9, 1⟩
/-- `OUT_EVCAUSE[n].HOLDUP`, bits 8:8, W1C, reset 0. -/
def OUT_EVCAUSE_HOLDUP (n : Nat) : Fld := ⟨32 * (0x400E1034 + 256 * n) + 8, 1⟩
/-- `OUT_EVCAUSE[n].LOCK`, bits 7:7, W1C, reset 0. -/
def OUT_EVCAUSE_LOCK (n : Nat) : Fld := ⟨32 * (0x400E1034 + 256 * n) + 7, 1⟩
/-- `OUT_EVCAUSE[n].WELD`, bits 6:6, W1C, reset 0. -/
def OUT_EVCAUSE_WELD (n : Nat) : Fld := ⟨32 * (0x400E1034 + 256 * n) + 6, 1⟩
/-- `OUT_EVCAUSE[n].LOCKOUT`, bits 5:5, W1C, reset 0. -/
def OUT_EVCAUSE_LOCKOUT (n : Nat) : Fld := ⟨32 * (0x400E1034 + 256 * n) + 5, 1⟩
/-- `OUT_EVCAUSE[n].RETRY`, bits 4:4, W1C, reset 0. -/
def OUT_EVCAUSE_RETRY (n : Nat) : Fld := ⟨32 * (0x400E1034 + 256 * n) + 4, 1⟩
/-- `OUT_EVCAUSE[n].SOFTSTART`, bits 3:3, W1C, reset 0. -/
def OUT_EVCAUSE_SOFTSTART (n : Nat) : Fld := ⟨32 * (0x400E1034 + 256 * n) + 3, 1⟩
/-- `OUT_EVCAUSE[n].ISOFAULT`, bits 2:2, W1C, reset 0. -/
def OUT_EVCAUSE_ISOFAULT (n : Nat) : Fld := ⟨32 * (0x400E1034 + 256 * n) + 2, 1⟩
/-- `OUT_EVCAUSE[n].ISOWARN`, bits 1:1, W1C, reset 0. -/
def OUT_EVCAUSE_ISOWARN (n : Nat) : Fld := ⟨32 * (0x400E1034 + 256 * n) + 1, 1⟩
/-- `OUT_EVCAUSE[n].SENSE`, bits 0:0, W1C, reset 0. -/
def OUT_EVCAUSE_SENSE (n : Nat) : Fld := ⟨32 * (0x400E1034 + 256 * n), 1⟩
/-- `OUT_END[n].CAUSE`, bits 7:0, RO, reset 0. -/
def OUT_END_CAUSE (n : Nat) : Fld := ⟨32 * (0x400E1038 + 256 * n), 8⟩
/-- `OUT_WELD[n].RESULT`, bits 31:30, RO, reset 0. -/
def OUT_WELD_RESULT (n : Nat) : Fld := ⟨32 * (0x400E103C + 256 * n) + 30, 2⟩
/-- `OUT_WELD[n].V2S`, bits 15:0, RO, reset 0. -/
def OUT_WELD_V2S (n : Nat) : Fld := ⟨32 * (0x400E103C + 256 * n), 16⟩
/-- `OUT_DUMMYSP[n].V`, bits 31:16, RW, reset 0. -/
def OUT_DUMMYSP_V (n : Nat) : Fld := ⟨32 * (0x400E1040 + 256 * n) + 16, 16⟩
/-- `OUT_DUMMYSP[n].I`, bits 15:0, RW, reset 0. -/
def OUT_DUMMYSP_I (n : Nat) : Fld := ⟨32 * (0x400E1040 + 256 * n), 16⟩
/-- `VLK_STATUS.T1SUP`, bits 31:16, RO, reset 0. -/
def VLK_STATUS_T1SUP : Fld := ⟨32 * (0x40100000) + 16, 16⟩
/-- `VLK_STATUS.MATCHED`, bits 15:0, RO, reset 0. -/
def VLK_STATUS_MATCHED : Fld := ⟨32 * (0x40100000), 16⟩
/-- `VLK_BCNCFG.FEED`, bits 17:16, RW, reset TAB. -/
def VLK_BCNCFG_FEED : Fld := ⟨32 * (0x40100004) + 16, 2⟩
/-- `VLK_BCNCFG.PHASE`, bits 15:14, RW, reset TAB. -/
def VLK_BCNCFG_PHASE : Fld := ⟨32 * (0x40100004) + 14, 2⟩
/-- `VLK_BCNCFG.NOMHZ`, bits 13:13, RW, reset TAB. -/
def VLK_BCNCFG_NOMHZ : Fld := ⟨32 * (0x40100004) + 13, 1⟩
/-- `VLK_BCNCFG.OFFSET`, bits 11:0, RW, reset TAB. -/
def VLK_BCNCFG_OFFSET : Fld := ⟨32 * (0x40100004), 12⟩
/-- `VLK_BCNSTAT.STATE`, bits 31:30, RO, reset 1. -/
def VLK_BCNSTAT_STATE : Fld := ⟨32 * (0x40100008) + 30, 2⟩
/-- `VLK_BCNSTAT.MISSED`, bits 19:16, RO, reset 0. -/
def VLK_BCNSTAT_MISSED : Fld := ⟨32 * (0x40100008) + 16, 4⟩
/-- `VLK_BCNSTAT.PERIOD`, bits 15:0, RO, reset 0. -/
def VLK_BCNSTAT_PERIOD : Fld := ⟨32 * (0x40100008), 16⟩
/-- `VLK_NOISECFG.EVTRATE`, bits 19:4, RW, reset TAB. -/
def VLK_NOISECFG_EVTRATE : Fld := ⟨32 * (0x4010000C) + 4, 16⟩
/-- `VLK_NOISECFG.K`, bits 3:0, RW, reset TAB. -/
def VLK_NOISECFG_K : Fld := ⟨32 * (0x4010000C), 4⟩
/-- `VLK_MACCFG.RETRY`, bits 3:0, RW, reset TAB. -/
def VLK_MACCFG_RETRY : Fld := ⟨32 * (0x40100010), 4⟩
/-- `VLK_SLACCFG.MINSOUNDS`, bits 11:8, RW, reset TAB. -/
def VLK_SLACCFG_MINSOUNDS : Fld := ⟨32 * (0x40100014) + 8, 4⟩
/-- `VLK_SLACCFG.MARGIN`, bits 7:0, RW, reset TAB. -/
def VLK_SLACCFG_MARGIN : Fld := ⟨32 * (0x40100014), 8⟩
/-- `VLK_T1SCFG.LINKTMO`, bits 6:0, RW, reset TAB. -/
def VLK_T1SCFG_LINKTMO : Fld := ⟨32 * (0x40100018), 7⟩
/-- `VLK_TLSCFG.UNKNOWN`, bits 1:1, RW, reset TAB. -/
def VLK_TLSCFG_UNKNOWN : Fld := ⟨32 * (0x4010001C) + 1, 1⟩
/-- `VLK_TLSCFG.REVCHK`, bits 0:0, RW, reset TAB. -/
def VLK_TLSCFG_REVCHK : Fld := ⟨32 * (0x4010001C), 1⟩
/-- `VLK_RELAYCFG.EN`, bits 31:31, RWL COMMIT, reset TAB. -/
def VLK_RELAYCFG_EN : Fld := ⟨32 * (0x40100020) + 31, 1⟩
/-- `VLK_RELAYCFG.PGH`, bits 20:16, RWL COMMIT, reset TAB. -/
def VLK_RELAYCFG_PGH : Fld := ⟨32 * (0x40100020) + 16, 5⟩
/-- `VLK_RELAYCFG.MARGIN`, bits 15:0, RW, reset TAB. -/
def VLK_RELAYCFG_MARGIN : Fld := ⟨32 * (0x40100020), 16⟩
/-- `VLK_IDCMD.OP`, bits 31:30, WO, reset 0. -/
def VLK_IDCMD_OP : Fld := ⟨32 * (0x40100024) + 30, 2⟩
/-- `VLK_IDCMD.SLOT`, bits 29:28, WO, reset 0. -/
def VLK_IDCMD_SLOT : Fld := ⟨32 * (0x40100024) + 28, 2⟩
/-- `VLK_IDCMD.CURVE`, bits 27:27, WO, reset 0. -/
def VLK_IDCMD_CURVE : Fld := ⟨32 * (0x40100024) + 27, 1⟩
/-- `VLK_IDCMD.LEN`, bits 13:0, WO, reset 0. -/
def VLK_IDCMD_LEN : Fld := ⟨32 * (0x40100024), 14⟩
/-- `VLK_IDSTAT[i].STATE`, bits 31:28, RO, reset 0. -/
def VLK_IDSTAT_STATE (i : Nat) : Fld := ⟨32 * (0x40100040 + 4 * i) + 28, 4⟩
/-- `VLK_IDSTAT[i].CURVE`, bits 27:27, RO, reset 0. -/
def VLK_IDSTAT_CURVE (i : Nat) : Fld := ⟨32 * (0x40100040 + 4 * i) + 27, 1⟩
/-- `VLK_IDSTAT[i].DAYS`, bits 15:0, RO, reset 0. -/
def VLK_IDSTAT_DAYS (i : Nat) : Fld := ⟨32 * (0x40100040 + 4 * i), 16⟩
/-- `VLK_ROOTSTAT.VALID`, bits 15:0, RO, reset 0. -/
def VLK_ROOTSTAT_VALID : Fld := ⟨32 * (0x40100050), 16⟩
/-- `VLK_AMBIG.COUNT`, bits 15:0, RO, reset 0. -/
def VLK_AMBIG_COUNT : Fld := ⟨32 * (0x40100054), 16⟩
/-- `VLK_OUTCFG[n].ID20`, bits 3:2, RW, reset TAB. -/
def VLK_OUTCFG_ID20 (n : Nat) : Fld := ⟨32 * (0x40101000 + 256 * n) + 2, 2⟩
/-- `VLK_OUTCFG[n].ID2`, bits 1:0, RW, reset TAB. -/
def VLK_OUTCFG_ID2 (n : Nat) : Fld := ⟨32 * (0x40101000 + 256 * n), 2⟩
/-- `VLK_LINK[n].LSTATE`, bits 31:28, RO, reset 0. -/
def VLK_LINK_LSTATE (n : Nat) : Fld := ⟨32 * (0x40101004 + 256 * n) + 28, 4⟩
/-- `VLK_LINK[n].ROBO`, bits 27:26, RO, reset 0. -/
def VLK_LINK_ROBO (n : Nat) : Fld := ⟨32 * (0x40101004 + 256 * n) + 26, 2⟩
/-- `VLK_LINK[n].TLSVER`, bits 17:16, RO, reset 0. -/
def VLK_LINK_TLSVER (n : Nat) : Fld := ⟨32 * (0x40101004 + 256 * n) + 16, 2⟩
/-- `VLK_LINK[n].EVCAUSE`, bits 15:8, W1C, reset 0. -/
def VLK_LINK_EVCAUSE (n : Nat) : Fld := ⟨32 * (0x40101004 + 256 * n) + 8, 8⟩
/-- `VLK_LINK[n].SNR`, bits 7:0, RO, reset 0. -/
def VLK_LINK_SNR (n : Nat) : Fld := ⟨32 * (0x40101004 + 256 * n), 8⟩
/-- `VLK_ATTEN[n].MEAN`, bits 31:20, RO, reset 0. -/
def VLK_ATTEN_MEAN (n : Nat) : Fld := ⟨32 * (0x40101008 + 256 * n) + 20, 12⟩
/-- `VLK_ATTEN[n].SOUNDS`, bits 19:16, RO, reset 0. -/
def VLK_ATTEN_SOUNDS (n : Nat) : Fld := ⟨32 * (0x40101008 + 256 * n) + 16, 4⟩
/-- `VLK_ATTEN[n].RUNNER`, bits 15:11, RO, reset 0x1F. -/
def VLK_ATTEN_RUNNER (n : Nat) : Fld := ⟨32 * (0x40101008 + 256 * n) + 11, 5⟩
/-- `VLK_ATTEN[n].GAP`, bits 10:0, RO, reset 0. -/
def VLK_ATTEN_GAP (n : Nat) : Fld := ⟨32 * (0x40101008 + 256 * n), 11⟩
/-- `VLK_BLANK[n].COUNT`, bits 31:0, RO, reset 0. -/
def VLK_BLANK_COUNT (n : Nat) : Fld := ⟨32 * (0x4010100C + 256 * n), 32⟩
/-- `VLK_ERASE[n].COUNT`, bits 31:0, RO, reset 0. -/
def VLK_ERASE_COUNT (n : Nat) : Fld := ⟨32 * (0x40101010 + 256 * n), 32⟩
/-- `VLK_PBERR[n].COUNT`, bits 31:0, RO, reset 0. -/
def VLK_PBERR_COUNT (n : Nat) : Fld := ⟨32 * (0x40101014 + 256 * n), 32⟩
/-- `VLK_RETRY[n].COUNT`, bits 31:0, RO, reset 0. -/
def VLK_RETRY_COUNT (n : Nat) : Fld := ⟨32 * (0x40101018 + 256 * n), 32⟩
/-- `VLK_T1SSTAT[n].COLL`, bits 31:16, RO, reset 0. -/
def VLK_T1SSTAT_COLL (n : Nat) : Fld := ⟨32 * (0x4010101C + 256 * n) + 16, 16⟩
/-- `VLK_T1SSTAT[n].JABBER`, bits 15:8, RO, reset 0. -/
def VLK_T1SSTAT_JABBER (n : Nat) : Fld := ⟨32 * (0x4010101C + 256 * n) + 8, 8⟩
/-- `VLK_T1SSTAT[n].FCSERR`, bits 7:0, RO, reset 0. -/
def VLK_T1SSTAT_FCSERR (n : Nat) : Fld := ⟨32 * (0x4010101C + 256 * n), 8⟩
/-- `VLK_TLS[n].SLOT`, bits 9:8, RO, reset 0. -/
def VLK_TLS_SLOT (n : Nat) : Fld := ⟨32 * (0x40101020 + 256 * n) + 8, 2⟩
/-- `VLK_TLS[n].ALERT`, bits 7:0, RO, reset 0. -/
def VLK_TLS_ALERT (n : Nat) : Fld := ⟨32 * (0x40101020 + 256 * n), 8⟩
/-- `VLK_RELAY[n].KIND`, bits 31:30, RO, reset 0. -/
def VLK_RELAY_KIND (n : Nat) : Fld := ⟨32 * (0x40101024 + 256 * n) + 30, 2⟩
/-- `VLK_RELAY[n].STATE`, bits 29:28, RO, reset 0. -/
def VLK_RELAY_STATE (n : Nat) : Fld := ⟨32 * (0x40101024 + 256 * n) + 28, 2⟩
/-- `VLK_RELAY[n].REQLEN`, bits 27:14, RO, reset 0. -/
def VLK_RELAY_REQLEN (n : Nat) : Fld := ⟨32 * (0x40101024 + 256 * n) + 14, 14⟩
/-- `VLK_RELAY[n].RSPLEN`, bits 13:0, RW, reset 0. -/
def VLK_RELAY_RSPLEN (n : Nat) : Fld := ⟨32 * (0x40101024 + 256 * n), 14⟩
/-- `VLK_DEPART[n].VALUE`, bits 31:0, RO, reset 0. -/
def VLK_DEPART_VALUE (n : Nat) : Fld := ⟨32 * (0x40101028 + 256 * n), 32⟩
/-- `VLK_ENERGY[n].VALUE`, bits 31:0, RO, reset 0. -/
def VLK_ENERGY_VALUE (n : Nat) : Fld := ⟨32 * (0x4010102C + 256 * n), 32⟩
/-- `VLK_EVID_LO[n].ID`, bits 31:0, RO, reset 0. -/
def VLK_EVID_LO_ID (n : Nat) : Fld := ⟨32 * (0x40101030 + 256 * n), 32⟩
/-- `VLK_EVID_HI[n].ID`, bits 31:0, RO, reset 0. -/
def VLK_EVID_HI_ID (n : Nat) : Fld := ⟨32 * (0x40101034 + 256 * n), 32⟩
/-- `CAB_STATUS.LATCH`, bits 31:16, RO, reset 0. -/
def CAB_STATUS_LATCH : Fld := ⟨32 * (0x40120000) + 16, 16⟩
/-- `CAB_STATUS.LIMITING`, bits 15:0, RO, reset 0. -/
def CAB_STATUS_LIMITING : Fld := ⟨32 * (0x40120000), 16⟩
/-- `CAB_TRES[t].ALPHA`, bits 31:16, RWL COMMIT, reset TAB. -/
def CAB_TRES_ALPHA (t : Nat) : Fld := ⟨32 * (0x40120100 + 32 * t) + 16, 16⟩
/-- `CAB_TRES[t].R20`, bits 15:0, RWL COMMIT, reset TAB. -/
def CAB_TRES_R20 (t : Nat) : Fld := ⟨32 * (0x40120100 + 32 * t), 16⟩
/-- `CAB_TGEOM[t].COOLED`, bits 31:31, RWL COMMIT, reset TAB. -/
def CAB_TGEOM_COOLED (t : Nat) : Fld := ⟨32 * (0x40120104 + 32 * t) + 31, 1⟩
/-- `CAB_TGEOM[t].KHS`, bits 29:20, RWL COMMIT, reset TAB. -/
def CAB_TGEOM_KHS (t : Nat) : Fld := ⟨32 * (0x40120104 + 32 * t) + 20, 10⟩
/-- `CAB_TGEOM[t].LEN`, bits 15:0, RWL COMMIT, reset TAB. -/
def CAB_TGEOM_LEN (t : Nat) : Fld := ⟨32 * (0x40120104 + 32 * t), 16⟩
/-- `CAB_TRCK[t].RCK`, bits 31:0, RWL COMMIT, reset TAB. -/
def CAB_TRCK_RCK (t : Nat) : Fld := ⟨32 * (0x40120108 + 32 * t), 32⟩
/-- `CAB_TCAP[t].CK`, bits 31:16, RWL COMMIT, reset TAB. -/
def CAB_TCAP_CK (t : Nat) : Fld := ⟨32 * (0x4012010C + 32 * t) + 16, 16⟩
/-- `CAB_TCAP[t].CC`, bits 15:0, RWL COMMIT, reset TAB. -/
def CAB_TCAP_CC (t : Nat) : Fld := ⟨32 * (0x4012010C + 32 * t), 16⟩
/-- `CAB_TCOOL[t].CVOL`, bits 31:16, RWL COMMIT, reset TAB. -/
def CAB_TCOOL_CVOL (t : Nat) : Fld := ⟨32 * (0x40120110 + 32 * t) + 16, 16⟩
/-- `CAB_TCOOL[t].G0`, bits 15:0, RWL COMMIT, reset TAB. -/
def CAB_TCOOL_G0 (t : Nat) : Fld := ⟨32 * (0x40120110 + 32 * t), 16⟩
/-- `CAB_OCFG[n].TYPE`, bits 31:29, RWL COMMIT, reset TAB. -/
def CAB_OCFG_TYPE (n : Nat) : Fld := ⟨32 * (0x40120400 + 32 * n) + 29, 3⟩
/-- `CAB_OCFG[n].TLIM`, bits 15:8, RW, reset TAB. -/
def CAB_OCFG_TLIM (n : Nat) : Fld := ⟨32 * (0x40120400 + 32 * n) + 8, 8⟩
/-- `CAB_OCFG[n].CLIM`, bits 7:0, RW, reset TAB. -/
def CAB_OCFG_CLIM (n : Nat) : Fld := ⟨32 * (0x40120400 + 32 * n), 8⟩
/-- `CAB_OCFG2[n].BAND`, bits 31:24, RW, reset TAB. -/
def CAB_OCFG2_BAND (n : Nat) : Fld := ⟨32 * (0x40120404 + 32 * n) + 24, 8⟩
/-- `CAB_OCFG2[n].TRIPM`, bits 23:16, RW, reset TAB. -/
def CAB_OCFG2_TRIPM (n : Nat) : Fld := ⟨32 * (0x40120404 + 32 * n) + 16, 8⟩
/-- `CAB_OCFG2[n].HYST`, bits 15:8, RW, reset TAB. -/
def CAB_OCFG2_HYST (n : Nat) : Fld := ⟨32 * (0x40120404 + 32 * n) + 8, 8⟩
/-- `CAB_OCFG2[n].RUNON`, bits 7:0, RW, reset TAB. -/
def CAB_OCFG2_RUNON (n : Nat) : Fld := ⟨32 * (0x40120404 + 32 * n), 8⟩
/-- `CAB_FLOWCFG[n].KFACT`, bits 31:16, RWL COMMIT, reset TAB. -/
def CAB_FLOWCFG_KFACT (n : Nat) : Fld := ⟨32 * (0x40120408 + 32 * n) + 16, 16⟩
/-- `CAB_FLOWCFG[n].GPIO`, bits 15:12, RWL COMMIT, reset TAB. -/
def CAB_FLOWCFG_GPIO (n : Nat) : Fld := ⟨32 * (0x40120408 + 32 * n) + 12, 4⟩
/-- `CAB_FLOWCFG[n].FMIN`, bits 7:4, RW, reset TAB. -/
def CAB_FLOWCFG_FMIN (n : Nat) : Fld := ⟨32 * (0x40120408 + 32 * n) + 4, 4⟩
/-- `CAB_FLOWCFG[n].MINDUTY`, bits 3:0, RW, reset TAB. -/
def CAB_FLOWCFG_MINDUTY (n : Nat) : Fld := ⟨32 * (0x40120408 + 32 * n), 4⟩
/-- `CAB_COOLSP[n].SPLIVE`, bits 31:16, RW, reset TAB. -/
def CAB_COOLSP_SPLIVE (n : Nat) : Fld := ⟨32 * (0x4012040C + 32 * n) + 16, 16⟩
/-- `CAB_COOLSP[n].SPIDLE`, bits 15:0, RW, reset TAB. -/
def CAB_COOLSP_SPIDLE (n : Nat) : Fld := ⟨32 * (0x4012040C + 32 * n), 16⟩
/-- `CAB_HEATCFG[n].SP`, bits 15:0, RW, reset TAB. -/
def CAB_HEATCFG_SP (n : Nat) : Fld := ⟨32 * (0x40120410 + 32 * n), 16⟩
/-- `CAB_CEIL[n].SRC`, bits 31:28, RO, reset 0. -/
def CAB_CEIL_SRC (n : Nat) : Fld := ⟨32 * (0x40120414 + 32 * n) + 28, 4⟩
/-- `CAB_CEIL[n].CEIL`, bits 15:0, RO, reset 0. -/
def CAB_CEIL_CEIL (n : Nat) : Fld := ⟨32 * (0x40120414 + 32 * n), 16⟩
/-- `CAB_TEMP[n].HOTSPOT`, bits 31:16, RO, reset 0. -/
def CAB_TEMP_HOTSPOT (n : Nat) : Fld := ⟨32 * (0x40120418 + 32 * n) + 16, 16⟩
/-- `CAB_TEMP[n].COOLANT`, bits 15:0, RO, reset 0. -/
def CAB_TEMP_COOLANT (n : Nat) : Fld := ⟨32 * (0x40120418 + 32 * n), 16⟩
/-- `CAB_STAT[n].LATCH`, bits 31:31, RO, reset 0. -/
def CAB_STAT_LATCH (n : Nat) : Fld := ⟨32 * (0x4012041C + 32 * n) + 31, 1⟩
/-- `CAB_STAT[n].RUNON`, bits 30:30, RO, reset 0. -/
def CAB_STAT_RUNON (n : Nat) : Fld := ⟨32 * (0x4012041C + 32 * n) + 30, 1⟩
/-- `CAB_STAT[n].FLOWFLT`, bits 29:29, RO, reset 0. -/
def CAB_STAT_FLOWFLT (n : Nat) : Fld := ⟨32 * (0x4012041C + 32 * n) + 29, 1⟩
/-- `CAB_STAT[n].SENSFLT`, bits 28:25, RO, reset 0. -/
def CAB_STAT_SENSFLT (n : Nat) : Fld := ⟨32 * (0x4012041C + 32 * n) + 25, 4⟩
/-- `CAB_STAT[n].FLOW`, bits 15:0, RO, reset 0. -/
def CAB_STAT_FLOW (n : Nat) : Fld := ⟨32 * (0x4012041C + 32 * n), 16⟩
/-- `CAB_RTD[n][k].TEMP`, bits 15:0, RO, reset 0. -/
def CAB_RTD_TEMP (n k : Nat) : Fld := ⟨32 * (0x40120800 + 16 * n + 4 * k), 16⟩
/-- `THM_DIODE.RATE`, bits 31:16, RO, reset 0. -/
def THM_DIODE_RATE : Fld := ⟨32 * (0x40060000) + 16, 16⟩
/-- `THM_DIODE.TEMP`, bits 15:0, RO, reset 0. -/
def THM_DIODE_TEMP : Fld := ⟨32 * (0x40060000), 16⟩
/-- `THM_STATUS.REGIME`, bits 31:30, RO, reset 1. -/
def THM_STATUS_REGIME : Fld := ⟨32 * (0x40060004) + 30, 2⟩
/-- `THM_STATUS.WARN`, bits 29:29, RO, reset 0. -/
def THM_STATUS_WARN : Fld := ⟨32 * (0x40060004) + 29, 1⟩
/-- `THM_STATUS.THROT`, bits 28:28, RO, reset 0. -/
def THM_STATUS_THROT : Fld := ⟨32 * (0x40060004) + 28, 1⟩
/-- `THM_STATUS.DIODEFLT`, bits 27:27, RO, reset 0. -/
def THM_STATUS_DIODEFLT : Fld := ⟨32 * (0x40060004) + 27, 1⟩
/-- `THM_STATUS.FRAC`, bits 10:0, RO, reset 1,024. -/
def THM_STATUS_FRAC : Fld := ⟨32 * (0x40060004), 11⟩
/-- `THM_RATECFG.WARNRATE`, bits 31:24, RW, reset TAB. -/
def THM_RATECFG_WARNRATE : Fld := ⟨32 * (0x40060008) + 24, 8⟩
/-- `THM_RATECFG.WARNTIME`, bits 23:16, RW, reset TAB. -/
def THM_RATECFG_WARNTIME : Fld := ⟨32 * (0x40060008) + 16, 8⟩
/-- `THM_RATECFG.THRRATE`, bits 15:8, RW, reset TAB. -/
def THM_RATECFG_THRRATE : Fld := ⟨32 * (0x40060008) + 8, 8⟩
/-- `THM_RATECFG.KR`, bits 7:0, RW, reset TAB. -/
def THM_RATECFG_KR : Fld := ⟨32 * (0x40060008), 8⟩
/-- `THM_ABSCFG.WARN`, bits 31:24, RW, reset 105. -/
def THM_ABSCFG_WARN : Fld := ⟨32 * (0x4006000C) + 24, 8⟩
/-- `THM_ABSCFG.THROT`, bits 23:16, RW, reset 115. -/
def THM_ABSCFG_THROT : Fld := ⟨32 * (0x4006000C) + 16, 8⟩
/-- `THM_ABSCFG.SHUT`, bits 15:8, RW, reset 125. -/
def THM_ABSCFG_SHUT : Fld := ⟨32 * (0x4006000C) + 8, 8⟩
/-- `THM_ABSCFG.HYST`, bits 7:0, RW, reset 5. -/
def THM_ABSCFG_HYST : Fld := ⟨32 * (0x4006000C), 8⟩
/-- `THM_STRLIM.TRIP`, bits 31:24, RW, reset TAB. -/
def THM_STRLIM_TRIP : Fld := ⟨32 * (0x40060010) + 24, 8⟩
/-- `THM_STRLIM.REL`, bits 23:16, RW, reset TAB. -/
def THM_STRLIM_REL : Fld := ⟨32 * (0x40060010) + 16, 8⟩
/-- `THM_STRLATCH_LO.LATCH`, bits 31:0, RO, reset 0. -/
def THM_STRLATCH_LO_LATCH : Fld := ⟨32 * (0x40060014), 32⟩
/-- `THM_STRLATCH_HI.LATCH`, bits 31:0, RO, reset 0. -/
def THM_STRLATCH_HI_LATCH : Fld := ⟨32 * (0x40060018), 32⟩
/-- `THM_SHUT0.SEC`, bits 31:0, RO, reset MRAM. -/
def THM_SHUT0_SEC : Fld := ⟨32 * (0x40060020), 32⟩
/-- `THM_SHUT1.VALID`, bits 31:31, RO, reset MRAM. -/
def THM_SHUT1_VALID : Fld := ⟨32 * (0x40060024) + 31, 1⟩
/-- `THM_SHUT1.RELEASED`, bits 30:30, RO, reset MRAM. -/
def THM_SHUT1_RELEASED : Fld := ⟨32 * (0x40060024) + 30, 1⟩
/-- `THM_SHUT1.CAUSE`, bits 29:29, RO, reset MRAM. -/
def THM_SHUT1_CAUSE : Fld := ⟨32 * (0x40060024) + 29, 1⟩
/-- `THM_SHUT1.MODE`, bits 28:25, RO, reset MRAM. -/
def THM_SHUT1_MODE : Fld := ⟨32 * (0x40060024) + 25, 4⟩
/-- `THM_SHUT1.TEMP`, bits 15:0, RO, reset MRAM. -/
def THM_SHUT1_TEMP : Fld := ⟨32 * (0x40060024), 16⟩
/-- `THM_SHUT2.DWELL`, bits 21:16, RO, reset 0. -/
def THM_SHUT2_DWELL : Fld := ⟨32 * (0x40060028) + 16, 6⟩
/-- `THM_SHUT2.PEAK`, bits 15:0, RO, reset MRAM. -/
def THM_SHUT2_PEAK : Fld := ⟨32 * (0x40060028), 16⟩
/-- `THM_RTCCOMP.TURN`, bits 31:16, RW, reset TAB. -/
def THM_RTCCOMP_TURN : Fld := ⟨32 * (0x4006002C) + 16, 16⟩
/-- `THM_RTCCOMP.K2`, bits 15:0, RW, reset TAB. -/
def THM_RTCCOMP_K2 : Fld := ⟨32 * (0x4006002C), 16⟩
/-- `THM_EVCAUSE.CAUSE`, bits 7:0, W1C, reset 0. -/
def THM_EVCAUSE_CAUSE : Fld := ⟨32 * (0x40060030), 8⟩

end Sys2Proof.Machine.Reg
end

