-- ==== Sys2Proof/Machine/RegsPlant.lean ====
section
/-! DEFINITION. The fields of the Tally, safety, duplex, fabric, memory, auxiliary and CAN registers: each field of each register heading of the spec's
register maps, at the block base of R47 plus the heading's offset (R8, R47). -/

namespace Sys2Proof.Machine.Reg

/-- `TAL_STATUS.ZCSTATE`, bits 31:30, RO, reset 1. -/
def TAL_STATUS_ZCSTATE : Fld := ⟨32 * (0x40140000) + 30, 2⟩
/-- `TAL_STATUS.AFFORD`, bits 29:29, RO, reset 0. -/
def TAL_STATUS_AFFORD : Fld := ⟨32 * (0x40140000) + 29, 1⟩
/-- `TAL_STATUS.RUN`, bits 28:28, RO, reset 0. -/
def TAL_STATUS_RUN : Fld := ⟨32 * (0x40140000) + 28, 1⟩
/-- `TAL_STATUS.QFREE`, bits 8:0, RO, reset 0. -/
def TAL_STATUS_QFREE : Fld := ⟨32 * (0x40140000), 9⟩
/-- `TAL_CFG.NOMHZ`, bits 24:24, RW, reset TAB. -/
def TAL_CFG_NOMHZ : Fld := ⟨32 * (0x40140004) + 24, 1⟩
/-- `TAL_CFG.JOURNAL`, bits 23:16, RW, reset TAB. -/
def TAL_CFG_JOURNAL : Fld := ⟨32 * (0x40140004) + 16, 8⟩
/-- `TAL_CFG.N`, bits 15:0, RW, reset TAB. -/
def TAL_CFG_N : Fld := ⟨32 * (0x40140004), 16⟩
/-- `TAL_ZCCFG.FEED`, bits 17:16, RW, reset TAB. -/
def TAL_ZCCFG_FEED : Fld := ⟨32 * (0x40140008) + 16, 2⟩
/-- `TAL_ZCCFG.PHASE`, bits 15:14, RW, reset TAB. -/
def TAL_ZCCFG_PHASE : Fld := ⟨32 * (0x40140008) + 14, 2⟩
/-- `TAL_ZCCFG.TMO`, bits 7:0, RW, reset TAB. -/
def TAL_ZCCFG_TMO : Fld := ⟨32 * (0x40140008), 8⟩
/-- `TAL_CMD.LATCH`, bits 0:0, WO, reset 0. -/
def TAL_CMD_LATCH : Fld := ⟨32 * (0x4014000C), 1⟩
/-- `TAL_LATCHNUM.NUM`, bits 31:0, RO, reset MRAM. -/
def TAL_LATCHNUM_NUM : Fld := ⟨32 * (0x40140010), 32⟩
/-- `TAL_REF.A2`, bits 31:16, RO, reset Trim. -/
def TAL_REF_A2 : Fld := ⟨32 * (0x40140014) + 16, 16⟩
/-- `TAL_REF.A1`, bits 15:0, RO, reset Trim. -/
def TAL_REF_A1 : Fld := ⟨32 * (0x40140014), 16⟩
/-- `TAL_REFCORR.CORR`, bits 31:0, RO, reset 0. -/
def TAL_REFCORR_CORR : Fld := ⟨32 * (0x40140018), 32⟩
/-- `TAL_LGCFG.MARGIN`, bits 6:0, RW, reset TAB. -/
def TAL_LGCFG_MARGIN : Fld := ⟨32 * (0x4014001C), 7⟩
/-- `TAL_RECSTAT.SELVALID`, bits 31:31, RO, reset 0. -/
def TAL_RECSTAT_SELVALID : Fld := ⟨32 * (0x40140020) + 31, 1⟩
/-- `TAL_RECSTAT.SKIPPED`, bits 30:16, RO, reset 0. -/
def TAL_RECSTAT_SKIPPED : Fld := ⟨32 * (0x40140020) + 16, 15⟩
/-- `TAL_RECSTAT.COUNT`, bits 8:0, RO, reset MRAM. -/
def TAL_RECSTAT_COUNT : Fld := ⟨32 * (0x40140020), 9⟩
/-- `TAL_RECHEAD.SEQ`, bits 31:0, RO, reset MRAM. -/
def TAL_RECHEAD_SEQ : Fld := ⟨32 * (0x40140024), 32⟩
/-- `TAL_RECSEL.SEQ`, bits 31:0, RW, reset 0. -/
def TAL_RECSEL_SEQ : Fld := ⟨32 * (0x40140028), 32⟩
/-- `TAL_RECACK.SEQ`, bits 31:0, RW, reset 0. -/
def TAL_RECACK_SEQ : Fld := ⟨32 * (0x4014002C), 32⟩
/-- `TAL_CALID.ID`, bits 31:0, RO, reset MRAM. -/
def TAL_CALID_ID : Fld := ⟨32 * (0x40140030), 32⟩
/-- `TAL_EVCAUSE.CAUSE`, bits 7:0, W1C, reset 0. -/
def TAL_EVCAUSE_CAUSE : Fld := ⟨32 * (0x40140034), 8⟩
/-- `TAL_PULSECFG[k].EN`, bits 31:31, RW, reset TAB. -/
def TAL_PULSECFG_EN (k : Nat) : Fld := ⟨32 * (0x40140080 + 4 * k) + 31, 1⟩
/-- `TAL_PULSECFG[k].POL`, bits 30:30, RW, reset TAB. -/
def TAL_PULSECFG_POL (k : Nat) : Fld := ⟨32 * (0x40140080 + 4 * k) + 30, 1⟩
/-- `TAL_PULSECFG[k].DIR`, bits 29:29, RW, reset TAB. -/
def TAL_PULSECFG_DIR (k : Nat) : Fld := ⟨32 * (0x40140080 + 4 * k) + 29, 1⟩
/-- `TAL_PULSECFG[k].SCOPE`, bits 28:24, RW, reset TAB. -/
def TAL_PULSECFG_SCOPE (k : Nat) : Fld := ⟨32 * (0x40140080 + 4 * k) + 24, 5⟩
/-- `TAL_PULSECFG[k].CONST`, bits 16:0, RW, reset TAB. -/
def TAL_PULSECFG_CONST (k : Nat) : Fld := ⟨32 * (0x40140080 + 4 * k), 17⟩
/-- `TAL_RECDATA[w].DATA`, bits 31:0, RO, reset 0. -/
def TAL_RECDATA_DATA (w : Nat) : Fld := ⟨32 * (0x40140100 + 4 * w), 32⟩
/-- `TAL_IMP_LO[c].COUNT`, bits 31:0, RO, reset MRAM. -/
def TAL_IMP_LO_COUNT (c : Nat) : Fld := ⟨32 * (0x40140400 + 64 * c), 32⟩
/-- `TAL_IMP_HI[c].COUNT`, bits 31:0, RO, reset MRAM. -/
def TAL_IMP_HI_COUNT (c : Nat) : Fld := ⟨32 * (0x40140404 + 64 * c), 32⟩
/-- `TAL_EXP_LO[c].COUNT`, bits 31:0, RO, reset MRAM. -/
def TAL_EXP_LO_COUNT (c : Nat) : Fld := ⟨32 * (0x40140408 + 64 * c), 32⟩
/-- `TAL_EXP_HI[c].COUNT`, bits 31:0, RO, reset MRAM. -/
def TAL_EXP_HI_COUNT (c : Nat) : Fld := ⟨32 * (0x4014040C + 64 * c), 32⟩
/-- `TAL_LIMP_LO[c].COUNT`, bits 31:0, RO, reset MRAM. -/
def TAL_LIMP_LO_COUNT (c : Nat) : Fld := ⟨32 * (0x40140410 + 64 * c), 32⟩
/-- `TAL_LIMP_HI[c].COUNT`, bits 31:0, RO, reset MRAM. -/
def TAL_LIMP_HI_COUNT (c : Nat) : Fld := ⟨32 * (0x40140414 + 64 * c), 32⟩
/-- `TAL_LEXP_LO[c].COUNT`, bits 31:0, RO, reset MRAM. -/
def TAL_LEXP_LO_COUNT (c : Nat) : Fld := ⟨32 * (0x40140418 + 64 * c), 32⟩
/-- `TAL_LEXP_HI[c].COUNT`, bits 31:0, RO, reset MRAM. -/
def TAL_LEXP_HI_COUNT (c : Nat) : Fld := ⟨32 * (0x4014041C + 64 * c), 32⟩
/-- `TAL_PWR[c].W`, bits 31:0, RO, reset 0. -/
def TAL_PWR_W (c : Nat) : Fld := ⟨32 * (0x40140420 + 64 * c), 32⟩
/-- `TAL_SCOPECFG[c].LATCHREC`, bits 31:31, RW, reset TAB. -/
def TAL_SCOPECFG_LATCHREC (c : Nat) : Fld := ⟨32 * (0x40140424 + 64 * c) + 31, 1⟩
/-- `TAL_SCOPECFG[c].EN`, bits 30:30, RWL COMMIT, reset TAB. -/
def TAL_SCOPECFG_EN (c : Nat) : Fld := ⟨32 * (0x40140424 + 64 * c) + 30, 1⟩
/-- `TAL_SCOPECFG[c].RATEDKW`, bits 17:0, RWL COMMIT, reset TAB. -/
def TAL_SCOPECFG_RATEDKW (c : Nat) : Fld := ⟨32 * (0x40140424 + 64 * c), 18⟩
/-- `TAL_SCOPESTAT[c].FLAGS`, bits 8:0, RO, reset 0. -/
def TAL_SCOPESTAT_FLAGS (c : Nat) : Fld := ⟨32 * (0x40140428 + 64 * c), 9⟩
/-- `TAL_CHSCALE[ch].SCALE`, bits 31:0, RWL SEAL, reset MRAM. -/
def TAL_CHSCALE_SCALE (ch : Nat) : Fld := ⟨32 * (0x40141000 + 128 * ch), 32⟩
/-- `TAL_CHOFFSET[ch].OFFSET`, bits 23:0, RWL SEAL, reset MRAM. -/
def TAL_CHOFFSET_OFFSET (ch : Nat) : Fld := ⟨32 * (0x40141004 + 128 * ch), 24⟩
/-- `TAL_CHSTAT[ch].SEG`, bits 31:29, RO, reset 0. -/
def TAL_CHSTAT_SEG (ch : Nat) : Fld := ⟨32 * (0x40141008 + 128 * ch) + 29, 3⟩
/-- `TAL_CHSTAT[ch].OVERRANGE`, bits 28:28, W1C, reset 0. -/
def TAL_CHSTAT_OVERRANGE (ch : Nat) : Fld := ⟨32 * (0x40141008 + 128 * ch) + 28, 1⟩
/-- `TAL_SEGBND[ch][j].BND`, bits 31:0, RWL SEAL, reset MRAM. -/
def TAL_SEGBND_BND (ch j : Nat) : Fld := ⟨32 * (0x40141010 + 128 * ch + 4 * j), 32⟩
/-- `TAL_SEGCORR[ch][j].PHASE`, bits 31:16, RWL SEAL, reset MRAM. -/
def TAL_SEGCORR_PHASE (ch j : Nat) : Fld := ⟨32 * (0x40141030 + 128 * ch + 4 * j) + 16, 16⟩
/-- `TAL_SEGCORR[ch][j].GAIN`, bits 15:0, RWL SEAL, reset MRAM. -/
def TAL_SEGCORR_GAIN (ch j : Nat) : Fld := ⟨32 * (0x40141030 + 128 * ch + 4 * j), 16⟩
/-- `SAF_STATUS.SAFEHOLD`, bits 31:31, RO, reset 0. -/
def SAF_STATUS_SAFEHOLD : Fld := ⟨32 * (0x40160000) + 31, 1⟩
/-- `SAF_STATUS.DEVCAUSE`, bits 23:16, RO, reset 0. -/
def SAF_STATUS_DEVCAUSE : Fld := ⟨32 * (0x40160000) + 16, 8⟩
/-- `SAF_STATUS.OUTSAFE`, bits 15:0, RO, reset 0. -/
def SAF_STATUS_OUTSAFE : Fld := ⟨32 * (0x40160000), 16⟩
/-- `SAF_ACK.RESULT`, bits 31:30, RO, reset 0. -/
def SAF_ACK_RESULT : Fld := ⟨32 * (0x40160004) + 30, 2⟩
/-- `SAF_ACK.CODE`, bits 15:0, WO, reset 0. -/
def SAF_ACK_CODE : Fld := ⟨32 * (0x40160004), 16⟩
/-- `SAF_OUTCLR.CODE`, bits 31:16, WO, reset 0. -/
def SAF_OUTCLR_CODE : Fld := ⟨32 * (0x40160008) + 16, 16⟩
/-- `SAF_OUTCLR.MASK`, bits 15:0, WO, reset 0. -/
def SAF_OUTCLR_MASK : Fld := ⟨32 * (0x40160008), 16⟩
/-- `SAF_CFG.F`, bits 5:0, RWL COMMIT, reset TAB. -/
def SAF_CFG_F : Fld := ⟨32 * (0x4016000C), 6⟩
/-- `SAF_TPCFG.PERIOD`, bits 25:16, RWL COMMIT, reset TAB. -/
def SAF_TPCFG_PERIOD : Fld := ⟨32 * (0x40160010) + 16, 10⟩
/-- `SAF_TPCFG.WIDTH`, bits 6:0, RWL COMMIT, reset TAB. -/
def SAF_TPCFG_WIDTH : Fld := ⟨32 * (0x40160010), 7⟩
/-- `SAF_SINSTAT.FAULT`, bits 31:16, RO, reset 0. -/
def SAF_SINSTAT_FAULT : Fld := ⟨32 * (0x40160014) + 16, 16⟩
/-- `SAF_SINSTAT.STATE`, bits 15:0, RO, reset 0. -/
def SAF_SINSTAT_STATE : Fld := ⟨32 * (0x40160014), 16⟩
/-- `SAF_FBSTAT.BITS`, bits 31:0, RO, reset 0. -/
def SAF_FBSTAT_BITS : Fld := ⟨32 * (0x40160018), 32⟩
/-- `SAF_SOUTSTAT.BITS`, bits 31:0, RO, reset 0. -/
def SAF_SOUTSTAT_BITS : Fld := ⟨32 * (0x4016001C), 32⟩
/-- `SAF_SOUTFLT.BITS`, bits 31:0, RO, reset 0. -/
def SAF_SOUTFLT_BITS : Fld := ⟨32 * (0x40160020), 32⟩
/-- `SAF_FBPOL.POL`, bits 31:0, RWL COMMIT, reset TAB. -/
def SAF_FBPOL_POL : Fld := ⟨32 * (0x40160024), 32⟩
/-- `SAF_XCHECK.COUNT`, bits 31:16, RO, reset 0. -/
def SAF_XCHECK_COUNT : Fld := ⟨32 * (0x40160028) + 16, 16⟩
/-- `SAF_XCHECK.LASTPER`, bits 15:0, RO, reset 0. -/
def SAF_XCHECK_LASTPER : Fld := ⟨32 * (0x40160028), 16⟩
/-- `SAF_EVCAUSE.CAUSE`, bits 7:0, W1C, reset 0. -/
def SAF_EVCAUSE_CAUSE : Fld := ⟨32 * (0x4016002C), 8⟩
/-- `SAF_NETCFG.UDPPORT`, bits 15:0, RWL COMMIT, reset TAB. -/
def SAF_NETCFG_UDPPORT : Fld := ⟨32 * (0x40160030), 16⟩
/-- `SAF_SINCFG[i].ROLE`, bits 31:30, RWL COMMIT, reset TAB. -/
def SAF_SINCFG_ROLE (i : Nat) : Fld := ⟨32 * (0x40160040 + 4 * i) + 30, 2⟩
/-- `SAF_SINCFG[i].PAIR`, bits 29:29, RWL COMMIT, reset TAB. -/
def SAF_SINCFG_PAIR (i : Nat) : Fld := ⟨32 * (0x40160040 + 4 * i) + 29, 1⟩
/-- `SAF_SINCFG[i].TP`, bits 28:26, RWL COMMIT, reset TAB. -/
def SAF_SINCFG_TP (i : Nat) : Fld := ⟨32 * (0x40160040 + 4 * i) + 26, 3⟩
/-- `SAF_SINCFG[i].DISC`, bits 25:16, RWL COMMIT, reset TAB. -/
def SAF_SINCFG_DISC (i : Nat) : Fld := ⟨32 * (0x40160040 + 4 * i) + 16, 10⟩
/-- `SAF_SINCFG[i].OUTMASK`, bits 15:0, RWL COMMIT, reset TAB. -/
def SAF_SINCFG_OUTMASK (i : Nat) : Fld := ⟨32 * (0x40160040 + 4 * i), 16⟩
/-- `SAF_OCFG[n].OVM`, bits 31:24, RWL COMMIT, reset TAB. -/
def SAF_OCFG_OVM (n : Nat) : Fld := ⟨32 * (0x40160100 + 16 * n) + 24, 8⟩
/-- `SAF_OCFG[n].OCM`, bits 23:16, RWL COMMIT, reset TAB. -/
def SAF_OCFG_OCM (n : Nat) : Fld := ⟨32 * (0x40160100 + 16 * n) + 16, 8⟩
/-- `SAF_OCFG[n].VFILT`, bits 15:8, RWL COMMIT, reset TAB. -/
def SAF_OCFG_VFILT (n : Nat) : Fld := ⟨32 * (0x40160100 + 16 * n) + 8, 8⟩
/-- `SAF_OCFG[n].CPFILT`, bits 7:0, RWL COMMIT, reset TAB. -/
def SAF_OCFG_CPFILT (n : Nat) : Fld := ⟨32 * (0x40160100 + 16 * n), 8⟩
/-- `SAF_OTEMP[n].TCONT`, bits 31:24, RWL COMMIT, reset TAB. -/
def SAF_OTEMP_TCONT (n : Nat) : Fld := ⟨32 * (0x40160104 + 16 * n) + 24, 8⟩
/-- `SAF_OTEMP[n].TCOOL`, bits 23:16, RWL COMMIT, reset TAB. -/
def SAF_OTEMP_TCOOL (n : Nat) : Fld := ⟨32 * (0x40160104 + 16 * n) + 16, 8⟩
/-- `SAF_OLIM[n].VLIM`, bits 31:16, RO, reset 0. -/
def SAF_OLIM_VLIM (n : Nat) : Fld := ⟨32 * (0x40160108 + 16 * n) + 16, 16⟩
/-- `SAF_OLIM[n].ILIM`, bits 15:0, RO, reset 0. -/
def SAF_OLIM_ILIM (n : Nat) : Fld := ⟨32 * (0x40160108 + 16 * n), 16⟩
/-- `SAF_OSTAT[n].ACT`, bits 31:24, RO, reset 0. -/
def SAF_OSTAT_ACT (n : Nat) : Fld := ⟨32 * (0x4016010C + 16 * n) + 24, 8⟩
/-- `SAF_OSTAT[n].LATCH`, bits 23:16, RO, reset 0. -/
def SAF_OSTAT_LATCH (n : Nat) : Fld := ⟨32 * (0x4016010C + 16 * n) + 16, 8⟩
/-- `SAF_OSTAT[n].LOCKINH`, bits 15:15, RO, reset 0. -/
def SAF_OSTAT_LOCKINH (n : Nat) : Fld := ⟨32 * (0x4016010C + 16 * n) + 15, 1⟩
/-- `SAF_OSTAT[n].DIAG`, bits 14:14, RO, reset 0. -/
def SAF_OSTAT_DIAG (n : Nat) : Fld := ⟨32 * (0x4016010C + 16 * n) + 14, 1⟩
/-- `SAF_OSTAT[n].NOCLOSE`, bits 13:13, W1C, reset 0. -/
def SAF_OSTAT_NOCLOSE (n : Nat) : Fld := ⟨32 * (0x4016010C + 16 * n) + 13, 1⟩
/-- `SAF_OSTAT[n].XCHK`, bits 12:12, RO, reset 0. -/
def SAF_OSTAT_XCHK (n : Nat) : Fld := ⟨32 * (0x4016010C + 16 * n) + 12, 1⟩
/-- `SAF_CONNCFG[k].MODE`, bits 31:30, RWL COMMIT, reset TAB. -/
def SAF_CONNCFG_MODE (k : Nat) : Fld := ⟨32 * (0x40160400 + 16 * k) + 30, 2⟩
/-- `SAF_CONNCFG[k].DIR`, bits 29:29, RWL COMMIT, reset TAB. -/
def SAF_CONNCFG_DIR (k : Nat) : Fld := ⟨32 * (0x40160400 + 16 * k) + 29, 1⟩
/-- `SAF_CONNCFG[k].CARA`, bits 27:25, RWL COMMIT, reset TAB. -/
def SAF_CONNCFG_CARA (k : Nat) : Fld := ⟨32 * (0x40160400 + 16 * k) + 25, 3⟩
/-- `SAF_CONNCFG[k].CARB`, bits 24:22, RWL COMMIT, reset TAB. -/
def SAF_CONNCFG_CARB (k : Nat) : Fld := ⟨32 * (0x40160400 + 16 * k) + 22, 3⟩
/-- `SAF_CONNCFG[k].CYCLE`, bits 7:0, RWL COMMIT, reset TAB. -/
def SAF_CONNCFG_CYCLE (k : Nat) : Fld := ⟨32 * (0x40160400 + 16 * k), 8⟩
/-- `SAF_CONNID[k].ID`, bits 31:0, RWL COMMIT, reset TAB. -/
def SAF_CONNID_ID (k : Nat) : Fld := ⟨32 * (0x40160404 + 16 * k), 32⟩
/-- `SAF_CONNTIM[k].WD`, bits 31:16, RWL COMMIT, reset TAB. -/
def SAF_CONNTIM_WD (k : Nat) : Fld := ⟨32 * (0x40160408 + 16 * k) + 16, 16⟩
/-- `SAF_CONNTIM[k].SKEW`, bits 15:0, RWL COMMIT, reset TAB. -/
def SAF_CONNTIM_SKEW (k : Nat) : Fld := ⟨32 * (0x40160408 + 16 * k), 16⟩
/-- `SAF_CONNSTAT[k].STATE`, bits 31:30, RO, reset 0. -/
def SAF_CONNSTAT_STATE (k : Nat) : Fld := ⟨32 * (0x4016040C + 16 * k) + 30, 2⟩
/-- `SAF_CONNSTAT[k].FMTERR`, bits 23:16, RO, reset 0. -/
def SAF_CONNSTAT_FMTERR (k : Nat) : Fld := ⟨32 * (0x4016040C + 16 * k) + 16, 8⟩
/-- `SAF_CONNSTAT[k].SEQERR`, bits 15:8, RO, reset 0. -/
def SAF_CONNSTAT_SEQERR (k : Nat) : Fld := ⟨32 * (0x4016040C + 16 * k) + 8, 8⟩
/-- `SAF_CONNSTAT[k].DUALERR`, bits 7:0, RO, reset 0. -/
def SAF_CONNSTAT_DUALERR (k : Nat) : Fld := ⟨32 * (0x4016040C + 16 * k), 8⟩
/-- `DUP_CFG.EN`, bits 31:31, RWL COMMIT, reset TAB. -/
def DUP_CFG_EN : Fld := ⟨32 * (0x40180000) + 31, 1⟩
/-- `DUP_CFG.TWINPORT`, bits 30:28, RWL COMMIT, reset TAB. -/
def DUP_CFG_TWINPORT : Fld := ⟨32 * (0x40180000) + 28, 3⟩
/-- `DUP_CFG.NMIS`, bits 27:24, RW, reset TAB. -/
def DUP_CFG_NMIS : Fld := ⟨32 * (0x40180000) + 24, 4⟩
/-- `DUP_CFG.HEALTHMIN`, bits 23:16, RW, reset TAB. -/
def DUP_CFG_HEALTHMIN : Fld := ⟨32 * (0x40180000) + 16, 8⟩
/-- `DUP_STATUS.ROLE`, bits 31:30, RO, reset 0. -/
def DUP_STATUS_ROLE : Fld := ⟨32 * (0x40180004) + 30, 2⟩
/-- `DUP_STATUS.SYNCED`, bits 29:29, RO, reset 0. -/
def DUP_STATUS_SYNCED : Fld := ⟨32 * (0x40180004) + 29, 1⟩
/-- `DUP_STATUS.ELIGIBLE`, bits 28:28, RO, reset 0. -/
def DUP_STATUS_ELIGIBLE : Fld := ⟨32 * (0x40180004) + 28, 1⟩
/-- `DUP_STATUS.PARTNER`, bits 27:27, RO, reset 0. -/
def DUP_STATUS_PARTNER : Fld := ⟨32 * (0x40180004) + 27, 1⟩
/-- `DUP_STATUS.REDUCED`, bits 26:26, RO, reset 0. -/
def DUP_STATUS_REDUCED : Fld := ⟨32 * (0x40180004) + 26, 1⟩
/-- `DUP_STATUS.LANES`, bits 25:24, RO, reset 0. -/
def DUP_STATUS_LANES : Fld := ⟨32 * (0x40180004) + 24, 2⟩
/-- `DUP_STATUS.HEALTH`, bits 23:16, RO, reset 0. -/
def DUP_STATUS_HEALTH : Fld := ⟨32 * (0x40180004) + 16, 8⟩
/-- `DUP_STATUS.PARTHEALTH`, bits 15:8, RO, reset 0. -/
def DUP_STATUS_PARTHEALTH : Fld := ⟨32 * (0x40180004) + 8, 8⟩
/-- `DUP_LEASE.VALID`, bits 31:31, RO, reset 0. -/
def DUP_LEASE_VALID : Fld := ⟨32 * (0x40180008) + 31, 1⟩
/-- `DUP_LEASE.PIN`, bits 30:30, RO, reset 0. -/
def DUP_LEASE_PIN : Fld := ⟨32 * (0x40180008) + 30, 1⟩
/-- `DUP_LEASE.TWIN`, bits 29:29, RO, reset 0. -/
def DUP_LEASE_TWIN : Fld := ⟨32 * (0x40180008) + 29, 1⟩
/-- `DUP_LEASE.AGE`, bits 15:0, RO, reset 0. -/
def DUP_LEASE_AGE : Fld := ⟨32 * (0x40180008), 16⟩
/-- `DUP_PARTNER_LO.UID`, bits 31:0, RO, reset 0. -/
def DUP_PARTNER_LO_UID : Fld := ⟨32 * (0x4018000C), 32⟩
/-- `DUP_PARTNER_HI.UID`, bits 31:0, RO, reset 0. -/
def DUP_PARTNER_HI_UID : Fld := ⟨32 * (0x40180010), 32⟩
/-- `DUP_CMPCNT.MISMATCH`, bits 31:16, RO, reset 0. -/
def DUP_CMPCNT_MISMATCH : Fld := ⟨32 * (0x40180014) + 16, 16⟩
/-- `DUP_CMPCNT.UNCOMP`, bits 15:0, RO, reset 0. -/
def DUP_CMPCNT_UNCOMP : Fld := ⟨32 * (0x40180014), 16⟩
/-- `DUP_DISPUTE.RESULT`, bits 31:28, RO, reset 0. -/
def DUP_DISPUTE_RESULT : Fld := ⟨32 * (0x40180018) + 28, 4⟩
/-- `DUP_DISPUTE.COUNT`, bits 27:16, RO, reset 0. -/
def DUP_DISPUTE_COUNT : Fld := ⟨32 * (0x40180018) + 16, 12⟩
/-- `DUP_DISPUTE.PERIOD`, bits 15:0, RO, reset 0. -/
def DUP_DISPUTE_PERIOD : Fld := ⟨32 * (0x40180018), 16⟩
/-- `DUP_SWITCH.COUNT`, bits 31:16, RO, reset 0. -/
def DUP_SWITCH_COUNT : Fld := ⟨32 * (0x4018001C) + 16, 16⟩
/-- `DUP_SWITCH.GAP`, bits 15:0, RO, reset 0. -/
def DUP_SWITCH_GAP : Fld := ⟨32 * (0x4018001C), 16⟩
/-- `DUP_HEALTHDET.FAIL`, bits 6:0, RO, reset 0. -/
def DUP_HEALTHDET_FAIL : Fld := ⟨32 * (0x40180020), 7⟩
/-- `DUP_PLAUS.CLASS`, bits 7:0, W1C, reset 0. -/
def DUP_PLAUS_CLASS : Fld := ⟨32 * (0x40180024), 8⟩
/-- `DUP_CMD.TAKE`, bits 2:2, WO, reset 0. -/
def DUP_CMD_TAKE : Fld := ⟨32 * (0x40180028) + 2, 1⟩
/-- `DUP_CMD.SURRENDER`, bits 1:1, WO, reset 0. -/
def DUP_CMD_SURRENDER : Fld := ⟨32 * (0x40180028) + 1, 1⟩
/-- `DUP_CMD.REJOIN`, bits 0:0, WO, reset 0. -/
def DUP_CMD_REJOIN : Fld := ⟨32 * (0x40180028), 1⟩
/-- `DUP_AUXSHARE_LO.SHARE`, bits 31:0, RWL COMMIT, reset TAB. -/
def DUP_AUXSHARE_LO_SHARE : Fld := ⟨32 * (0x4018002C), 32⟩
/-- `DUP_AUXSHARE_HI.SHARE`, bits 15:0, RWL COMMIT, reset TAB. -/
def DUP_AUXSHARE_HI_SHARE : Fld := ⟨32 * (0x40180030), 16⟩
/-- `DUP_EVCAUSE.CAUSE`, bits 4:0, W1C, reset 0. -/
def DUP_EVCAUSE_CAUSE : Fld := ⟨32 * (0x40180034), 5⟩
/-- `FAB_CFG.SEATEN`, bits 31:31, RWL COMMIT, reset TAB. -/
def FAB_CFG_SEATEN : Fld := ⟨32 * (0x40190000) + 31, 1⟩
/-- `FAB_CFG.SEAT`, bits 30:26, RWL COMMIT, reset TAB. -/
def FAB_CFG_SEAT : Fld := ⟨32 * (0x40190000) + 26, 5⟩
/-- `FAB_CFG.STATION`, bits 25:21, RWL COMMIT, reset TAB. -/
def FAB_CFG_STATION : Fld := ⟨32 * (0x40190000) + 21, 5⟩
/-- `FAB_CFG.ENC`, bits 17:12, RWL COMMIT, reset TAB. -/
def FAB_CFG_ENC : Fld := ⟨32 * (0x40190000) + 12, 6⟩
/-- `FAB_CFG.PORTEN`, bits 5:0, RWL COMMIT, reset TAB. -/
def FAB_CFG_PORTEN : Fld := ⟨32 * (0x40190000), 6⟩
/-- `FAB_SITECFG.STATIONS`, bits 5:0, RWL COMMIT, reset TAB. -/
def FAB_SITECFG_STATIONS : Fld := ⟨32 * (0x40190004), 6⟩
/-- `FAB_ID.LEVEL`, bits 31:24, RO, reset 1. -/
def FAB_ID_LEVEL : Fld := ⟨32 * (0x40190008) + 24, 8⟩
/-- `FAB_ID.FW`, bits 23:0, RO, reset 0. -/
def FAB_ID_FW : Fld := ⟨32 * (0x40190008), 24⟩
/-- `FAB_STATUS.MEMBER`, bits 31:31, RO, reset 0. -/
def FAB_STATUS_MEMBER : Fld := ⟨32 * (0x4019000C) + 31, 1⟩
/-- `FAB_STATUS.GUEST`, bits 30:30, RO, reset 0. -/
def FAB_STATUS_GUEST : Fld := ⟨32 * (0x4019000C) + 30, 1⟩
/-- `FAB_STATUS.ISLAND`, bits 29:29, RO, reset 0. -/
def FAB_STATUS_ISLAND : Fld := ⟨32 * (0x4019000C) + 29, 1⟩
/-- `FAB_STATUS.ADDR`, bits 28:24, RO, reset 0. -/
def FAB_STATUS_ADDR : Fld := ⟨32 * (0x4019000C) + 24, 5⟩
/-- `FAB_STATUS.ADDRSRC`, bits 23:22, RO, reset 0. -/
def FAB_STATUS_ADDRSRC : Fld := ⟨32 * (0x4019000C) + 22, 2⟩
/-- `FAB_STATUS.TIMESTATE`, bits 21:20, RO, reset 0. -/
def FAB_STATUS_TIMESTATE : Fld := ⟨32 * (0x4019000C) + 20, 2⟩
/-- `FAB_STATUS.TIMESRC`, bits 19:15, RO, reset 0. -/
def FAB_STATUS_TIMESRC : Fld := ⟨32 * (0x4019000C) + 15, 5⟩
/-- `FAB_STATUS.HOPS`, bits 14:10, RO, reset 0. -/
def FAB_STATUS_HOPS : Fld := ⟨32 * (0x4019000C) + 10, 5⟩
/-- `FAB_MEMBERS.BITS`, bits 31:0, RO, reset 0. -/
def FAB_MEMBERS_BITS : Fld := ⟨32 * (0x40190010), 32⟩
/-- `FAB_GUESTS.BITS`, bits 31:0, RO, reset 0. -/
def FAB_GUESTS_BITS : Fld := ⟨32 * (0x40190014), 32⟩
/-- `FAB_REFUSED.BITS`, bits 31:0, RO, reset 0. -/
def FAB_REFUSED_BITS : Fld := ⟨32 * (0x40190018), 32⟩
/-- `FAB_TIMEERR.NS`, bits 31:0, RO, reset 0. -/
def FAB_TIMEERR_NS : Fld := ⟨32 * (0x4019001C), 32⟩
/-- `FAB_ISLAND.CAUSE`, bits 3:0, RO, reset 0. -/
def FAB_ISLAND_CAUSE : Fld := ⟨32 * (0x40190020), 4⟩
/-- `FAB_SETDIG.MISMATCH`, bits 31:16, RO, reset 0. -/
def FAB_SETDIG_MISMATCH : Fld := ⟨32 * (0x40190024) + 16, 16⟩
/-- `FAB_SETDIG.LATE`, bits 15:0, RO, reset 0. -/
def FAB_SETDIG_LATE : Fld := ⟨32 * (0x40190024), 16⟩
/-- `FAB_CERTCMD.OP`, bits 31:30, WO, reset 0. -/
def FAB_CERTCMD_OP : Fld := ⟨32 * (0x40190028) + 30, 2⟩
/-- `FAB_CERTCMD.LEN`, bits 12:0, WO, reset 0. -/
def FAB_CERTCMD_LEN : Fld := ⟨32 * (0x40190028), 13⟩
/-- `FAB_CERTSTAT.STATE`, bits 31:28, RO, reset 0. -/
def FAB_CERTSTAT_STATE : Fld := ⟨32 * (0x4019002C) + 28, 4⟩
/-- `FAB_EVCAUSE.CAUSE`, bits 2:0, W1C, reset 0. -/
def FAB_EVCAUSE_CAUSE : Fld := ⟨32 * (0x40190030), 3⟩
/-- `FAB_DIGEST[w].DATA`, bits 31:0, RO, reset TAB. -/
def FAB_DIGEST_DATA (w : Nat) : Fld := ⟨32 * (0x40190040 + 4 * w), 32⟩
/-- `FAB_PORT[p].STATE`, bits 31:29, RO, reset 0. -/
def FAB_PORT_STATE (p : Nat) : Fld := ⟨32 * (0x40190080 + 4 * p) + 29, 3⟩
/-- `FAB_PORT[p].LANES`, bits 28:27, RO, reset 0. -/
def FAB_PORT_LANES (p : Nat) : Fld := ⟨32 * (0x40190080 + 4 * p) + 27, 2⟩
/-- `FAB_PORT[p].ENC`, bits 26:26, RO, reset 0. -/
def FAB_PORT_ENC (p : Nat) : Fld := ⟨32 * (0x40190080 + 4 * p) + 26, 1⟩
/-- `FAB_PORT[p].PEER`, bits 25:21, RO, reset 0. -/
def FAB_PORT_PEER (p : Nat) : Fld := ⟨32 * (0x40190080 + 4 * p) + 21, 5⟩
/-- `FAB_PORT[p].ERR`, bits 15:0, RO, reset 0. -/
def FAB_PORT_ERR (p : Nat) : Fld := ⟨32 * (0x40190080 + 4 * p), 16⟩
/-- `FAB_ROUTE[a].REACH`, bits 31:31, RO, reset 0. -/
def FAB_ROUTE_REACH (a : Nat) : Fld := ⟨32 * (0x40190100 + 4 * a) + 31, 1⟩
/-- `FAB_ROUTE[a].PORT`, bits 30:28, RO, reset 0. -/
def FAB_ROUTE_PORT (a : Nat) : Fld := ⟨32 * (0x40190100 + 4 * a) + 28, 3⟩
/-- `FAB_ROUTE[a].HOPS`, bits 27:23, RO, reset 0. -/
def FAB_ROUTE_HOPS (a : Nat) : Fld := ⟨32 * (0x40190100 + 4 * a) + 23, 5⟩
/-- `MEM_STATUS.SPARES`, bits 31:30, RO, reset 0. -/
def MEM_STATUS_SPARES : Fld := ⟨32 * (0x40040000) + 30, 2⟩
/-- `MEM_STATUS.SBSPARE`, bits 29:29, RO, reset 0. -/
def MEM_STATUS_SBSPARE : Fld := ⟨32 * (0x40040000) + 29, 1⟩
/-- `MEM_STATUS.GENERAL`, bits 22:16, RO, reset 0. -/
def MEM_STATUS_GENERAL : Fld := ⟨32 * (0x40040000) + 16, 7⟩
/-- `MEM_RETIRE.GO`, bits 6:6, WO, reset 0. -/
def MEM_RETIRE_GO : Fld := ⟨32 * (0x40040004) + 6, 1⟩
/-- `MEM_RETIRE.BANK`, bits 5:0, WO, reset 0. -/
def MEM_RETIRE_BANK : Fld := ⟨32 * (0x40040004), 6⟩
/-- `MEM_RETSTAT.STATE`, bits 31:29, RO, reset 0. -/
def MEM_RETSTAT_STATE : Fld := ⟨32 * (0x40040008) + 29, 3⟩
/-- `MEM_RETSTAT.CAUSE`, bits 28:26, RO, reset 0. -/
def MEM_RETSTAT_CAUSE : Fld := ⟨32 * (0x40040008) + 26, 3⟩
/-- `MEM_RETSTAT.BANK`, bits 25:20, RO, reset 0. -/
def MEM_RETSTAT_BANK : Fld := ⟨32 * (0x40040008) + 20, 6⟩
/-- `MEM_RETSTAT.SPARE`, bits 19:14, RO, reset 0. -/
def MEM_RETSTAT_SPARE : Fld := ⟨32 * (0x40040008) + 14, 6⟩
/-- `MEM_RETSTAT.PROGRESS`, bits 7:0, RO, reset 0. -/
def MEM_RETSTAT_PROGRESS : Fld := ⟨32 * (0x40040008), 8⟩
/-- `MEM_HOSTWIN.BANK`, bits 5:0, RO, reset 0. -/
def MEM_HOSTWIN_BANK : Fld := ⟨32 * (0x4004000C), 6⟩
/-- `MEM_RETIRED_LO.RETIRED`, bits 31:0, RO, reset MRAM. -/
def MEM_RETIRED_LO_RETIRED : Fld := ⟨32 * (0x40040010), 32⟩
/-- `MEM_RETIRED_HI.RETIRED`, bits 31:0, RO, reset MRAM. -/
def MEM_RETIRED_HI_RETIRED : Fld := ⟨32 * (0x40040014), 32⟩
/-- `MEM_PORTERCFG.LAPMAX`, bits 11:0, RW, reset TAB. -/
def MEM_PORTERCFG_LAPMAX : Fld := ⟨32 * (0x40040018), 12⟩
/-- `MEM_PORTER.LAST`, bits 31:16, RO, reset 0. -/
def MEM_PORTER_LAST : Fld := ⟨32 * (0x4004001C) + 16, 16⟩
/-- `MEM_PORTER.LAPS`, bits 15:0, RO, reset 0. -/
def MEM_PORTER_LAPS : Fld := ⟨32 * (0x4004001C), 16⟩
/-- `MEM_LOGHEAD.TOTAL`, bits 31:0, RO, reset MRAM. -/
def MEM_LOGHEAD_TOTAL : Fld := ⟨32 * (0x40040020), 32⟩
/-- `MEM_LOGSEL.INDEX`, bits 5:0, RW, reset 0. -/
def MEM_LOGSEL_INDEX : Fld := ⟨32 * (0x40040024), 6⟩
/-- `MEM_LOGDATA[w].DATA`, bits 31:0, RO, reset 0. -/
def MEM_LOGDATA_DATA (w : Nat) : Fld := ⟨32 * (0x40040028 + 4 * w), 32⟩
/-- `MEM_CECFG.CETHR`, bits 7:0, RW, reset TAB. -/
def MEM_CECFG_CETHR : Fld := ⟨32 * (0x40040038), 8⟩
/-- `MEM_DMAHALT.HALT`, bits 31:0, RO, reset 0. -/
def MEM_DMAHALT_HALT : Fld := ⟨32 * (0x4004003C), 32⟩
/-- `MEM_DMAERR.CHAN`, bits 31:27, RO, reset 0. -/
def MEM_DMAERR_CHAN : Fld := ⟨32 * (0x40040040) + 27, 5⟩
/-- `MEM_DMAERR.BANK`, bits 26:21, RO, reset 0. -/
def MEM_DMAERR_BANK : Fld := ⟨32 * (0x40040040) + 21, 6⟩
/-- `MEM_DMAERR.WORD`, bits 15:0, RO, reset 0. -/
def MEM_DMAERR_WORD : Fld := ⟨32 * (0x40040040), 16⟩
/-- `MEM_TAMPCFG.POL`, bits 7:4, RWL COMMIT, reset TAB. -/
def MEM_TAMPCFG_POL : Fld := ⟨32 * (0x40040044) + 4, 4⟩
/-- `MEM_TAMPCFG.EN`, bits 3:0, RWL COMMIT, reset TAB. -/
def MEM_TAMPCFG_EN : Fld := ⟨32 * (0x40040044), 4⟩
/-- `MEM_TAMPSTAT.WIPES`, bits 31:16, RO, reset MRAM. -/
def MEM_TAMPSTAT_WIPES : Fld := ⟨32 * (0x40040048) + 16, 16⟩
/-- `MEM_TAMPSTAT.PENDING`, bits 12:12, RO, reset MRAM. -/
def MEM_TAMPSTAT_PENDING : Fld := ⟨32 * (0x40040048) + 12, 1⟩
/-- `MEM_TAMPSTAT.LEVEL`, bits 11:8, RO, reset 0. -/
def MEM_TAMPSTAT_LEVEL : Fld := ⟨32 * (0x40040048) + 8, 4⟩
/-- `MEM_TAMPSTAT.SHIELD`, bits 4:4, W1C, reset 0. -/
def MEM_TAMPSTAT_SHIELD : Fld := ⟨32 * (0x40040048) + 4, 1⟩
/-- `MEM_TAMPSTAT.LATCH`, bits 3:0, W1C, reset 0. -/
def MEM_TAMPSTAT_LATCH : Fld := ⟨32 * (0x40040048), 4⟩
/-- `MEM_SELFTEST.CHECKER`, bits 31:31, RO, reset 0. -/
def MEM_SELFTEST_CHECKER : Fld := ⟨32 * (0x4004004C) + 31, 1⟩
/-- `MEM_SELFTEST.EXT`, bits 30:30, RO, reset 0. -/
def MEM_SELFTEST_EXT : Fld := ⟨32 * (0x4004004C) + 30, 1⟩
/-- `MEM_SELFTEST.FAILED`, bits 29:24, RO, reset 0. -/
def MEM_SELFTEST_FAILED : Fld := ⟨32 * (0x4004004C) + 24, 6⟩
/-- `MEM_SELFFAIL_LO.FAIL`, bits 31:0, RO, reset 0. -/
def MEM_SELFFAIL_LO_FAIL : Fld := ⟨32 * (0x40040050), 32⟩
/-- `MEM_SELFFAIL_HI.FAIL`, bits 31:0, RO, reset 0. -/
def MEM_SELFFAIL_HI_FAIL : Fld := ⟨32 * (0x40040054), 32⟩
/-- `MEM_MRAMSTAT.CORR`, bits 31:16, RO, reset 0. -/
def MEM_MRAMSTAT_CORR : Fld := ⟨32 * (0x40040058) + 16, 16⟩
/-- `MEM_MRAMSTAT.COPYLOST`, bits 15:8, RO, reset 0. -/
def MEM_MRAMSTAT_COPYLOST : Fld := ⟨32 * (0x40040058) + 8, 8⟩
/-- `MEM_MRAMSTAT.LOST`, bits 7:0, RO, reset MRAM. -/
def MEM_MRAMSTAT_LOST : Fld := ⟨32 * (0x40040058), 8⟩
/-- `MEM_ATOMADDR.OFFSET`, bits 17:2, RW, reset 0. -/
def MEM_ATOMADDR_OFFSET : Fld := ⟨32 * (0x4004005C) + 2, 16⟩
/-- `MEM_ATOMSET.MASK`, bits 31:0, WO, reset 0. -/
def MEM_ATOMSET_MASK : Fld := ⟨32 * (0x40040060), 32⟩
/-- `MEM_ATOMCLR.MASK`, bits 31:0, WO, reset 0. -/
def MEM_ATOMCLR_MASK : Fld := ⟨32 * (0x40040064), 32⟩
/-- `MEM_ATOMOLD.MASK`, bits 31:0, RO, reset 0. -/
def MEM_ATOMOLD_MASK : Fld := ⟨32 * (0x40040068), 32⟩
/-- `MEM_EVCAUSE.CAUSE`, bits 15:0, W1C, reset 0. -/
def MEM_EVCAUSE_CAUSE : Fld := ⟨32 * (0x4004006C), 16⟩
/-- `MEM_BANKOWN[n].PWR`, bits 31:30, RO, reset 2. -/
def MEM_BANKOWN_PWR (n : Nat) : Fld := ⟨32 * (0x40040100 + 4 * n) + 30, 2⟩
/-- `MEM_BANKOWN[n].ROLE`, bits 29:27, RO, reset MRAM. -/
def MEM_BANKOWN_ROLE (n : Nat) : Fld := ⟨32 * (0x40040100 + 4 * n) + 27, 3⟩
/-- `MEM_BANKOWN[n].LOGICAL`, bits 26:21, RO, reset MRAM. -/
def MEM_BANKOWN_LOGICAL (n : Nat) : Fld := ⟨32 * (0x40040100 + 4 * n) + 21, 6⟩
/-- `MEM_BANKOWN[n].OWNER`, bits 4:0, RO, reset 0. -/
def MEM_BANKOWN_OWNER (n : Nat) : Fld := ⟨32 * (0x40040100 + 4 * n), 5⟩
/-- `MEM_BANKERR[n].CEHOUR`, bits 31:24, RO, reset 0. -/
def MEM_BANKERR_CEHOUR (n : Nat) : Fld := ⟨32 * (0x40040200 + 4 * n) + 24, 8⟩
/-- `MEM_BANKERR[n].UE`, bits 23:16, RO, reset 0. -/
def MEM_BANKERR_UE (n : Nat) : Fld := ⟨32 * (0x40040200 + 4 * n) + 16, 8⟩
/-- `MEM_BANKERR[n].SYND`, bits 15:8, RO, reset 0. -/
def MEM_BANKERR_SYND (n : Nat) : Fld := ⟨32 * (0x40040200 + 4 * n) + 8, 8⟩
/-- `AUX_CFG.VNOM`, bits 8:0, RW, reset TAB. -/
def AUX_CFG_VNOM : Fld := ⟨32 * (0x401A0000), 9⟩
/-- `AUX_TOTAL.PEAK`, bits 31:16, RO, reset 0. -/
def AUX_TOTAL_PEAK : Fld := ⟨32 * (0x401A0004) + 16, 16⟩
/-- `AUX_TOTAL.NOW`, bits 15:0, RO, reset 0. -/
def AUX_TOTAL_NOW : Fld := ⟨32 * (0x401A0004), 16⟩
/-- `AUX_FLT_LO.BITS`, bits 31:0, W1C, reset 0. -/
def AUX_FLT_LO_BITS : Fld := ⟨32 * (0x401A0008), 32⟩
/-- `AUX_FLT_HI.BITS`, bits 15:0, W1C, reset 0. -/
def AUX_FLT_HI_BITS : Fld := ⟨32 * (0x401A000C), 16⟩
/-- `AUX_ON_LO.BITS`, bits 31:0, RO, reset 0. -/
def AUX_ON_LO_BITS : Fld := ⟨32 * (0x401A0010), 32⟩
/-- `AUX_ON_HI.BITS`, bits 15:0, RO, reset 0. -/
def AUX_ON_HI_BITS : Fld := ⟨32 * (0x401A0014), 16⟩
/-- `AUX_CHCFG[i].MODE`, bits 31:30, RW, reset TAB. -/
def AUX_CHCFG_MODE (i : Nat) : Fld := ⟨32 * (0x401A0100 + 4 * i) + 30, 2⟩
/-- `AUX_CHCFG[i].USER`, bits 29:27, RO, reset 0. -/
def AUX_CHCFG_USER (i : Nat) : Fld := ⟨32 * (0x401A0100 + 4 * i) + 27, 3⟩
/-- `AUX_CHCFG[i].ILIMT`, bits 26:22, RW, reset TAB. -/
def AUX_CHCFG_ILIMT (i : Nat) : Fld := ⟨32 * (0x401A0100 + 4 * i) + 22, 5⟩
/-- `AUX_CHCFG[i].FREQ`, bits 14:0, RW, reset TAB. -/
def AUX_CHCFG_FREQ (i : Nat) : Fld := ⟨32 * (0x401A0100 + 4 * i), 15⟩
/-- `AUX_CHOUT[i].FAULT`, bits 31:30, RO, reset 0. -/
def AUX_CHOUT_FAULT (i : Nat) : Fld := ⟨32 * (0x401A0200 + 4 * i) + 30, 2⟩
/-- `AUX_CHOUT[i].CURRENT`, bits 25:14, RO, reset 0. -/
def AUX_CHOUT_CURRENT (i : Nat) : Fld := ⟨32 * (0x401A0200 + 4 * i) + 14, 12⟩
/-- `AUX_CHOUT[i].DUTY`, bits 13:0, RW, reset 0. -/
def AUX_CHOUT_DUTY (i : Nat) : Fld := ⟨32 * (0x401A0200 + 4 * i), 14⟩
/-- `AUX_GPIOCFG[g].USE`, bits 31:30, RO, reset 0. -/
def AUX_GPIOCFG_USE (g : Nat) : Fld := ⟨32 * (0x401A0300 + 4 * g) + 30, 2⟩
/-- `AUX_GPIOCFG[g].PULL`, bits 7:6, RW, reset TAB. -/
def AUX_GPIOCFG_PULL (g : Nat) : Fld := ⟨32 * (0x401A0300 + 4 * g) + 6, 2⟩
/-- `AUX_GPIOCFG[g].FILT`, bits 4:0, RW, reset TAB. -/
def AUX_GPIOCFG_FILT (g : Nat) : Fld := ⟨32 * (0x401A0300 + 4 * g), 5⟩
/-- `AUX_GPIOIN.LEVEL`, bits 15:0, RO, reset 0. -/
def AUX_GPIOIN_LEVEL : Fld := ⟨32 * (0x401A0340), 16⟩
/-- `CAN_CFG[k].EN`, bits 31:31, RWL COMMIT, reset TAB. -/
def CAN_CFG_EN (k : Nat) : Fld := ⟨32 * (0x401B0000 + 1024 * k) + 31, 1⟩
/-- `CAN_CFG[k].FD`, bits 30:30, RW, reset TAB. -/
def CAN_CFG_FD (k : Nat) : Fld := ⟨32 * (0x401B0000 + 1024 * k) + 30, 1⟩
/-- `CAN_CFG[k].LISTEN`, bits 29:29, RO, reset 0. -/
def CAN_CFG_LISTEN (k : Nat) : Fld := ⟨32 * (0x401B0000 + 1024 * k) + 29, 1⟩
/-- `CAN_CFG[k].RETRY`, bits 3:0, RW, reset TAB. -/
def CAN_CFG_RETRY (k : Nat) : Fld := ⟨32 * (0x401B0000 + 1024 * k), 4⟩
/-- `CAN_NBT[k].BRP`, bits 23:16, RW, reset TAB. -/
def CAN_NBT_BRP (k : Nat) : Fld := ⟨32 * (0x401B0004 + 1024 * k) + 16, 8⟩
/-- `CAN_NBT[k].TSEG1`, bits 15:10, RW, reset TAB. -/
def CAN_NBT_TSEG1 (k : Nat) : Fld := ⟨32 * (0x401B0004 + 1024 * k) + 10, 6⟩
/-- `CAN_NBT[k].TSEG2`, bits 9:5, RW, reset TAB. -/
def CAN_NBT_TSEG2 (k : Nat) : Fld := ⟨32 * (0x401B0004 + 1024 * k) + 5, 5⟩
/-- `CAN_NBT[k].SJW`, bits 4:0, RW, reset TAB. -/
def CAN_NBT_SJW (k : Nat) : Fld := ⟨32 * (0x401B0004 + 1024 * k), 5⟩
/-- `CAN_DBT[k].TDCEN`, bits 31:31, RW, reset TAB. -/
def CAN_DBT_TDCEN (k : Nat) : Fld := ⟨32 * (0x401B0008 + 1024 * k) + 31, 1⟩
/-- `CAN_DBT[k].TDCO`, bits 30:24, RW, reset TAB. -/
def CAN_DBT_TDCO (k : Nat) : Fld := ⟨32 * (0x401B0008 + 1024 * k) + 24, 7⟩
/-- `CAN_DBT[k].BRP`, bits 23:16, RW, reset TAB. -/
def CAN_DBT_BRP (k : Nat) : Fld := ⟨32 * (0x401B0008 + 1024 * k) + 16, 8⟩
/-- `CAN_DBT[k].TSEG1`, bits 15:10, RW, reset TAB. -/
def CAN_DBT_TSEG1 (k : Nat) : Fld := ⟨32 * (0x401B0008 + 1024 * k) + 10, 6⟩
/-- `CAN_DBT[k].TSEG2`, bits 9:5, RW, reset TAB. -/
def CAN_DBT_TSEG2 (k : Nat) : Fld := ⟨32 * (0x401B0008 + 1024 * k) + 5, 5⟩
/-- `CAN_DBT[k].SJW`, bits 4:0, RW, reset TAB. -/
def CAN_DBT_SJW (k : Nat) : Fld := ⟨32 * (0x401B0008 + 1024 * k), 5⟩
/-- `CAN_PSTAT[k].STATE`, bits 31:30, RO, reset 0. -/
def CAN_PSTAT_STATE (k : Nat) : Fld := ⟨32 * (0x401B000C + 1024 * k) + 30, 2⟩
/-- `CAN_PSTAT[k].REC`, bits 23:16, RO, reset 0. -/
def CAN_PSTAT_REC (k : Nat) : Fld := ⟨32 * (0x401B000C + 1024 * k) + 16, 8⟩
/-- `CAN_PSTAT[k].TEC`, bits 15:8, RO, reset 0. -/
def CAN_PSTAT_TEC (k : Nat) : Fld := ⟨32 * (0x401B000C + 1024 * k) + 8, 8⟩
/-- `CAN_PSTAT[k].DROPPED`, bits 7:4, RO, reset 0. -/
def CAN_PSTAT_DROPPED (k : Nat) : Fld := ⟨32 * (0x401B000C + 1024 * k) + 4, 4⟩
/-- `CAN_PSTAT[k].EVCAUSE`, bits 3:0, W1C, reset 0. -/
def CAN_PSTAT_EVCAUSE (k : Nat) : Fld := ⟨32 * (0x401B000C + 1024 * k), 4⟩
/-- `CAN_RXSTAT[k].POP`, bits 31:31, WO, reset 0. -/
def CAN_RXSTAT_POP (k : Nat) : Fld := ⟨32 * (0x401B0010 + 1024 * k) + 31, 1⟩
/-- `CAN_RXSTAT[k].OVF`, bits 15:8, RO, reset 0. -/
def CAN_RXSTAT_OVF (k : Nat) : Fld := ⟨32 * (0x401B0010 + 1024 * k) + 8, 8⟩
/-- `CAN_RXSTAT[k].COUNT`, bits 6:0, RO, reset 0. -/
def CAN_RXSTAT_COUNT (k : Nat) : Fld := ⟨32 * (0x401B0010 + 1024 * k), 7⟩
/-- `CAN_TXCMD[k].SEND`, bits 31:31, WO, reset 0. -/
def CAN_TXCMD_SEND (k : Nat) : Fld := ⟨32 * (0x401B0014 + 1024 * k) + 31, 1⟩
/-- `CAN_TXCMD[k].STATE`, bits 1:0, RO, reset 0. -/
def CAN_TXCMD_STATE (k : Nat) : Fld := ⟨32 * (0x401B0014 + 1024 * k), 2⟩
/-- `CAN_FILT[k][f].EN`, bits 31:31, RW, reset TAB. -/
def CAN_FILT_EN (k f : Nat) : Fld := ⟨32 * (0x401B0040 + 1024 * k + 8 * f) + 31, 1⟩
/-- `CAN_FILT[k][f].IDE`, bits 30:30, RW, reset TAB. -/
def CAN_FILT_IDE (k f : Nat) : Fld := ⟨32 * (0x401B0040 + 1024 * k + 8 * f) + 30, 1⟩
/-- `CAN_FILT[k][f].ID`, bits 28:0, RW, reset TAB. -/
def CAN_FILT_ID (k f : Nat) : Fld := ⟨32 * (0x401B0040 + 1024 * k + 8 * f), 29⟩
/-- `CAN_MASK[k][f].ID`, bits 28:0, RW, reset TAB. -/
def CAN_MASK_ID (k f : Nat) : Fld := ⟨32 * (0x401B0044 + 1024 * k + 8 * f), 29⟩
/-- `CAN_RXDATA[k][w].DATA`, bits 31:0, RO, reset 0. -/
def CAN_RXDATA_DATA (k w : Nat) : Fld := ⟨32 * (0x401B0100 + 1024 * k + 4 * w), 32⟩
/-- `CAN_TXDATA[k][w].DATA`, bits 31:0, RW, reset 0. -/
def CAN_TXDATA_DATA (k w : Nat) : Fld := ⟨32 * (0x401B0200 + 1024 * k + 4 * w), 32⟩

end Sys2Proof.Machine.Reg
end

