-- ==== Sys2Proof/Machine/RegsPower.lean ====
section
/-! DEFINITION. The fields of the Innkeeper, Purse, string and Tuner registers: each field of each register heading of the spec's
register maps, at the block base of R47 plus the heading's offset (R8, R47). -/

namespace Sys2Proof.Machine.Reg

/-- `INK_CFG.SHED_EN`, bits 17:17, RW, reset TAB. -/
def INK_CFG_SHED_EN : Fld := ⟨32 * (0x40080000) + 17, 1⟩
/-- `INK_CFG.SPEC_EN`, bits 16:16, RW, reset TAB. -/
def INK_CFG_SPEC_EN : Fld := ⟨32 * (0x40080000) + 16, 1⟩
/-- `INK_CFG.ROUNDPER`, bits 15:0, RW, reset TAB. -/
def INK_CFG_ROUNDPER : Fld := ⟨32 * (0x40080000), 16⟩
/-- `INK_STATUS.LATE`, bits 31:16, RO, reset 0. -/
def INK_STATUS_LATE : Fld := ⟨32 * (0x40080004) + 16, 16⟩
/-- `INK_STATUS.APPLY`, bits 15:8, RO, reset 0. -/
def INK_STATUS_APPLY : Fld := ⟨32 * (0x40080004) + 8, 8⟩
/-- `INK_STATUS.RUN`, bits 0:0, RO, reset 0. -/
def INK_STATUS_RUN : Fld := ⟨32 * (0x40080004), 1⟩
/-- `INK_ROUND.NUM`, bits 31:0, RO, reset 0. -/
def INK_ROUND_NUM : Fld := ⟨32 * (0x40080008), 32⟩
/-- `INK_CELLCFG.IMAX`, bits 27:16, RWL COMMIT, reset TAB. -/
def INK_CELLCFG_IMAX : Fld := ⟨32 * (0x4008000C) + 16, 12⟩
/-- `INK_CELLCFG.PMAX`, bits 15:0, RWL COMMIT, reset TAB. -/
def INK_CELLCFG_PMAX : Fld := ⟨32 * (0x4008000C), 16⟩
/-- `INK_TIECFG.IRATE`, bits 15:0, RWL COMMIT, reset TAB. -/
def INK_TIECFG_IRATE : Fld := ⟨32 * (0x40080010), 16⟩
/-- `INK_MOVECFG.TDOWN`, bits 31:27, RW, reset TAB. -/
def INK_MOVECFG_TDOWN : Fld := ⟨32 * (0x40080014) + 27, 5⟩
/-- `INK_MOVECFG.TCHECK`, bits 26:24, RW, reset TAB. -/
def INK_MOVECFG_TCHECK : Fld := ⟨32 * (0x40080014) + 24, 3⟩
/-- `INK_MOVECFG.TOPEN`, bits 23:19, RW, reset TAB. -/
def INK_MOVECFG_TOPEN : Fld := ⟨32 * (0x40080014) + 19, 5⟩
/-- `INK_MOVECFG.TPRE`, bits 18:14, RW, reset TAB. -/
def INK_MOVECFG_TPRE : Fld := ⟨32 * (0x40080014) + 14, 5⟩
/-- `INK_MOVECFG.TCLOSE`, bits 13:9, RW, reset TAB. -/
def INK_MOVECFG_TCLOSE : Fld := ⟨32 * (0x40080014) + 9, 5⟩
/-- `INK_MOVECFG.TUP`, bits 8:4, RW, reset TAB. -/
def INK_MOVECFG_TUP : Fld := ⟨32 * (0x40080014) + 4, 5⟩
/-- `INK_MOVECFG.VWIN`, bits 3:0, RW, reset TAB. -/
def INK_MOVECFG_VWIN : Fld := ⟨32 * (0x40080014), 4⟩
/-- `INK_MOVECFG2.MAXTIES`, bits 4:0, RW, reset TAB. -/
def INK_MOVECFG2_MAXTIES : Fld := ⟨32 * (0x40080018), 5⟩
/-- `INK_SHEDCFG.LO`, bits 31:24, RW, reset TAB. -/
def INK_SHEDCFG_LO : Fld := ⟨32 * (0x4008001C) + 24, 8⟩
/-- `INK_SHEDCFG.TGT`, bits 23:16, RW, reset TAB. -/
def INK_SHEDCFG_TGT : Fld := ⟨32 * (0x4008001C) + 16, 8⟩
/-- `INK_SHEDCFG.HI`, bits 15:8, RW, reset TAB. -/
def INK_SHEDCFG_HI : Fld := ⟨32 * (0x4008001C) + 8, 8⟩
/-- `INK_SHEDCFG.MINACT`, bits 7:4, RW, reset TAB. -/
def INK_SHEDCFG_MINACT : Fld := ⟨32 * (0x4008001C) + 4, 4⟩
/-- `INK_SHEDCFG.STEP`, bits 3:0, RW, reset TAB. -/
def INK_SHEDCFG_STEP : Fld := ⟨32 * (0x4008001C), 4⟩
/-- `INK_SHARECFG.MODE`, bits 16:16, RW, reset TAB. -/
def INK_SHARECFG_MODE : Fld := ⟨32 * (0x40080020) + 16, 1⟩
/-- `INK_SHARECFG.CLAMP`, bits 15:8, RW, reset TAB. -/
def INK_SHARECFG_CLAMP : Fld := ⟨32 * (0x40080020) + 8, 8⟩
/-- `INK_SHARECFG.KT`, bits 7:0, RW, reset TAB. -/
def INK_SHARECFG_KT : Fld := ⟨32 * (0x40080020), 8⟩
/-- `INK_SPECCFG.AGE_PLUG`, bits 15:0, RW, reset TAB. -/
def INK_SPECCFG_AGE_PLUG : Fld := ⟨32 * (0x40080024), 16⟩
/-- `INK_TIESTATE.MOVING`, bits 31:16, RO, reset 0. -/
def INK_TIESTATE_MOVING : Fld := ⟨32 * (0x40080028) + 16, 16⟩
/-- `INK_TIESTATE.CLOSED`, bits 15:0, RO, reset 0. -/
def INK_TIESTATE_CLOSED : Fld := ⟨32 * (0x40080028), 16⟩
/-- `INK_TIESTUCK.OPEN`, bits 31:16, W1C, reset 0. -/
def INK_TIESTUCK_OPEN : Fld := ⟨32 * (0x4008002C) + 16, 16⟩
/-- `INK_TIESTUCK.SHUT`, bits 15:0, W1C, reset 0. -/
def INK_TIESTUCK_SHUT : Fld := ⟨32 * (0x4008002C), 16⟩
/-- `INK_COURSECFG[c].FEED`, bits 1:0, RWL COMMIT, reset TAB. -/
def INK_COURSECFG_FEED (c : Nat) : Fld := ⟨32 * (0x40080080 + 4 * c), 2⟩
/-- `INK_COURSE[c].HEALTHY`, bits 14:12, RO, reset 0. -/
def INK_COURSE_HEALTHY (c : Nat) : Fld := ⟨32 * (0x40080100 + 4 * c) + 12, 3⟩
/-- `INK_COURSE[c].STATE`, bits 11:8, RO, reset 0. -/
def INK_COURSE_STATE (c : Nat) : Fld := ⟨32 * (0x40080100 + 4 * c) + 8, 4⟩
/-- `INK_COURSE[c].ARC`, bits 4:0, RO, reset 0x1F. -/
def INK_COURSE_ARC (c : Nat) : Fld := ⟨32 * (0x40080100 + 4 * c), 5⟩
/-- `INK_GRANT[n].LIMITER`, bits 31:28, RO, reset 0. -/
def INK_GRANT_LIMITER (n : Nat) : Fld := ⟨32 * (0x40080200 + 4 * n) + 28, 4⟩
/-- `INK_GRANT[n].COURSES`, bits 20:16, RO, reset 0. -/
def INK_GRANT_COURSES (n : Nat) : Fld := ⟨32 * (0x40080200 + 4 * n) + 16, 5⟩
/-- `INK_GRANT[n].KW`, bits 15:0, RO, reset 0. -/
def INK_GRANT_KW (n : Nat) : Fld := ⟨32 * (0x40080200 + 4 * n), 16⟩
/-- `INK_OUTCFG[n].CLASS`, bits 31:30, RW, reset TAB. -/
def INK_OUTCFG_CLASS (n : Nat) : Fld := ⟨32 * (0x40080240 + 4 * n) + 30, 2⟩
/-- `INK_OUTCFG[n].RUNDOWN`, bits 29:21, RW, reset TAB. -/
def INK_OUTCFG_RUNDOWN (n : Nat) : Fld := ⟨32 * (0x40080240 + 4 * n) + 21, 9⟩
/-- `INK_OUTCFG[n].FLOOR`, bits 20:10, RW, reset TAB. -/
def INK_OUTCFG_FLOOR (n : Nat) : Fld := ⟨32 * (0x40080240 + 4 * n) + 10, 11⟩
/-- `INK_OUTCFG[n].FORECAST`, bits 9:0, RW, reset TAB. -/
def INK_OUTCFG_FORECAST (n : Nat) : Fld := ⟨32 * (0x40080240 + 4 * n), 10⟩
/-- `INK_OUTLIM[n].KW`, bits 15:0, RWL COMMIT, reset TAB. -/
def INK_OUTLIM_KW (n : Nat) : Fld := ⟨32 * (0x40080280 + 4 * n), 16⟩
/-- `INK_OUTFCV[n].V`, bits 15:0, RW, reset TAB. -/
def INK_OUTFCV_V (n : Nat) : Fld := ⟨32 * (0x400802C0 + 4 * n), 16⟩
/-- `INK_STRING[s].STATE`, bits 30:28, RO, reset 0. -/
def INK_STRING_STATE (s : Nat) : Fld := ⟨32 * (0x40080300 + 4 * s) + 28, 3⟩
/-- `INK_STRING[s].PHASE`, bits 27:16, RO, reset 0. -/
def INK_STRING_PHASE (s : Nat) : Fld := ⟨32 * (0x40080300 + 4 * s) + 16, 12⟩
/-- `INK_STRING[s].WEIGHT`, bits 15:0, RO, reset 0. -/
def INK_STRING_WEIGHT (s : Nat) : Fld := ⟨32 * (0x40080300 + 4 * s), 16⟩
/-- `INK_PENCIL[n].PENCILLED`, bits 31:31, RO, reset 0. -/
def INK_PENCIL_PENCILLED (n : Nat) : Fld := ⟨32 * (0x40080400 + 8 * n) + 31, 1⟩
/-- `INK_PENCIL[n].TRIGGER`, bits 30:28, RO, reset 0. -/
def INK_PENCIL_TRIGGER (n : Nat) : Fld := ⟨32 * (0x40080400 + 8 * n) + 28, 3⟩
/-- `INK_PENCIL[n].AGE`, bits 27:16, RO, reset 0. -/
def INK_PENCIL_AGE (n : Nat) : Fld := ⟨32 * (0x40080400 + 8 * n) + 16, 12⟩
/-- `INK_PENCIL[n].KW`, bits 15:0, RO, reset 0. -/
def INK_PENCIL_KW (n : Nat) : Fld := ⟨32 * (0x40080400 + 8 * n), 16⟩
/-- `INK_PENCILMASK[n].SHEDCOUNT`, bits 23:17, RO, reset 0. -/
def INK_PENCILMASK_SHEDCOUNT (n : Nat) : Fld := ⟨32 * (0x40080404 + 8 * n) + 17, 7⟩
/-- `INK_PENCILMASK[n].SHED`, bits 16:16, RO, reset 0. -/
def INK_PENCILMASK_SHED (n : Nat) : Fld := ⟨32 * (0x40080404 + 8 * n) + 16, 1⟩
/-- `INK_PENCILMASK[n].COURSES`, bits 15:0, RO, reset 0. -/
def INK_PENCILMASK_COURSES (n : Nat) : Fld := ⟨32 * (0x40080404 + 8 * n), 16⟩
/-- `PRS_STATUS.WIN_ELAPSED`, bits 31:16, RO, reset 0. -/
def PRS_STATUS_WIN_ELAPSED : Fld := ⟨32 * (0x40090000) + 16, 16⟩
/-- `PRS_STATUS.PLAN_AGE`, bits 15:8, RO, reset 0. -/
def PRS_STATUS_PLAN_AGE : Fld := ⟨32 * (0x40090000) + 8, 8⟩
/-- `PRS_STATUS.STALE`, bits 1:1, RO, reset 0. -/
def PRS_STATUS_STALE : Fld := ⟨32 * (0x40090000) + 1, 1⟩
/-- `PRS_STATUS.WINDOW_ON`, bits 0:0, RO, reset 0. -/
def PRS_STATUS_WINDOW_ON : Fld := ⟨32 * (0x40090000), 1⟩
/-- `PRS_CURTAIL.FEED`, bits 6:6, RO, reset 0. -/
def PRS_CURTAIL_FEED : Fld := ⟨32 * (0x40090004) + 6, 1⟩
/-- `PRS_CURTAIL.ISLAND`, bits 5:5, RO, reset 0. -/
def PRS_CURTAIL_ISLAND : Fld := ⟨32 * (0x40090004) + 5, 1⟩
/-- `PRS_CURTAIL.FABRIC`, bits 4:4, RO, reset 0. -/
def PRS_CURTAIL_FABRIC : Fld := ⟨32 * (0x40090004) + 4, 1⟩
/-- `PRS_CURTAIL.WINDOW`, bits 3:3, RO, reset 0. -/
def PRS_CURTAIL_WINDOW : Fld := ⟨32 * (0x40090004) + 3, 1⟩
/-- `PRS_CURTAIL.IMPORT`, bits 2:2, RO, reset 0. -/
def PRS_CURTAIL_IMPORT : Fld := ⟨32 * (0x40090004) + 2, 1⟩
/-- `PRS_CURTAIL.DEVBUDGET`, bits 1:1, RO, reset 0. -/
def PRS_CURTAIL_DEVBUDGET : Fld := ⟨32 * (0x40090004) + 1, 1⟩
/-- `PRS_CURTAIL.THROTTLE`, bits 0:0, RO, reset 0. -/
def PRS_CURTAIL_THROTTLE : Fld := ⟨32 * (0x40090004), 1⟩
/-- `PRS_SITECFG.MARGIN`, bits 9:2, RW, reset TAB. -/
def PRS_SITECFG_MARGIN : Fld := ⟨32 * (0x40090008) + 2, 8⟩
/-- `PRS_SITECFG.WIN`, bits 1:0, RW, reset TAB. -/
def PRS_SITECFG_WIN : Fld := ⟨32 * (0x40090008), 2⟩
/-- `PRS_IMPORTLIM.KW`, bits 17:0, RW, reset TAB. -/
def PRS_IMPORTLIM_KW : Fld := ⟨32 * (0x4009000C), 18⟩
/-- `PRS_CONTRACT.KW`, bits 17:0, RW, reset TAB. -/
def PRS_CONTRACT_KW : Fld := ⟨32 * (0x40090010), 18⟩
/-- `PRS_STATIONFLOOR.KW`, bits 15:0, RW, reset TAB. -/
def PRS_STATIONFLOOR_KW : Fld := ⟨32 * (0x40090014), 16⟩
/-- `PRS_FEEDLIM[f].SHARE`, bits 31:16, RO, reset 0. -/
def PRS_FEEDLIM_SHARE (f : Nat) : Fld := ⟨32 * (0x40090020 + 4 * f) + 16, 16⟩
/-- `PRS_FEEDLIM[f].KW`, bits 15:0, RW, reset TAB. -/
def PRS_FEEDLIM_KW (f : Nat) : Fld := ⟨32 * (0x40090020 + 4 * f), 16⟩
/-- `PRS_BATT.VALID`, bits 31:31, RO, reset 0. -/
def PRS_BATT_VALID : Fld := ⟨32 * (0x40090030) + 31, 1⟩
/-- `PRS_BATT.AGE`, bits 30:24, RO, reset 0. -/
def PRS_BATT_AGE : Fld := ⟨32 * (0x40090030) + 24, 7⟩
/-- `PRS_BATT.OFFER_KW`, bits 23:0, RO, reset 0. -/
def PRS_BATT_OFFER_KW : Fld := ⟨32 * (0x40090030), 24⟩
/-- `PRS_WINUSED.WH`, bits 31:0, RO, reset 0. -/
def PRS_WINUSED_WH : Fld := ⟨32 * (0x40090034), 32⟩
/-- `PRS_PLAN.W`, bits 31:0, RO, reset 0. -/
def PRS_PLAN_W : Fld := ⟨32 * (0x40090038), 32⟩
/-- `PRS_SHARE.W`, bits 31:0, RO, reset 0. -/
def PRS_SHARE_W : Fld := ⟨32 * (0x4009003C), 32⟩
/-- `PRS_RESERVE.W`, bits 31:0, RO, reset 0. -/
def PRS_RESERVE_W : Fld := ⟨32 * (0x40090040), 32⟩
/-- `PRS_DEVCFG.BUDGET`, bits 31:24, RW, reset TAB. -/
def PRS_DEVCFG_BUDGET : Fld := ⟨32 * (0x40090080) + 24, 8⟩
/-- `PRS_DEVCFG.LATBUDGET`, bits 23:16, RW, reset TAB. -/
def PRS_DEVCFG_LATBUDGET : Fld := ⟨32 * (0x40090080) + 16, 8⟩
/-- `PRS_DEVCFG.MARGIN`, bits 4:0, RW, reset TAB. -/
def PRS_DEVCFG_MARGIN : Fld := ⟨32 * (0x40090080), 5⟩
/-- `PRS_DEVSTAT.BELOW_TARGET`, bits 31:31, RO, reset 0. -/
def PRS_DEVSTAT_BELOW_TARGET : Fld := ⟨32 * (0x40090084) + 31, 1⟩
/-- `PRS_DEVSTAT.HELD`, bits 30:30, RO, reset 0. -/
def PRS_DEVSTAT_HELD : Fld := ⟨32 * (0x40090084) + 30, 1⟩
/-- `PRS_DEVSTAT.RAIL`, bits 21:16, RO, reset 40. -/
def PRS_DEVSTAT_RAIL : Fld := ⟨32 * (0x40090084) + 16, 6⟩
/-- `PRS_DEVSTAT.PATH_NS`, bits 15:0, RO, reset 0. -/
def PRS_DEVSTAT_PATH_NS : Fld := ⟨32 * (0x40090084), 16⟩
/-- `PRS_DEVPOWER.CW`, bits 15:0, RO, reset 0. -/
def PRS_DEVPOWER_CW : Fld := ⟨32 * (0x40090088), 16⟩
/-- `PRS_GATE.T1S`, bits 31:16, RO, reset 0. -/
def PRS_GATE_T1S : Fld := ⟨32 * (0x4009008C) + 16, 16⟩
/-- `PRS_GATE.PLC`, bits 15:0, RO, reset 0. -/
def PRS_GATE_PLC : Fld := ⟨32 * (0x4009008C), 16⟩
/-- `PRS_HOLDUP.NEED_MJ`, bits 31:16, RO, reset 0. -/
def PRS_HOLDUP_NEED_MJ : Fld := ⟨32 * (0x40090090) + 16, 16⟩
/-- `PRS_HOLDUP.AVAIL_MJ`, bits 15:0, RO, reset 0. -/
def PRS_HOLDUP_AVAIL_MJ : Fld := ⟨32 * (0x40090090), 16⟩
/-- `PRS_CANARY.REF`, bits 31:16, RO, reset Trim. -/
def PRS_CANARY_REF : Fld := ⟨32 * (0x40090094) + 16, 16⟩
/-- `PRS_CANARY.SCALE`, bits 15:0, RO, reset 0. -/
def PRS_CANARY_SCALE : Fld := ⟨32 * (0x40090094), 16⟩
/-- `PRS_FABSTAT.ROUND`, bits 31:0, RO, reset 0. -/
def PRS_FABSTAT_ROUND : Fld := ⟨32 * (0x40090100), 32⟩
/-- `PRS_POST[a].MISSED`, bits 31:28, RO, reset 0. -/
def PRS_POST_MISSED (a : Nat) : Fld := ⟨32 * (0x40090140 + 4 * a) + 28, 4⟩
/-- `PRS_POST[a].STATE`, bits 27:25, RO, reset 0. -/
def PRS_POST_STATE (a : Nat) : Fld := ⟨32 * (0x40090140 + 4 * a) + 25, 3⟩
/-- `PRS_POST[a].DEMAND_KW`, bits 15:0, RO, reset 0. -/
def PRS_POST_DEMAND_KW (a : Nat) : Fld := ⟨32 * (0x40090140 + 4 * a), 16⟩
/-- `PRS_SHAREOF[a].FLOOR_KW`, bits 31:16, RO, reset 0. -/
def PRS_SHAREOF_FLOOR_KW (a : Nat) : Fld := ⟨32 * (0x400901C0 + 4 * a) + 16, 16⟩
/-- `PRS_SHAREOF[a].SHARE_KW`, bits 15:0, RO, reset 0. -/
def PRS_SHAREOF_SHARE_KW (a : Nat) : Fld := ⟨32 * (0x400901C0 + 4 * a), 16⟩
/-- `STR_LINKCFG.HOLD`, bits 31:28, RW, reset TAB. -/
def STR_LINKCFG_HOLD : Fld := ⟨32 * (0x400A0000) + 28, 4⟩
/-- `STR_LINKCFG.TERM`, bits 24:24, RWL COMMIT, reset TAB. -/
def STR_LINKCFG_TERM : Fld := ⟨32 * (0x400A0000) + 24, 1⟩
/-- `STR_LINKCFG.PRELIM`, bits 23:16, RW, reset TAB. -/
def STR_LINKCFG_PRELIM : Fld := ⟨32 * (0x400A0000) + 16, 8⟩
/-- `STR_LINKCFG.SAMPLE_DELAY`, bits 12:0, RWL COMMIT, reset TAB. -/
def STR_LINKCFG_SAMPLE_DELAY : Fld := ⟨32 * (0x400A0000), 13⟩
/-- `STR_TELCFG.K`, bits 4:0, RW, reset TAB. -/
def STR_TELCFG_K : Fld := ⟨32 * (0x400A0004), 5⟩
/-- `STR_SENSECFG.TOL`, bits 7:0, RW, reset TAB. -/
def STR_SENSECFG_TOL : Fld := ⟨32 * (0x400A0008), 8⟩
/-- `STR_SENSE.FALLBACK`, bits 31:16, RO, reset 0. -/
def STR_SENSE_FALLBACK : Fld := ⟨32 * (0x400A000C) + 16, 16⟩
/-- `STR_SENSE.LOST`, bits 15:0, RO, reset 0. -/
def STR_SENSE_LOST : Fld := ⟨32 * (0x400A000C), 16⟩
/-- `STR_CMD.REIDENT`, bits 1:1, WO, reset 0. -/
def STR_CMD_REIDENT : Fld := ⟨32 * (0x400A0010) + 1, 1⟩
/-- `STR_CMD.CLRCNT`, bits 0:0, WO, reset 0. -/
def STR_CMD_CLRCNT : Fld := ⟨32 * (0x400A0010), 1⟩
/-- `STR_BLOCKSTAT.COUNT`, bits 31:16, RO, reset 0. -/
def STR_BLOCKSTAT_COUNT : Fld := ⟨32 * (0x400A0014) + 16, 16⟩
/-- `STR_BLOCKSTAT.HELD`, bits 15:0, RO, reset 0. -/
def STR_BLOCKSTAT_HELD : Fld := ⟨32 * (0x400A0014), 16⟩
/-- `STR_FAULT_LO.FAULT`, bits 31:0, RO, reset 0. -/
def STR_FAULT_LO_FAULT : Fld := ⟨32 * (0x400A0018), 32⟩
/-- `STR_FAULT_HI.FAULT`, bits 31:0, RO, reset 0. -/
def STR_FAULT_HI_FAULT : Fld := ⟨32 * (0x400A001C), 32⟩
/-- `STR_IDSEL.VALID`, bits 31:31, RO, reset 0. -/
def STR_IDSEL_VALID : Fld := ⟨32 * (0x400A0020) + 31, 1⟩
/-- `STR_IDSEL.STRING`, bits 13:8, RW, reset 0. -/
def STR_IDSEL_STRING : Fld := ⟨32 * (0x400A0020) + 8, 6⟩
/-- `STR_IDSEL.PAGE`, bits 3:0, RW, reset 0. -/
def STR_IDSEL_PAGE : Fld := ⟨32 * (0x400A0020), 4⟩
/-- `STR_IDDATA.DATA`, bits 31:0, RO, reset 0. -/
def STR_IDDATA_DATA : Fld := ⟨32 * (0x400A0024), 32⟩
/-- `STR_STRCFG[s].PRESENT`, bits 16:16, RWL COMMIT, reset TAB. -/
def STR_STRCFG_PRESENT (s : Nat) : Fld := ⟨32 * (0x400A0100 + 4 * s) + 16, 1⟩
/-- `STR_STRCFG[s].TRIM`, bits 7:0, RW, reset TAB. -/
def STR_STRCFG_TRIM (s : Nat) : Fld := ⟨32 * (0x400A0100 + 4 * s), 8⟩
/-- `STR_STRSTAT[s].CELLSTATE`, bits 31:29, RO, reset 0. -/
def STR_STRSTAT_CELLSTATE (s : Nat) : Fld := ⟨32 * (0x400A0200 + 4 * s) + 29, 3⟩
/-- `STR_STRSTAT[s].LOST`, bits 28:25, RO, reset 0. -/
def STR_STRSTAT_LOST (s : Nat) : Fld := ⟨32 * (0x400A0200 + 4 * s) + 25, 4⟩
/-- `STR_STRSTAT[s].FAULT`, bits 24:24, RO, reset 0. -/
def STR_STRSTAT_FAULT (s : Nat) : Fld := ⟨32 * (0x400A0200 + 4 * s) + 24, 1⟩
/-- `STR_STRSTAT[s].RAMP`, bits 23:20, RO, reset 0. -/
def STR_STRSTAT_RAMP (s : Nat) : Fld := ⟨32 * (0x400A0200 + 4 * s) + 20, 4⟩
/-- `STR_STRSTAT[s].IDOK`, bits 16:16, RO, reset 0. -/
def STR_STRSTAT_IDOK (s : Nat) : Fld := ⟨32 * (0x400A0200 + 4 * s) + 16, 1⟩
/-- `STR_STRSTAT[s].STATUS`, bits 15:0, RO, reset 0. -/
def STR_STRSTAT_STATUS (s : Nat) : Fld := ⟨32 * (0x400A0200 + 4 * s), 16⟩
/-- `STR_STRERR[s].CRCERR`, bits 31:16, RO, reset 0. -/
def STR_STRERR_CRCERR (s : Nat) : Fld := ⟨32 * (0x400A0300 + 4 * s) + 16, 16⟩
/-- `STR_STRERR[s].MISSING`, bits 15:0, RO, reset 0. -/
def STR_STRERR_MISSING (s : Nat) : Fld := ⟨32 * (0x400A0300 + 4 * s), 16⟩
/-- `STR_TELAVG[s][q].VALUE`, bits 31:0, RO, reset 0. -/
def STR_TELAVG_VALUE (s q : Nat) : Fld := ⟨32 * (0x400A1000 + 16 * s + 4 * q), 32⟩
/-- `STR_TELMAX[s][q].VALUE`, bits 31:0, RO, reset 0. -/
def STR_TELMAX_VALUE (s q : Nat) : Fld := ⟨32 * (0x400A1400 + 16 * s + 4 * q), 32⟩
/-- `STR_TELMIN[s][q].VALUE`, bits 31:0, RO, reset 0. -/
def STR_TELMIN_VALUE (s q : Nat) : Fld := ⟨32 * (0x400A1800 + 16 * s + 4 * q), 32⟩
/-- `STR_OUTAVG[n][q].VALUE`, bits 31:0, RO, reset 0. -/
def STR_OUTAVG_VALUE (n q : Nat) : Fld := ⟨32 * (0x400A1C00 + 16 * n + 4 * q), 32⟩
/-- `STR_OUTMAX[n][q].VALUE`, bits 31:0, RO, reset 0. -/
def STR_OUTMAX_VALUE (n q : Nat) : Fld := ⟨32 * (0x400A1D00 + 16 * n + 4 * q), 32⟩
/-- `STR_OUTMIN[n][q].VALUE`, bits 31:0, RO, reset 0. -/
def STR_OUTMIN_VALUE (n q : Nat) : Fld := ⟨32 * (0x400A1E00 + 16 * n + 4 * q), 32⟩
/-- `TUN_STATUS.LATE`, bits 31:16, RO, reset 0. -/
def TUN_STATUS_LATE : Fld := ⟨32 * (0x400C0000) + 16, 16⟩
/-- `TUN_STATUS.PATHMAX`, bits 15:0, RO, reset 0. -/
def TUN_STATUS_PATHMAX : Fld := ⟨32 * (0x400C0000), 16⟩
/-- `TUN_CMD.CAPFREE`, bits 4:4, WO, reset 0. -/
def TUN_CMD_CAPFREE : Fld := ⟨32 * (0x400C0004) + 4, 1⟩
/-- `TUN_CMD.BOWSTOP`, bits 3:3, WO, reset 0. -/
def TUN_CMD_BOWSTOP : Fld := ⟨32 * (0x400C0004) + 3, 1⟩
/-- `TUN_CMD.BOW`, bits 2:2, WO, reset 0. -/
def TUN_CMD_BOW : Fld := ⟨32 * (0x400C0004) + 2, 1⟩
/-- `TUN_CMD.PLUCKSTOP`, bits 1:1, WO, reset 0. -/
def TUN_CMD_PLUCKSTOP : Fld := ⟨32 * (0x400C0004) + 1, 1⟩
/-- `TUN_CMD.PLUCK`, bits 0:0, WO, reset 0. -/
def TUN_CMD_PLUCK : Fld := ⟨32 * (0x400C0004), 1⟩
/-- `TUN_PLUCKCFG.SLOT`, bits 31:25, RW, reset 0. -/
def TUN_PLUCKCFG_SLOT : Fld := ⟨32 * (0x400C0010) + 25, 7⟩
/-- `TUN_PLUCKCFG.CYCLES`, bits 24:22, RW, reset 4. -/
def TUN_PLUCKCFG_CYCLES : Fld := ⟨32 * (0x400C0010) + 22, 3⟩
/-- `TUN_PLUCKCFG.TIMEOUT`, bits 21:10, RW, reset 1,200. -/
def TUN_PLUCKCFG_TIMEOUT : Fld := ⟨32 * (0x400C0010) + 10, 12⟩
/-- `TUN_PLUCKOUT.BIAS`, bits 31:16, RW, reset 5,000. -/
def TUN_PLUCKOUT_BIAS : Fld := ⟨32 * (0x400C0014) + 16, 16⟩
/-- `TUN_PLUCKOUT.AMP`, bits 15:0, RW, reset 1,000. -/
def TUN_PLUCKOUT_AMP : Fld := ⟨32 * (0x400C0014), 16⟩
/-- `TUN_PLUCKERR.ABORT`, bits 31:16, RW, reset 500. -/
def TUN_PLUCKERR_ABORT : Fld := ⟨32 * (0x400C0018) + 16, 16⟩
/-- `TUN_PLUCKERR.HYST`, bits 15:0, RW, reset 10. -/
def TUN_PLUCKERR_HYST : Fld := ⟨32 * (0x400C0018), 16⟩
/-- `TUN_PLUCKSTAT.STATE`, bits 31:28, RO, reset 0. -/
def TUN_PLUCKSTAT_STATE : Fld := ⟨32 * (0x400C001C) + 28, 4⟩
/-- `TUN_PLUCKSTAT.CAUSE`, bits 27:24, RO, reset 0. -/
def TUN_PLUCKSTAT_CAUSE : Fld := ⟨32 * (0x400C001C) + 24, 4⟩
/-- `TUN_PLUCKSTAT.CYCLE`, bits 23:20, RO, reset 0. -/
def TUN_PLUCKSTAT_CYCLE : Fld := ⟨32 * (0x400C001C) + 20, 4⟩
/-- `TUN_PLUCKSTAT.ELAPSED`, bits 19:0, RO, reset 0. -/
def TUN_PLUCKSTAT_ELAPSED : Fld := ⟨32 * (0x400C001C), 20⟩
/-- `TUN_PLUCKKU.VALUE`, bits 31:0, RO, reset 0. -/
def TUN_PLUCKKU_VALUE : Fld := ⟨32 * (0x400C0020), 32⟩
/-- `TUN_PLUCKTU.VALUE`, bits 31:0, RO, reset 0. -/
def TUN_PLUCKTU_VALUE : Fld := ⟨32 * (0x400C0024), 32⟩
/-- `TUN_PLUCKA.VALUE`, bits 31:0, RO, reset 0. -/
def TUN_PLUCKA_VALUE : Fld := ⟨32 * (0x400C0028), 32⟩
/-- `TUN_PLUCKKP.VALUE`, bits 31:0, RO, reset 0. -/
def TUN_PLUCKKP_VALUE : Fld := ⟨32 * (0x400C002C), 32⟩
/-- `TUN_PLUCKKI.VALUE`, bits 31:0, RO, reset 0. -/
def TUN_PLUCKKI_VALUE : Fld := ⟨32 * (0x400C0030), 32⟩
/-- `TUN_PLUCKSUG[f].BRK`, bits 31:0, RO, reset 0. -/
def TUN_PLUCKSUG_BRK (f : Nat) : Fld := ⟨32 * (0x400C0040 + 8 * f), 32⟩
/-- `TUN_PLUCKSUGM[f].KPM`, bits 31:16, RO, reset 0. -/
def TUN_PLUCKSUGM_KPM (f : Nat) : Fld := ⟨32 * (0x400C0044 + 8 * f) + 16, 16⟩
/-- `TUN_PLUCKSUGM[f].KIM`, bits 15:0, RO, reset 0. -/
def TUN_PLUCKSUGM_KIM (f : Nat) : Fld := ⟨32 * (0x400C0044 + 8 * f), 16⟩
/-- `TUN_BOWCFG.SLOT`, bits 31:25, RW, reset 0. -/
def TUN_BOWCFG_SLOT : Fld := ⟨32 * (0x400C0080) + 25, 7⟩
/-- `TUN_BOWCFG.SIGNAL`, bits 24:23, RW, reset 0. -/
def TUN_BOWCFG_SIGNAL : Fld := ⟨32 * (0x400C0080) + 23, 2⟩
/-- `TUN_BOWCFG.INJECT`, bits 22:22, RW, reset 0. -/
def TUN_BOWCFG_INJECT : Fld := ⟨32 * (0x400C0080) + 22, 1⟩
/-- `TUN_BOWCFG.AMP`, bits 21:16, RW, reset 10. -/
def TUN_BOWCFG_AMP : Fld := ⟨32 * (0x400C0080) + 16, 6⟩
/-- `TUN_BOWCFG.DECIM`, bits 8:0, RW, reset 1. -/
def TUN_BOWCFG_DECIM : Fld := ⟨32 * (0x400C0080), 9⟩
/-- `TUN_BOWPRBS.CHIP`, bits 8:0, RW, reset 1. -/
def TUN_BOWPRBS_CHIP : Fld := ⟨32 * (0x400C0084), 9⟩
/-- `TUN_BOWSINE.F1`, bits 31:16, RW, reset 0. -/
def TUN_BOWSINE_F1 : Fld := ⟨32 * (0x400C0088) + 16, 16⟩
/-- `TUN_BOWSINE.F0`, bits 15:0, RW, reset 0. -/
def TUN_BOWSINE_F0 : Fld := ⟨32 * (0x400C0088), 16⟩
/-- `TUN_BOWSINE2.DWELL`, bits 15:8, RW, reset 8. -/
def TUN_BOWSINE2_DWELL : Fld := ⟨32 * (0x400C008C) + 8, 8⟩
/-- `TUN_BOWSINE2.STEPS`, bits 5:0, RW, reset 16. -/
def TUN_BOWSINE2_STEPS : Fld := ⟨32 * (0x400C008C), 6⟩
/-- `TUN_BOWSTAT.STATE`, bits 31:28, RO, reset 0. -/
def TUN_BOWSTAT_STATE : Fld := ⟨32 * (0x400C0090) + 28, 4⟩
/-- `TUN_BOWSTAT.CAUSE`, bits 27:24, RO, reset 0. -/
def TUN_BOWSTAT_CAUSE : Fld := ⟨32 * (0x400C0090) + 24, 4⟩
/-- `TUN_BOWSTAT.FULL`, bits 23:23, RO, reset 0. -/
def TUN_BOWSTAT_FULL : Fld := ⟨32 * (0x400C0090) + 23, 1⟩
/-- `TUN_BOWSTAT.SAMPLES`, bits 14:0, RO, reset 0. -/
def TUN_BOWSTAT_SAMPLES : Fld := ⟨32 * (0x400C0090), 15⟩
/-- `TUN_CAPSEL.INDEX`, bits 13:0, RW, reset 0. -/
def TUN_CAPSEL_INDEX : Fld := ⟨32 * (0x400C0094), 14⟩
/-- `TUN_CAPDATA[w].WORD`, bits 31:0, RO, reset 0. -/
def TUN_CAPDATA_WORD (w : Nat) : Fld := ⟨32 * (0x400C00A0 + 4 * w), 32⟩
/-- `TUN_BOARD[b].VALID`, bits 31:31, RO, reset 0. -/
def TUN_BOARD_VALID (b : Nat) : Fld := ⟨32 * (0x400C0800 + 4 * b) + 31, 1⟩
/-- `TUN_BOARD[b].COUNT`, bits 4:0, RW, reset TAB. -/
def TUN_BOARD_COUNT (b : Nat) : Fld := ⟨32 * (0x400C0800 + 4 * b), 5⟩
/-- `TUN_FRETBRK[b][f].BRK`, bits 31:0, RW, reset TAB. -/
def TUN_FRETBRK_BRK (b f : Nat) : Fld := ⟨32 * (0x400C1000 + 128 * b + 8 * f), 32⟩
/-- `TUN_FRETMUL[b][f].KPM`, bits 31:16, RW, reset TAB. -/
def TUN_FRETMUL_KPM (b f : Nat) : Fld := ⟨32 * (0x400C1004 + 128 * b + 8 * f) + 16, 16⟩
/-- `TUN_FRETMUL[b][f].KIM`, bits 15:0, RW, reset TAB. -/
def TUN_FRETMUL_KIM (b f : Nat) : Fld := ⟨32 * (0x400C1004 + 128 * b + 8 * f), 16⟩
/-- `TUN_SCFG[i].MODE`, bits 31:31, RW, reset TAB. -/
def TUN_SCFG_MODE (i : Nat) : Fld := ⟨32 * (0x400C4000 + 128 * i) + 31, 1⟩
/-- `TUN_SCFG[i].BOARD`, bits 29:25, RW, reset TAB. -/
def TUN_SCFG_BOARD (i : Nat) : Fld := ⟨32 * (0x400C4000 + 128 * i) + 25, 5⟩
/-- `TUN_SCFG[i].VBOARD`, bits 24:20, RW, reset TAB. -/
def TUN_SCFG_VBOARD (i : Nat) : Fld := ⟨32 * (0x400C4000 + 128 * i) + 20, 5⟩
/-- `TUN_SCFG[i].DIR`, bits 19:19, RW, reset TAB. -/
def TUN_SCFG_DIR (i : Nat) : Fld := ⟨32 * (0x400C4000 + 128 * i) + 19, 1⟩
/-- `TUN_SCFG[i].OUTLET`, bits 18:14, RW, reset TAB. -/
def TUN_SCFG_OUTLET (i : Nat) : Fld := ⟨32 * (0x400C4000 + 128 * i) + 14, 5⟩
/-- `TUN_SCFG[i].INTERVAL`, bits 9:0, RW, reset TAB. -/
def TUN_SCFG_INTERVAL (i : Nat) : Fld := ⟨32 * (0x400C4000 + 128 * i), 10⟩
/-- `TUN_SSRC[i].INPUT`, bits 15:8, RW, reset TAB. -/
def TUN_SSRC_INPUT (i : Nat) : Fld := ⟨32 * (0x400C4004 + 128 * i) + 8, 8⟩
/-- `TUN_SSRC[i].ACT`, bits 7:0, RW, reset TAB. -/
def TUN_SSRC_ACT (i : Nat) : Fld := ⟨32 * (0x400C4004 + 128 * i), 8⟩
/-- `TUN_KP[i].GAIN`, bits 31:0, RW, reset TAB. -/
def TUN_KP_GAIN (i : Nat) : Fld := ⟨32 * (0x400C4008 + 128 * i), 32⟩
/-- `TUN_KI[i].GAIN`, bits 31:0, RW, reset TAB. -/
def TUN_KI_GAIN (i : Nat) : Fld := ⟨32 * (0x400C400C + 128 * i), 32⟩
/-- `TUN_VKP[i].GAIN`, bits 31:0, RW, reset TAB. -/
def TUN_VKP_GAIN (i : Nat) : Fld := ⟨32 * (0x400C4044 + 128 * i), 32⟩
/-- `TUN_VKI[i].GAIN`, bits 31:0, RW, reset TAB. -/
def TUN_VKI_GAIN (i : Nat) : Fld := ⟨32 * (0x400C4048 + 128 * i), 32⟩
/-- `TUN_IMAX[i].LIMIT`, bits 31:0, RW, reset TAB. -/
def TUN_IMAX_LIMIT (i : Nat) : Fld := ⟨32 * (0x400C4010 + 128 * i), 32⟩
/-- `TUN_IMIN[i].LIMIT`, bits 31:0, RW, reset TAB. -/
def TUN_IMIN_LIMIT (i : Nat) : Fld := ⟨32 * (0x400C4014 + 128 * i), 32⟩
/-- `TUN_UMAX[i].LIMIT`, bits 31:0, RW, reset TAB. -/
def TUN_UMAX_LIMIT (i : Nat) : Fld := ⟨32 * (0x400C4018 + 128 * i), 32⟩
/-- `TUN_UMIN[i].LIMIT`, bits 31:0, RW, reset TAB. -/
def TUN_UMIN_LIMIT (i : Nat) : Fld := ⟨32 * (0x400C401C + 128 * i), 32⟩
/-- `TUN_RISE[i].RATE`, bits 31:0, RW, reset TAB. -/
def TUN_RISE_RATE (i : Nat) : Fld := ⟨32 * (0x400C4020 + 128 * i), 32⟩
/-- `TUN_FALL[i].RATE`, bits 31:0, RW, reset TAB. -/
def TUN_FALL_RATE (i : Nat) : Fld := ⟨32 * (0x400C4024 + 128 * i), 32⟩
/-- `TUN_MANOUT[i].OUT`, bits 31:0, RW, reset TAB. -/
def TUN_MANOUT_OUT (i : Nat) : Fld := ⟨32 * (0x400C4028 + 128 * i), 32⟩
/-- `TUN_SP[i].SP`, bits 31:0, RW, reset TAB. -/
def TUN_SP_SP (i : Nat) : Fld := ⟨32 * (0x400C402C + 128 * i), 32⟩
/-- `TUN_SPEFF[i].VALUE`, bits 31:0, RO, reset 0. -/
def TUN_SPEFF_VALUE (i : Nat) : Fld := ⟨32 * (0x400C4030 + 128 * i), 32⟩
/-- `TUN_PV[i].VALUE`, bits 31:0, RO, reset 0. -/
def TUN_PV_VALUE (i : Nat) : Fld := ⟨32 * (0x400C4034 + 128 * i), 32⟩
/-- `TUN_OUT[i].VALUE`, bits 31:0, RO, reset 0. -/
def TUN_OUT_VALUE (i : Nat) : Fld := ⟨32 * (0x400C4038 + 128 * i), 32⟩
/-- `TUN_INTEG[i].I`, bits 31:0, RO, reset 0. -/
def TUN_INTEG_I (i : Nat) : Fld := ⟨32 * (0x400C403C + 128 * i), 32⟩
/-- `TUN_VINTEG[i].I`, bits 31:0, RO, reset 0. -/
def TUN_VINTEG_I (i : Nat) : Fld := ⟨32 * (0x400C404C + 128 * i), 32⟩
/-- `TUN_SSTAT[i].STATE`, bits 31:28, RO, reset 0. -/
def TUN_SSTAT_STATE (i : Nat) : Fld := ⟨32 * (0x400C4040 + 128 * i) + 28, 4⟩
/-- `TUN_SSTAT[i].LAW`, bits 27:27, RO, reset 0. -/
def TUN_SSTAT_LAW (i : Nat) : Fld := ⟨32 * (0x400C4040 + 128 * i) + 27, 1⟩
/-- `TUN_SSTAT[i].SAT`, bits 26:26, RO, reset 0. -/
def TUN_SSTAT_SAT (i : Nat) : Fld := ⟨32 * (0x400C4040 + 128 * i) + 26, 1⟩
/-- `TUN_SSTAT[i].BUMP`, bits 25:25, RO, reset 0. -/
def TUN_SSTAT_BUMP (i : Nat) : Fld := ⟨32 * (0x400C4040 + 128 * i) + 25, 1⟩
/-- `TUN_SSTAT[i].POISON`, bits 24:24, RO, reset 0. -/
def TUN_SSTAT_POISON (i : Nat) : Fld := ⟨32 * (0x400C4040 + 128 * i) + 24, 1⟩
/-- `TUN_SSTAT[i].POISONCNT`, bits 23:16, RO, reset 0. -/
def TUN_SSTAT_POISONCNT (i : Nat) : Fld := ⟨32 * (0x400C4040 + 128 * i) + 16, 8⟩
/-- `TUN_SSTAT[i].LASTPER`, bits 15:0, RO, reset 0. -/
def TUN_SSTAT_LASTPER (i : Nat) : Fld := ⟨32 * (0x400C4040 + 128 * i), 16⟩
/-- `TUN_VSP[i].VSP`, bits 31:0, RO, reset 0. -/
def TUN_VSP_VSP (i : Nat) : Fld := ⟨32 * (0x400C4050 + 128 * i), 32⟩

end Sys2Proof.Machine.Reg
end

