-- ==== Sys2Proof/Machine/RegsSystem.lean ====
section
/-! DEFINITION. The fields of the system, event, pigeonhole, transaction, host-port, timebase, supply and flash registers: each field of each register heading of the spec's
register maps, at the block base of R47 plus the heading's offset (R8, R47). -/

namespace Sys2Proof.Machine.Reg

/-- `TB_STATUS.FAULT`, bits 27:16, RO, reset 0x000. -/
def TB_STATUS_FAULT : Fld := ⟨32 * (0x40050000) + 16, 12⟩
/-- `TB_STATUS.RUN`, bits 11:0, RO, reset 0xE01. -/
def TB_STATUS_RUN : Fld := ⟨32 * (0x40050000), 12⟩
/-- `TB_FAULTLATCH.LOST`, bits 11:0, W1C, reset 0x000. -/
def TB_FAULTLATCH_LOST : Fld := ⟨32 * (0x40050004), 12⟩
/-- `TB_TIME_LO.TIME`, bits 31:0, RO, reset 0. -/
def TB_TIME_LO_TIME : Fld := ⟨32 * (0x40050008), 32⟩
/-- `TB_TIME_HI.TIME`, bits 31:0, RO, reset 0. -/
def TB_TIME_HI_TIME : Fld := ⟨32 * (0x4005000C), 32⟩
/-- `TB_TB2CFG.SYNCOUT_EN`, bits 17:17, RWL COMMIT, reset TAB. -/
def TB_TB2CFG_SYNCOUT_EN : Fld := ⟨32 * (0x40050010) + 17, 1⟩
/-- `TB_TB2CFG.SRC`, bits 16:16, RWL COMMIT, reset TAB. -/
def TB_TB2CFG_SRC : Fld := ⟨32 * (0x40050010) + 16, 1⟩
/-- `TB_TB2CFG.PERIOD`, bits 6:0, RWL COMMIT, reset TAB. -/
def TB_TB2CFG_PERIOD : Fld := ⟨32 * (0x40050010), 7⟩
/-- `TB_TB2STAT.PHASE_ERR`, bits 31:16, RO, reset 0. -/
def TB_TB2STAT_PHASE_ERR : Fld := ⟨32 * (0x40050014) + 16, 16⟩
/-- `TB_TB2STAT.MISSED`, bits 7:4, RO, reset 0. -/
def TB_TB2STAT_MISSED : Fld := ⟨32 * (0x40050014) + 4, 4⟩
/-- `TB_TB2STAT.STATE`, bits 1:0, RO, reset 0. -/
def TB_TB2STAT_STATE : Fld := ⟨32 * (0x40050014), 2⟩
/-- `TB_PERIOD_LO.PERIOD_NUM`, bits 31:0, RO, reset 0. -/
def TB_PERIOD_LO_PERIOD_NUM : Fld := ⟨32 * (0x40050018), 32⟩
/-- `TB_PERIOD_HI.PERIOD_NUM`, bits 31:0, RO, reset 0. -/
def TB_PERIOD_HI_PERIOD_NUM : Fld := ⟨32 * (0x4005001C), 32⟩
/-- `TB_RTC_SEC.SEC`, bits 31:0, RW, reset 0. -/
def TB_RTC_SEC_SEC : Fld := ⟨32 * (0x40050020), 32⟩
/-- `TB_RTC_FRAC.TICKS`, bits 14:0, RO, reset 0. -/
def TB_RTC_FRAC_TICKS : Fld := ⟨32 * (0x40050024), 15⟩
/-- `TB_TB10_MEAS.FREQ`, bits 23:0, RO, reset 0. -/
def TB_TB10_MEAS_FREQ : Fld := ⟨32 * (0x40050028), 24⟩
/-- `TB_COMP.RTC_PPM`, bits 15:0, RO, reset 0. -/
def TB_COMP_RTC_PPM : Fld := ⟨32 * (0x4005002C), 16⟩
/-- `SYS_ID.PART`, bits 31:16, RO, reset 0x0640. -/
def SYS_ID_PART : Fld := ⟨32 * (0x40000000) + 16, 16⟩
/-- `SYS_ID.VARIANT`, bits 15:12, RO, reset Fixed. -/
def SYS_ID_VARIANT : Fld := ⟨32 * (0x40000000) + 12, 4⟩
/-- `SYS_ID.STEPPING`, bits 11:4, RO, reset 0xA1. -/
def SYS_ID_STEPPING : Fld := ⟨32 * (0x40000000) + 4, 8⟩
/-- `SYS_UID_LO.UID`, bits 31:0, RO, reset Fixed. -/
def SYS_UID_LO_UID : Fld := ⟨32 * (0x40000004), 32⟩
/-- `SYS_UID_HI.UID`, bits 31:0, RO, reset Fixed. -/
def SYS_UID_HI_UID : Fld := ⟨32 * (0x40000008), 32⟩
/-- `SYS_STATUS.TXNOPEN`, bits 6:6, RO, reset 0. -/
def SYS_STATUS_TXNOPEN : Fld := ⟨32 * (0x4000000C) + 6, 1⟩
/-- `SYS_STATUS.UNPERSISTED`, bits 5:5, RO, reset 0. -/
def SYS_STATUS_UNPERSISTED : Fld := ⟨32 * (0x4000000C) + 5, 1⟩
/-- `SYS_STATUS.CURTAIL`, bits 4:4, RO, reset 0. -/
def SYS_STATUS_CURTAIL : Fld := ⟨32 * (0x4000000C) + 4, 1⟩
/-- `SYS_STATUS.MODE`, bits 3:0, RO, reset 1. -/
def SYS_STATUS_MODE : Fld := ⟨32 * (0x4000000C), 4⟩
/-- `SYS_CMD.WARM`, bits 0:0, WO, reset 0. -/
def SYS_CMD_WARM : Fld := ⟨32 * (0x40000010), 1⟩
/-- `SYS_RESETCAUSE.KIND`, bits 31:29, RO, reset MRAM. -/
def SYS_RESETCAUSE_KIND : Fld := ⟨32 * (0x40000014) + 29, 3⟩
/-- `SYS_RESETCAUSE.STEWARD`, bits 28:26, RO, reset MRAM. -/
def SYS_RESETCAUSE_STEWARD : Fld := ⟨32 * (0x40000014) + 26, 3⟩
/-- `SYS_LIFECYCLE.TARGET`, bits 5:4, RW, reset 0. -/
def SYS_LIFECYCLE_TARGET : Fld := ⟨32 * (0x40000018) + 4, 2⟩
/-- `SYS_LIFECYCLE.STATE`, bits 1:0, RO, reset MRAM. -/
def SYS_LIFECYCLE_STATE : Fld := ⟨32 * (0x40000018), 2⟩
/-- `SYS_REFUSE.CODE`, bits 31:24, RO, reset 0. -/
def SYS_REFUSE_CODE : Fld := ⟨32 * (0x4000001C) + 24, 8⟩
/-- `SYS_REFUSE.ADDR`, bits 23:0, RO, reset 0. -/
def SYS_REFUSE_ADDR : Fld := ⟨32 * (0x4000001C), 24⟩
/-- `SYS_TAB.ACTIVE`, bits 31:31, RO, reset MRAM. -/
def SYS_TAB_ACTIVE : Fld := ⟨32 * (0x40000020) + 31, 1⟩
/-- `SYS_TAB.LOADED`, bits 30:30, RO, reset 0. -/
def SYS_TAB_LOADED : Fld := ⟨32 * (0x40000020) + 30, 1⟩
/-- `SYS_TAB.FALLBACK`, bits 29:29, RO, reset 0. -/
def SYS_TAB_FALLBACK : Fld := ⟨32 * (0x40000020) + 29, 1⟩
/-- `SYS_TAB.SIGNER`, bits 28:28, RO, reset 0. -/
def SYS_TAB_SIGNER : Fld := ⟨32 * (0x40000020) + 28, 1⟩
/-- `SYS_TAB.GEN`, bits 27:0, RO, reset 0. -/
def SYS_TAB_GEN : Fld := ⟨32 * (0x40000020), 28⟩
/-- `SYS_STNDIG[w].DATA`, bits 31:0, RO, reset TAB. -/
def SYS_STNDIG_DATA (w : Nat) : Fld := ⟨32 * (0x40000040 + 4 * w), 32⟩
/-- `TXN_BEGIN.HANDLE`, bits 15:0, RO, reset 0. -/
def TXN_BEGIN_HANDLE : Fld := ⟨32 * (0x40030000), 16⟩
/-- `TXN_COMMIT.PERSIST`, bits 31:31, WO, reset 0. -/
def TXN_COMMIT_PERSIST : Fld := ⟨32 * (0x40030004) + 31, 1⟩
/-- `TXN_COMMIT.HANDLE`, bits 15:0, WO, reset 0. -/
def TXN_COMMIT_HANDLE : Fld := ⟨32 * (0x40030004), 16⟩
/-- `TXN_ABORT.PERSIST`, bits 31:31, WO, reset 0. -/
def TXN_ABORT_PERSIST : Fld := ⟨32 * (0x40030008) + 31, 1⟩
/-- `TXN_ABORT.HANDLE`, bits 15:0, WO, reset 0. -/
def TXN_ABORT_HANDLE : Fld := ⟨32 * (0x40030008), 16⟩
/-- `TXN_STATUS.STATE`, bits 31:28, RO, reset 0. -/
def TXN_STATUS_STATE : Fld := ⟨32 * (0x4003000C) + 28, 4⟩
/-- `TXN_STATUS.CODE`, bits 27:24, RO, reset 0. -/
def TXN_STATUS_CODE : Fld := ⟨32 * (0x4003000C) + 24, 4⟩
/-- `TXN_STATUS.AGENT`, bits 23:20, RO, reset 0. -/
def TXN_STATUS_AGENT : Fld := ⟨32 * (0x4003000C) + 20, 4⟩
/-- `TXN_STATUS.HANDLE`, bits 15:0, RO, reset 0. -/
def TXN_STATUS_HANDLE : Fld := ⟨32 * (0x4003000C), 16⟩
/-- `TXN_TIMEOUT.TIMEOUT`, bits 9:0, RW, reset TAB. -/
def TXN_TIMEOUT_TIMEOUT : Fld := ⟨32 * (0x40030010), 10⟩
/-- `TXN_ERRADDR.VALUE`, bits 31:0, RO, reset 0. -/
def TXN_ERRADDR_VALUE : Fld := ⟨32 * (0x40030014), 32⟩
/-- `TXN_APPLY.VALUE`, bits 31:0, RO, reset 0. -/
def TXN_APPLY_VALUE : Fld := ⟨32 * (0x40030018), 32⟩
/-- `TXN_PHASE.PSTATE`, bits 31:29, RO, reset 0. -/
def TXN_PHASE_PSTATE : Fld := ⟨32 * (0x4003001C) + 29, 3⟩
/-- `TXN_PHASE.FSTATE`, bits 28:26, RO, reset 0. -/
def TXN_PHASE_FSTATE : Fld := ⟨32 * (0x4003001C) + 26, 3⟩
/-- `TXN_PHASE.PEER`, bits 25:21, RO, reset 0. -/
def TXN_PHASE_PEER : Fld := ⟨32 * (0x4003001C) + 21, 5⟩
/-- `PGH_PEND.PEND`, bits 31:0, RO, reset 0. -/
def PGH_PEND_PEND : Fld := ⟨32 * (0x40020000), 32⟩
/-- `PGH_OP.OP`, bits 31:29, WO, reset 0. -/
def PGH_OP_OP : Fld := ⟨32 * (0x40020004) + 29, 3⟩
/-- `PGH_OP.H`, bits 28:24, WO, reset 0. -/
def PGH_OP_H : Fld := ⟨32 * (0x40020004) + 24, 5⟩
/-- `PGH_OP.ARG`, bits 15:0, WO, reset 0. -/
def PGH_OP_ARG : Fld := ⟨32 * (0x40020004), 16⟩
/-- `PGH_RESULT.CODE`, bits 2:0, RO, reset 0. -/
def PGH_RESULT_CODE : Fld := ⟨32 * (0x40020008), 3⟩
/-- `PGH_STAGE[w].DATA`, bits 31:0, RW, reset 0. -/
def PGH_STAGE_DATA (w : Nat) : Fld := ⟨32 * (0x40020100 + 4 * w), 32⟩
/-- `PGH_CFG[h].RCV`, bits 3:0, RWL COMMIT, reset TAB. -/
def PGH_CFG_RCV (h : Nat) : Fld := ⟨32 * (0x40020200 + 16 * h), 4⟩
/-- `PGH_STAT[h].STATE`, bits 31:30, RO, reset 0. -/
def PGH_STAT_STATE (h : Nat) : Fld := ⟨32 * (0x40020204 + 16 * h) + 30, 2⟩
/-- `PGH_STAT[h].STALE`, bits 29:29, RO, reset 0. -/
def PGH_STAT_STALE (h : Nat) : Fld := ⟨32 * (0x40020204 + 16 * h) + 29, 1⟩
/-- `PGH_STAT[h].RCV_EPOCH_CHANGED`, bits 28:28, RO, reset 0. -/
def PGH_STAT_RCV_EPOCH_CHANGED (h : Nat) : Fld := ⟨32 * (0x40020204 + 16 * h) + 28, 1⟩
/-- `PGH_STAT[h].SNDAGENT`, bits 27:24, RO, reset 0. -/
def PGH_STAT_SNDAGENT (h : Nat) : Fld := ⟨32 * (0x40020204 + 16 * h) + 24, 4⟩
/-- `PGH_STAT[h].SNDADDR`, bits 23:19, RO, reset 0. -/
def PGH_STAT_SNDADDR (h : Nat) : Fld := ⟨32 * (0x40020204 + 16 * h) + 19, 5⟩
/-- `PGH_STAT[h].LEN`, bits 8:0, RO, reset 0. -/
def PGH_STAT_LEN (h : Nat) : Fld := ⟨32 * (0x40020204 + 16 * h), 9⟩
/-- `PGH_EPOCH[h].SND`, bits 31:16, RO, reset 0. -/
def PGH_EPOCH_SND (h : Nat) : Fld := ⟨32 * (0x40020208 + 16 * h) + 16, 16⟩
/-- `PGH_EPOCH[h].RCV`, bits 15:0, RO, reset 0. -/
def PGH_EPOCH_RCV (h : Nat) : Fld := ⟨32 * (0x40020208 + 16 * h), 16⟩
/-- `PGH_ACKCODE[h].CODE`, bits 15:0, RO, reset 0. -/
def PGH_ACKCODE_CODE (h : Nat) : Fld := ⟨32 * (0x4002020C + 16 * h), 16⟩
/-- `PGH_DATA[h][w].DATA`, bits 31:0, RO, reset 0. -/
def PGH_DATA_DATA (h w : Nat) : Fld := ⟨32 * (0x40021000 + 256 * h + 4 * w), 32⟩
/-- `EVT_RAW[k].BITS`, bits 31:0, W1C, reset 0. -/
def EVT_RAW_BITS (k : Nat) : Fld := ⟨32 * (0x40010000 + 4 * k), 32⟩
/-- `EVT_MASK[k].BITS`, bits 31:0, RW, reset TAB. -/
def EVT_MASK_BITS (k : Nat) : Fld := ⟨32 * (0x40010010 + 4 * k), 32⟩
/-- `EVT_ALERT.LINES`, bits 3:0, RO, reset 0. -/
def EVT_ALERT_LINES : Fld := ⟨32 * (0x40010020), 4⟩
/-- `EVT_MISC.BELLMISS`, bits 31:16, RO, reset 0. -/
def EVT_MISC_BELLMISS : Fld := ⟨32 * (0x40010024) + 16, 16⟩
/-- `EVT_MISC.NADDR`, bits 12:8, RO, reset 0. -/
def EVT_MISC_NADDR : Fld := ⟨32 * (0x40010024) + 8, 5⟩
/-- `EVT_MISC.NEVENT`, bits 6:0, RO, reset 0. -/
def EVT_MISC_NEVENT : Fld := ⟨32 * (0x40010024), 7⟩
/-- `EVT_GBHEAD.VALUE`, bits 31:0, RO, reset MRAM. -/
def EVT_GBHEAD_VALUE : Fld := ⟨32 * (0x40010030), 32⟩
/-- `EVT_GBSEL.VALUE`, bits 31:0, RW, reset 0. -/
def EVT_GBSEL_VALUE : Fld := ⟨32 * (0x40010034), 32⟩
/-- `EVT_GBDATA[w].DATA`, bits 31:0, RO, reset MRAM. -/
def EVT_GBDATA_DATA (w : Nat) : Fld := ⟨32 * (0x40010040 + 4 * w), 32⟩
/-- `EVT_ROUTE[e].NOTIFY`, bits 15:15, RW, reset TAB. -/
def EVT_ROUTE_NOTIFY (e : Nat) : Fld := ⟨32 * (0x40010100 + 4 * e) + 15, 1⟩
/-- `EVT_ROUTE[e].NADDR`, bits 14:10, RW, reset TAB. -/
def EVT_ROUTE_NADDR (e : Nat) : Fld := ⟨32 * (0x40010100 + 4 * e) + 10, 5⟩
/-- `EVT_ROUTE[e].BELL`, bits 9:9, RW, reset TAB. -/
def EVT_ROUTE_BELL (e : Nat) : Fld := ⟨32 * (0x40010100 + 4 * e) + 9, 1⟩
/-- `EVT_ROUTE[e].BELLPGH`, bits 8:4, RW, reset TAB. -/
def EVT_ROUTE_BELLPGH (e : Nat) : Fld := ⟨32 * (0x40010100 + 4 * e) + 4, 5⟩
/-- `EVT_ROUTE[e].ALERT`, bits 3:0, RW, reset TAB. -/
def EVT_ROUTE_ALERT (e : Nat) : Fld := ⟨32 * (0x40010100 + 4 * e), 4⟩
/-- `HST_PORTCFG[p].EN`, bits 31:31, RW, reset TAB. -/
def HST_PORTCFG_EN (p : Nat) : Fld := ⟨32 * (0x401C0000 + 16 * p) + 31, 1⟩
/-- `HST_PORTCFG[p].PREFIX`, bits 21:16, RW, reset TAB. -/
def HST_PORTCFG_PREFIX (p : Nat) : Fld := ⟨32 * (0x401C0000 + 16 * p) + 16, 6⟩
/-- `HST_PORTCFG[p].UDPPORT`, bits 15:0, RW, reset TAB. -/
def HST_PORTCFG_UDPPORT (p : Nat) : Fld := ⟨32 * (0x401C0000 + 16 * p), 16⟩
/-- `HST_IP[p].ADDR`, bits 31:0, RW, reset TAB. -/
def HST_IP_ADDR (p : Nat) : Fld := ⟨32 * (0x401C0004 + 16 * p), 32⟩
/-- `HST_NOTIFY[p].ADDR`, bits 31:0, RW, reset TAB. -/
def HST_NOTIFY_ADDR (p : Nat) : Fld := ⟨32 * (0x401C0008 + 16 * p), 32⟩
/-- `HST_STAT[p].LINK`, bits 31:31, RO, reset 0. -/
def HST_STAT_LINK (p : Nat) : Fld := ⟨32 * (0x401C000C + 16 * p) + 31, 1⟩
/-- `HST_STAT[p].SPEED`, bits 30:30, RO, reset 0. -/
def HST_STAT_SPEED (p : Nat) : Fld := ⟨32 * (0x401C000C + 16 * p) + 30, 1⟩
/-- `HST_STAT[p].FORMAT`, bits 15:8, RO, reset 0. -/
def HST_STAT_FORMAT (p : Nat) : Fld := ⟨32 * (0x401C000C + 16 * p) + 8, 8⟩
/-- `HST_STAT[p].DENIED`, bits 7:0, RO, reset 0. -/
def HST_STAT_DENIED (p : Nat) : Fld := ⟨32 * (0x401C000C + 16 * p), 8⟩
/-- `HST_EPOCH[p].EPOCH`, bits 15:0, RW, reset 0. -/
def HST_EPOCH_EPOCH (p : Nat) : Fld := ⟨32 * (0x401C0040 + 4 * p), 16⟩
/-- `HST_ALLOW[i].ADDR`, bits 31:0, RW, reset TAB. -/
def HST_ALLOW_ADDR (i : Nat) : Fld := ⟨32 * (0x401C0080 + 4 * i), 32⟩
/-- `PWR_STATUS.RAILFLT`, bits 5:3, RO, reset 0. -/
def PWR_STATUS_RAILFLT : Fld := ⟨32 * (0x401D0000) + 3, 3⟩
/-- `PWR_STATUS.INRUSH`, bits 2:2, RO, reset 0. -/
def PWR_STATUS_INRUSH : Fld := ⟨32 * (0x401D0000) + 2, 1⟩
/-- `PWR_STATUS.RANGE`, bits 1:1, RO, reset 0. -/
def PWR_STATUS_RANGE : Fld := ⟨32 * (0x401D0000) + 1, 1⟩
/-- `PWR_STATUS.PGOOD`, bits 0:0, RO, reset 0. -/
def PWR_STATUS_PGOOD : Fld := ⟨32 * (0x401D0000), 1⟩
/-- `PWR_VSUP.MIN`, bits 31:16, RO, reset 0. -/
def PWR_VSUP_MIN : Fld := ⟨32 * (0x401D0004) + 16, 16⟩
/-- `PWR_VSUP.VSUP`, bits 15:0, RO, reset 0. -/
def PWR_VSUP_VSUP : Fld := ⟨32 * (0x401D0004), 16⟩
/-- `PWR_RAIL.V5`, bits 31:24, RO, reset 0. -/
def PWR_RAIL_V5 : Fld := ⟨32 * (0x401D0008) + 24, 8⟩
/-- `PWR_RAIL.V33`, bits 23:16, RO, reset 0. -/
def PWR_RAIL_V33 : Fld := ⟨32 * (0x401D0008) + 16, 8⟩
/-- `PWR_RAIL.V18`, bits 15:8, RO, reset 0. -/
def PWR_RAIL_V18 : Fld := ⟨32 * (0x401D0008) + 8, 8⟩
/-- `PWR_RAIL.VCORE`, bits 7:0, RO, reset 0. -/
def PWR_RAIL_VCORE : Fld := ⟨32 * (0x401D0008), 8⟩
/-- `PWR_HOLDUP.STATE`, bits 31:30, RO, reset 0. -/
def PWR_HOLDUP_STATE : Fld := ⟨32 * (0x401D000C) + 30, 2⟩
/-- `PWR_HOLDUP.CAP`, bits 15:0, RO, reset 0. -/
def PWR_HOLDUP_CAP : Fld := ⟨32 * (0x401D000C), 16⟩
/-- `PWR_EVCAUSE.CAUSE`, bits 7:0, W1C, reset 0. -/
def PWR_EVCAUSE_CAUSE : Fld := ⟨32 * (0x401D0010), 8⟩
/-- `NVM_CMD.OP`, bits 31:28, WO, reset 0. -/
def NVM_CMD_OP : Fld := ⟨32 * (0x401E0000) + 28, 4⟩
/-- `NVM_CMD.COPY`, bits 27:27, WO, reset 0. -/
def NVM_CMD_COPY : Fld := ⟨32 * (0x401E0000) + 27, 1⟩
/-- `NVM_ADDR.VALUE`, bits 31:0, RW, reset 0. -/
def NVM_ADDR_VALUE : Fld := ⟨32 * (0x401E0004), 32⟩
/-- `NVM_SRC.VALUE`, bits 31:0, RW, reset 0. -/
def NVM_SRC_VALUE : Fld := ⟨32 * (0x401E0008), 32⟩
/-- `NVM_LEN.VALUE`, bits 31:0, RW, reset 0. -/
def NVM_LEN_VALUE : Fld := ⟨32 * (0x401E000C), 32⟩
/-- `NVM_STATUS.STATE`, bits 31:30, RO, reset 0. -/
def NVM_STATUS_STATE : Fld := ⟨32 * (0x401E0010) + 30, 2⟩
/-- `NVM_STATUS.RESULT`, bits 29:26, RO, reset 0. -/
def NVM_STATUS_RESULT : Fld := ⟨32 * (0x401E0010) + 26, 4⟩
/-- `NVM_STATUS.HOLD`, bits 25:25, RO, reset 0. -/
def NVM_STATUS_HOLD : Fld := ⟨32 * (0x401E0010) + 25, 1⟩
/-- `NVM_STATUS.VALIDA`, bits 24:24, RO, reset 0. -/
def NVM_STATUS_VALIDA : Fld := ⟨32 * (0x401E0010) + 24, 1⟩
/-- `NVM_STATUS.VALIDB`, bits 23:23, RO, reset 0. -/
def NVM_STATUS_VALIDB : Fld := ⟨32 * (0x401E0010) + 23, 1⟩
/-- `NVM_INFO.MODE`, bits 31:30, RO, reset 0. -/
def NVM_INFO_MODE : Fld := ⟨32 * (0x401E0014) + 30, 2⟩
/-- `NVM_INFO.SIZE`, bits 15:0, RO, reset 0. -/
def NVM_INFO_SIZE : Fld := ⟨32 * (0x401E0014), 16⟩
/-- `NVM_PUBSEL.LEN`, bits 31:16, RO, reset 0. -/
def NVM_PUBSEL_LEN : Fld := ⟨32 * (0x401E0020) + 16, 16⟩
/-- `NVM_PUBSEL.KEY`, bits 2:0, RW, reset 0. -/
def NVM_PUBSEL_KEY : Fld := ⟨32 * (0x401E0020), 3⟩
/-- `NVM_PUBDATA[w].DATA`, bits 31:0, RO, reset 0. -/
def NVM_PUBDATA_DATA (w : Nat) : Fld := ⟨32 * (0x401E0040 + 4 * w), 32⟩

end Sys2Proof.Machine.Reg
end

