-- ==== Sys2Proof/Machine/RegReset.lean ====
section
/-! DEFINITION. The register fields whose power-on value is not zero, by key (R13): the Reset columns of the register
maps. -/

namespace Sys2Proof.Machine

/-- Power-on values, part 1. -/
def porPart1 : List (Nat × Nat) := [
  (34359738372, 161),
  (34359738380, 2),
  (34359738384, 1600),
  (34359738752, 1),
  (34368135198, 2),
  (34368135326, 2),
  (34368135454, 2),
  (34368135582, 2),
  (34368135710, 2),
  (34368135838, 2),
  (34368135966, 2),
  (34368136094, 2),
  (34368136222, 2),
  (34368136350, 2),
  (34368136478, 2),
  (34368136606, 2),
  (34368136734, 2),
  (34368136862, 2),
  (34368136990, 2),
  (34368137118, 2),
  (34368137246, 2),
  (34368137374, 2),
  (34368137502, 2),
  (34368137630, 2)]

/-- Power-on values, part 2. -/
def porPart2 : List (Nat × Nat) := [
  (34368137758, 2),
  (34368137886, 2),
  (34368138014, 2),
  (34368138142, 2),
  (34368138270, 2),
  (34368138398, 2),
  (34368138526, 2),
  (34368138654, 2),
  (34368138782, 2),
  (34368138910, 2),
  (34368139038, 2),
  (34368139166, 2),
  (34368139294, 2),
  (34368139422, 2),
  (34368139550, 2),
  (34368139678, 2),
  (34368139806, 2),
  (34368139934, 2),
  (34368140062, 2),
  (34368140190, 2),
  (34368140318, 2),
  (34368140446, 2),
  (34368140574, 2),
  (34368140702, 2)]

/-- Power-on values, part 3. -/
def porPart3 : List (Nat × Nat) := [
  (34368140830, 2),
  (34368140958, 2),
  (34368141086, 2),
  (34368141214, 2),
  (34368141342, 2),
  (34368141470, 2),
  (34368141598, 2),
  (34368141726, 2),
  (34368141854, 2),
  (34368141982, 2),
  (34368142110, 2),
  (34368142238, 2),
  (34368142366, 2),
  (34368142494, 2),
  (34368142622, 2),
  (34368142750, 2),
  (34368142878, 2),
  (34368143006, 2),
  (34368143134, 2),
  (34368143262, 2),
  (34370224128, 3585),
  (34372321408, 1024),
  (34372321438, 1),
  (34372321664, 5)]

/-- Power-on values, part 4. -/
def porPart4 : List (Nat × Nat) := [
  (34372321672, 125),
  (34372321680, 115),
  (34372321688, 105),
  (34376523776, 31),
  (34376523904, 31),
  (34376524032, 31),
  (34376524160, 31),
  (34376524288, 31),
  (34376524416, 31),
  (34376524544, 31),
  (34376524672, 31),
  (34376524800, 31),
  (34376524928, 31),
  (34376525056, 31),
  (34376525184, 31),
  (34376525312, 31),
  (34376525440, 31),
  (34376525568, 31),
  (34376525696, 31),
  (34378616976, 40),
  (34384904714, 1200),
  (34384904726, 4),
  (34384904832, 1000),
  (34384904848, 5000)]

/-- Power-on values, part 5. -/
def porPart5 : List (Nat × Nat) := [
  (34384904960, 10),
  (34384904976, 500),
  (34384908288, 1),
  (34384908304, 10),
  (34384908416, 1),
  (34384908672, 16),
  (34384908680, 8),
  (34393293086, 1),
  (34393424139, 31),
  (34393432331, 31),
  (34393440523, 31),
  (34393448715, 31),
  (34393456907, 31),
  (34393465099, 31),
  (34393473291, 31),
  (34393481483, 31),
  (34393489675, 31),
  (34393497867, 31),
  (34393506059, 31),
  (34393514251, 31),
  (34393522443, 31),
  (34393530635, 31),
  (34393538827, 31),
  (34393547019, 31)]

/-- Power-on values, part 6. -/
def porPart6 : List (Nat × Nat) := [
  (34401681438, 1),
  (34412167448, 1)]

/-- Every nonzero power-on value. -/
def porRegs : List (Nat × Nat) :=
  porPart1 ++ porPart2 ++ porPart3 ++ porPart4 ++ porPart5 ++ porPart6

end Sys2Proof.Machine
end

