-- ==== Sys2Proof/Machine/State.lean ====
section
/-! DEFINITION. The state of the device as plain data: every register field by key, every context the spec names beside
the registers, the faults and refusals, and the machine right after a power-on reset. -/

namespace Sys2Proof.Machine

/-- The twelve modes of R54. -/
inductive Mode where
  | off | boot | selftest | commission | standby | idle | serve | island | safeHold | thermal | recovery | lastGasp
deriving DecidableEq, Repr

/-- A TIES entry (R557): the auxiliary channel, the feedback source and where it lies. -/
structure TieCfg where
  tie : Nat := 0
  chan : Nat := 0
  can : Bool := false
  line : Nat := 0
  canId : Nat := 0
  bit : Nat := 0
  polarity : Nat := 0
deriving DecidableEq, Repr

/-- A SAFECONN entry (R557): connection, carrier index, address or identifier, UDP port. -/
structure ConnPeer where
  conn : Nat := 0
  carrier : Nat := 0
  addr : Nat := 0
  udp : Nat := 0
deriving DecidableEq, Repr

/-- A CANMAP entry (R557, R165). -/
structure CanMap where
  role : Nat := 0
  port : Nat := 0
  width : Nat := 1
  big : Bool := false
  signed : Bool := false
  id : Nat := 0
  offset : Nat := 0
  scale : Nat := 0
deriving DecidableEq, Repr

/-- The sections of the loaded TAB image that are not register records (R557): site CA key, ties, safe-connection peers, CAN
map, auxiliary boot policy and the key that signed it. The trusted roots stand in `Dev.roots`. -/
structure TabCtx where
  siteCa : List Byte := []
  ties : List TieCfg := []
  conns : List ConnPeer := []
  canMap : List CanMap := []
  auxBoot : List Nat := []
  signKey : List Byte := []
  loaded : Bool := false
deriving DecidableEq, Repr

/-- What the Purse keeps of the site (R163 to R173, R655 to R657). Energies as counts of the Tally, in mWh. -/
structure PurseCtx where
  planned : Bool := false
  planTime : Nat := 0
  planSec : Nat := 0
  budget : Nat := 0
  /-- What limited the site budget of the plan: the window, the import limit, the floors imposed (R164, R168). -/
  planWin : Bool := false
  planImport : Bool := false
  floorsUp : Bool := false
  /-- Counts at the last plan, and this station's figures of the last plan interval (R655, R169). -/
  feedAt : List Nat := []
  drawAt : Int := 0
  feedPlan : List Nat := []
  drawPlan : Int := 0
  lastLen : Nat := 0
  feedShare : List Nat := []
  /-- The present demand window, the counts at its start by feed, and the feeds whose count stands there (R656). -/
  winStart : Nat := 0
  winAt : Tbl Nat := []
  winOn : Nat := 0
  offerW : Nat := 0
  offerTime : Option Nat := none
  /-- Posts of the previous round; the last post of each station; this station's share, its cap and its headroom. -/
  posts : List Post := []
  lastPosts : Tbl Post := []
  share : Nat := 0
  capShare : Bool := false
  headroom : Nat := 0
  setDigest : Nat := 0
  request : Nat := 0
  /-- Canary: time of the last rail raise and of the last rail lowering (R25). -/
  raised : Option Nat := none
  lowered : Option Nat := none
  /-- Work powered down for the device budget, newest first (R174): kind 1 bank, 2 PLC, 3 T1S, and its number; 4 rail. -/
  shedWork : List (Nat × Nat) := []
  /-- Output energy of the strings of each feed in pJ, since the last plan and over the interval before it (R166, R172). -/
  feedOut : List Int := []
  feedOutPlan : List Int := []
  /-- Back from Island, the station waits for the first complete posted set (R173). -/
  waitSet : Bool := false
deriving DecidableEq, Repr

/-- An open transaction (R565 to R568): the owner, the handle, device time of its begin, shadows by field key. -/
structure Txn where
  agent : Nat := 0
  handle : Nat := 0
  begun : Nat := 0
  writes : Tbl (Option Nat) := []
  lockHit : Option Nat := none
deriving DecidableEq, Repr

/-- A commit that waits for its round boundary (R567, R570). -/
structure Sched where
  round : Nat := 0
  handle : Nat := 0
  agent : Nat := 0
  persist : Bool := false
  writes : Tbl (Option Nat) := []
deriving DecidableEq, Repr

/-- A fabric prepare, own or held for a peer (R571). -/
structure Prepare where
  station : Nat := 0
  sched : Sched := {}
  answered : List Nat := []
  awaited : List Nat := []
deriving DecidableEq, Repr

/-- A Guestbook entry (R587). -/
structure GbEntry where
  time : Nat := 0
  rtc : Nat := 0
  period : Nat := 0
  mode : Nat := 0
  event : Nat := 0
  cause : Nat := 0
  detail : Nat := 0
  repeats : Nat := 0
deriving DecidableEq, Repr

/-- A reply kept for 1 s (R576). -/
structure KeptReply where
  port : Nat := 0
  src : Nat := 0
  udp : Nat := 0
  tag : Nat := 0
  time : Nat := 0
  /-- The datagram as it was sent. -/
  bytes : List Byte := []
deriving DecidableEq, Repr

/-- A CAN port: the host FIFO, the device's own pending frames, and the pending host frame (R614 to R617). -/
structure CanPort where
  fifo : List CanFrame := []
  own : List CanFrame := []
  host : Option CanFrame := none
deriving DecidableEq, Repr

/-- A flash operation in progress (R621). -/
structure NvmOp where
  op : Nat := 0
  copy : Nat := 0
  addr : Nat := 0
  src : Nat := 0
  len : Nat := 0
deriving DecidableEq, Repr

/-- What the device puts on its links and answers, as the last command left it. -/
inductive Msg where
  /-- The answer to a host access: 0 OK, 1 ACCESS, 2 REFUSED with a code; and the words read. -/
  | answer (status code : Nat) (words : List Nat)
  /-- A datagram of the host protocol on an Ethernet port, a reply or a NOTIFY, byte by byte (R15, R574). -/
  | udp (port : Nat) (bytes : List Byte)
  /-- A frame, an ARP or an ICMP reply on an Ethernet port (R573). -/
  | ether (port kind : Nat) (data : List Byte)
  | spi (words : List Nat)
  /-- A wake of a local agent (R580). -/
  | wake (agent : Nat)
  /-- A fabric frame: destination, type (R499), body. -/
  | fabric (dst typ : Nat) (body : List Nat)
  /-- A fabric frame on a port: one passed on, or a link acknowledgement (type 0) of a SEQ. -/
  | fabLink (port : Nat) (frame : FabFrame)
  /-- A message to the duplex partner: type and body. -/
  | twin (typ : Nat) (body : List Nat)
  /-- The keyholder's snapshot for a rejoin, to the duplex partner (R495). -/
  | snapshot (x : Snapshot)
  | down (string : Nat) (frame : DownFrame)
  | abortGap (string : Nat)
  /-- A vehicle-link message of an outlet: kind and fields. -/
  | vehicle (outlet kind : Nat) (fields : List Nat)
  /-- The same on the PLC of a CCS outlet, with its channel access priority (R327). -/
  | plc (outlet priority kind : Nat) (fields : List Nat)
  /-- The injection of an outlet's insulation monitor starts a cycle or stops (R287, R292). -/
  | inject (outlet : Nat) (on : Bool)
  | safeFrame (conn : Nat) (bytes : List Byte)
  | can (port : Nat) (frame : CanFrame)
  /-- A pulse of KEY_OUT, a period edge of SYNC_OUT, a metering pulse. -/
  | keyPulse
  | syncOut
  | pulse (k : Nat) (level : Bool)
  | jtag (word : Nat)
deriving DecidableEq, Repr

/-- Telemetry sums of an outlet's window and the peaks to be seeded (R228 to R230). -/
structure OutTel where
  sums : List Int := []
  n : Nat := 0
  seeds : Nat := 255
deriving DecidableEq, Repr

/-- A bow sweep (R267 to R272): generator and capture. -/
structure BowCtx where
  on : Bool := false
  slot : Nat := 0
  lfsr : Nat := 0
  chip : Nat := 0
  bits : Nat := 0
  phase : Nat := 0
  evals : Nat := 0
  done : Bool := false
  full : Bool := false
  stop : Bool := false
  /-- A start waits for the next round boundary (R262, R267). -/
  want : Bool := false
  bank : Nat := 0
  /-- A capture bank is held (R271). -/
  held : Bool := false
  /-- A BLOCK demand since the sweep began (R272). -/
  block : Bool := false
deriving DecidableEq, Repr

/-- A pluck test (R261 to R266): the relay and its cycles. Times in ns of device time, measurements in error units. -/
structure PluckCtx where
  /-- A start waits for the next round boundary (R262). -/
  want : Bool := false
  on : Bool := false
  slot : Nat := 0
  startAt : Nat := 0
  wasManual : Bool := false
  first : Bool := true
  high : Bool := false
  started : Bool := false
  cycleAt : Nat := 0
  maxY : Int := 0
  minY : Int := 0
  lens : List Nat := []
  halves : List Int := []
  exceeded : Bool := false
  poisoned : Bool := false
  stop : Bool := false
  /-- A BLOCK demand since the test began (R265). -/
  block : Bool := false
  modeAt : Nat := 0
  /-- The slot's outlet was connected when the test began (R265). -/
  connAt : Bool := false
  /-- Since the test began: a connection was detected on the slot's outlet; the mode changed (R265). -/
  connHit : Bool := false
  modeHit : Bool := false
deriving DecidableEq, Repr

/-- A metering channel beside its registers (R399, R400): segment in force, squares of the last 160 samples and the
three values before the present one, newest first; samples since Boot modulo 8. -/
structure ChanCtx where
  seg : Nat := 0
  sq : List Nat := []
  hist : List Int := []
  n : Nat := 0
deriving DecidableEq, Repr

/-- A metering scope beside its registers (R398, R406, R420, R421). Residuals and interval energies in 2⁻³² mWh, sample
powers in µW × 2³², newest first. -/
structure ScopeCtx where
  impRes : Nat := 0
  expRes : Nat := 0
  powers : List Int := []
  flags : Nat := 0
  tail : Nat := 0
  prevImp : Nat := 0
  prevExp : Nat := 0
  prevPeer : Bool := false
  dImp : Nat := 0
  dExp : Nat := 0
  ownImp : Nat := 0
  ownExp : Nat := 0
deriving DecidableEq, Repr

/-- A pulse output (R413, R414): energy × CONST in 2⁻³² mWh, its level, and the high time of its pulse in ns. -/
structure PulseCtx where
  acc : Nat := 0
  high : Bool := false
  width : Nat := 0
deriving DecidableEq, Repr

/-- A metering record in the MRAM queue (R419, R422): its first 136 bytes and, once signed, its signature. -/
structure MeterRec where
  seq : Nat := 0
  body : List Byte := []
  sig : Option (List Byte) := none
deriving DecidableEq, Repr

/-- A live session as the journal keeps it (R426): outlet, whether it takes records, OUT_SESSNUM, EVCCID, start totals. -/
structure LiveSess where
  outlet : Nat := 0
  recording : Bool := false
  sessnum : Nat := 0
  evccid : Nat := 0
  startImp : Nat := 0
  startExp : Nat := 0
deriving DecidableEq, Repr

/-- The content of a journal slot (R426). `good`: its CRC-32 verifies; `exact`: written by step 1 of Last gasp. -/
structure Journal where
  seq : Nat := 0
  good : Bool := false
  exact : Bool := false
  scopes : List (Nat × Nat × Nat × Nat) := []
  latchnum : Nat := 0
  recSeq : Nat := 0
  cycles : Nat := 0
  live : List LiveSess := []
  unsigned : List MeterRec := []
  time : Nat := 0
  rtc : Nat := 0
  ticks : Nat := 0
deriving DecidableEq, Repr

/-- The Tally beside its registers (R395 to R430). `zcPhase` counts nominal cycles in 1/800 cycle; `cycles` the counted
cycles since the last cycle latch; `lineNs` the last measured cycle of the reference. -/
structure TallyCtx where
  chans : Tbl ChanCtx := []
  ownChans : Tbl ChanCtx := []
  /-- The last eight current samples of each outlet, newest first (R364). -/
  curs : Tbl (List Int) := []
  scopes : Tbl ScopeCtx := []
  pulses : Tbl PulseCtx := []
  zcRun : Nat := 0
  zcPhase : Nat := 0
  zcPos : Bool := false
  zcSeen : Bool := false
  lineNs : Nat := 0
  halfNs : Nat := 0
  cycles : Nat := 0
  hostLatch : Bool := false
  recSeq : Nat := 0
  recs : List MeterRec := []
  resv : Tbl Nat := []
  live : List LiveSess := []
  slotA : Journal := {}
  slotB : Journal := {}
  slotNext : Bool := false
  /-- The calibration, or the journal, was lost in both copies (R548). -/
  calLost : Bool := false
  /-- The partner of a duplex station carries on the sessions of the last stop (R80, R429). -/
  continued : Bool := false
  journalLost : Bool := false
deriving DecidableEq, Repr

/-- An identity slot of the Strongbox (R349, R350): its secret and curve, and the installed chain. -/
structure IdSlot where
  key : Option (List Byte) := none
  curve : Nat := 0
  chain : Option (List Byte) := none
deriving DecidableEq, Repr

/-- The Strongbox (R546): the secret of the meter key (R100), of the fabric device key (R503), and the identity slots (R349). -/
structure Strongbox where
  meter : Option (List Byte) := none
  fabric : Option (List Byte) := none
  ids : Tbl IdSlot := []
deriving DecidableEq, Repr

/-- One SLAC run (R337 to R341): its RunID, the outlets that answered it, when it began and ended as counts of SLAC
commands, and its winner. -/
structure SlacRun where
  id : Nat := 0
  answered : List Nat := []
  start : Nat := 0
  stop : Option Nat := none
  winner : Option Nat := none
deriving DecidableEq, Repr

/-- One outlet's vehicle link beside its registers. `hist`: the last 3,072 unblanked samples, newest first (R332);
`after`: samples still to be blanked; `blankSec`: blanked samples of this second (R335); `tries`: retransmissions of the
frame in flight (R328); `req`: the request bytes of a relay, and whether it waits for its pigeonhole (R354). -/
structure LinkCtx where
  hist : List Int := []
  after : Nat := 0
  blankSec : Nat := 0
  tries : Nat := 0
  nmk : Nat := 0
  req : List Byte := []
  waits : Bool := false
deriving DecidableEq, Repr

/-- The vehicle links beside their registers: runs, the beacon's distance from its place in µs, good half-cycles (R331),
outlets whose front end failed Selftest (EV103), and the day of the last EV101 (R588). -/
structure LinksCtx where
  links : Tbl LinkCtx := []
  runs : List SlacRun := []
  slacCount : Nat := 0
  beaconErr : Int := 0
  beaconGood : Nat := 0
  /-- Positive-going crossings since the last beacon (R329). -/
  beaconPos : Nat := 0
  plcFail : Nat := 0
  lastDay : Option Nat := none
deriving DecidableEq, Repr

/-- Heat beside its registers (R359, R382 to R391): flow edges of the last four 250 ms per GPIO line; the last conversion
and consecutive good ones; readings of the present 100 ms and of the twenty before it, newest first, as sums and counts;
the throttle fraction in 1/10,240,000; the start of a Recovery dwell; a trip during Last gasp. -/
structure ThermCtx where
  cables : Tbl CableCtx := []
  edges : Tbl (List Nat) := []
  lastConv : Option Int := none
  goodRun : Nat := 0
  sum : Int := 0
  n : Nat := 0
  blocks : List (Int × Nat) := []
  frac : Nat := 10240000
  dwellStart : Option Nat := none
  gaspTrip : Bool := false
deriving DecidableEq, Repr

/-- What the safety island keeps of an outlet: the 10 A substitution (R441), its copies of the ratings, the current in mA
at the trigger of a release that runs (R445), the opening instant (R444), and its own course held for a latch (R446). -/
structure SafOut where
  sub10 : Bool := false
  vmax : Nat := 0
  imax : Nat := 0
  idis : Nat := 0
  releasing : Option Nat := none
  openAt : Option Nat := none
  walled : Bool := false
  /-- The safe state was left; its holds end at the next control-period boundary (R446). -/
  leaving : Bool := false
deriving DecidableEq, Repr

/-- What the island keeps of a safe connection: the last accepted SEQ, the copy that waits for its twin
(carrier, SEQ, payload, time), whether the last accepted payload demanded stop; the SEQ, payload and time it last sent. -/
structure SafConn where
  started : Bool := false
  lastSeq : Nat := 0
  copy : Option (Nat × Nat × List Byte × Nat) := none
  stop : Bool := false
  sentSeq : Nat := 0
  sent : List Byte := []
  sentAt : Option Nat := none
deriving DecidableEq, Repr

/-- The safety island beside its registers. `ack`: an accepted acknowledge waits for its boundary; `trig`: device-wide
causes triggered in this period (R450); `active`: causes of bits 2 to 5 that stand; `demand`: safe inputs in demand after
the filter; `testBad`, `discBad`: inputs with a fault, good since; `hot`: outlets whose temperature or excitation trigger
of SF6 stands; `compIn`, `compOut`: comparators that failed their last test (R453), of inputs and as 8 × outlet + function;
`romBad`, `romLatch`: a failed signature check and its demand; `stuckOn`: drivers of R455; `exempt`: the period check waits
(R39, R661). -/
structure SafCtx where
  outs : Tbl SafOut := []
  conns : Tbl SafConn := []
  ack : Bool := false
  trig : Nat := 0
  active : Nat := 0
  demand : Nat := 0
  testBad : Nat := 0
  discBad : Nat := 0
  goodAt : Tbl Nat := []
  hot : Nat := 0
  compIn : Nat := 0
  compOut : Nat := 0
  romBad : Bool := false
  romLatch : Bool := false
  stuckOn : Nat := 0
  exempt : Bool := true
deriving DecidableEq, Repr

/-- An entry of the memory error log (R538): fabric time, type, port, agent, bank, syndrome, word, repeat count. -/
structure MemLog where
  time : Nat := 0
  typ : Nat := 0
  port : Nat := 0
  agent : Nat := 0
  bank : Nat := 0
  synd : Nat := 0
  addr : Nat := 0
  repeats : Nat := 0
deriving DecidableEq, Repr

/-- A word operation at the memory: a write of the bytes of `mask` (R529), or an operation of an alias window (R530); `bad`: the read in
it is uncorrectable. -/
inductive WordOp where
  | write (data mask : Nat) (bad : Bool)
  | bits (mask : Nat) (set_ bad : Bool)
deriving DecidableEq, Repr

/-- An access of an agent to a word of a bank, which waits while the bank wakes (R532). -/
structure BankAccess where
  agent : Nat := 0
  bank : Nat := 0
  word : Nat := 0
  op : WordOp := .write 0 0 false
deriving DecidableEq, Repr

/-- A retirement that runs (R542): the bank, its spare, and whether the bank was woken from Retention for it. -/
structure Migration where
  bank : Nat := 0
  spare : Nat := 0
  retained : Bool := false
deriving DecidableEq, Repr

/-- Memory beside its registers: poisoned words by key bank × 32,768 + word (R535); the error log and the index of its newest
entry per bank, plus 1; TOTAL at the host's last read of it (R538); times in s of each bank's corrected errors and of its last
EV017 (R539); claims that wait for a wake (R525); the running migration; physical bank of each retired logical bank
(R543); the start of the lap in ns of device time (R536). -/
structure MemCtx where
  poison : Tbl Nat := []
  log : Tbl MemLog := []
  newest : Tbl Nat := []
  readTotal : Nat := 0
  ces : Tbl (List Nat) := []
  lastCe : Tbl (Option Nat) := []
  claims : Tbl Nat := []
  move : Option Migration := none
  spareOf : Tbl Nat := []
  lapStart : Nat := 0
  /-- The retired list was lost: every bank counts as failed until a March pass (R548). -/
  unproven : Bool := false
  /-- Accesses to waking banks, oldest first (R532). -/
  waiting : List BankAccess := []
deriving DecidableEq, Repr

/-- The duplex pair beside its registers (R476 to R495). Times in ns of device time. `run`, `firstBad`: mismatched periods in
a row and the first of them; `dispute`: the period under dispute with this module's own verdict and digest; `barred`: a dispute
made this lodger ineligible; `rejoin`: compared rounds of a rejoin, and whether the present one is clean; `partEligible`,
`partSynced`: the partner's own report; `leaseAt`, `ownAt`: last renewal received and made;
`fwdPeriod`: last period covered by forwarded inputs; `missing`: forwarded inputs are missing and the lease will tell
(R480); `lostAt`: first renewal that was not made (R491); `dnOff`: DN drivers disabled by the island (R483). -/
structure DupCtx where
  run : Nat := 0
  firstBad : Nat := 0
  dispute : Option (Nat × Bool × Nat) := none
  barred : Bool := false
  surrender : Bool := false
  rejoin : Option (Nat × Bool) := none
  partEligible : Bool := false
  partSynced : Bool := false
  leaseAt : Option Nat := none
  ownAt : Option Nat := none
  fwdPeriod : Nat := 0
  missing : Bool := false
  lostAt : Option Nat := none
  dnOff : Bool := false
  /-- Station number of the partner, once its twin messages have told it (R470). -/
  partStation : Option Nat := none
deriving DecidableEq, Repr

/-- A station of the fabric as its HAIL and LSA frames show it (R501, R506, R507). -/
structure Peer where
  uid : Nat := 0
  station : Nat := 0
  digest : List Byte := []
  fw : Nat := 0
  role : Nat := 0
  level : Nat := 0
  /-- Neighbours in its last LSA, and the SEQ of the last LSA and of the last flooded frame taken from it. -/
  links : List Nat := []
  lsaSeq : Option Nat := none
  floodSeq : Option Nat := none
  known : Bool := false
  synced : Bool := false
  inIsland : Bool := false
deriving DecidableEq, Repr

/-- A fabric port beside FAB_PORT (R497, R502): the peer's HAIL, device time of the last link key and the key's number. -/
structure PortCtx where
  hail : Option Hail := none
  keyAt : Nat := 0
  keyNum : Nat := 0
  /-- Counter nonces of the two directions (R502). -/
  txCtr : Nat := 0
  rxCtr : Nat := 0
deriving DecidableEq, Repr

/-- The fabric beside its registers (R93, R499 to R517): peers by address, ports, SEQ of this source, the time step that waits,
rounds in a row with a minority, with posted sets, and the device certificate chain with its key (R503). -/
structure FabCtx where
  peers : Tbl Peer := []
  ports : Tbl PortCtx := []
  seq : Nat := 0
  step : Option Int := none
  minority : Nat := 0
  goodRounds : Nat := 0
  chain : Option (List Byte) := none
  /-- The address last held, as MRAM records it (R93); 32 none. -/
  lastAddr : Nat := 32
  /-- The control period in which the module entered Island (R66). -/
  islandAt : Nat := 0
deriving DecidableEq, Repr


/-- Everything of the device but its queue of commands. -/
structure Dev where
  /-- Every register field, by field key (RegTable): an unlisted field reads 0. -/
  regs : Tbl Nat := []
  /-- SRAM by byte, key bank × 262,144 + offset; an unlisted byte reads 0 (log 7). -/
  sram : List Host.Cell := []
  /-- External flash by byte; an unlisted byte reads 0xFF (log 8). -/
  flash : List Host.Cell := []
  /-- Committed configuration where it differs from the running registers (R569): by field key. -/
  running : Tbl (Option Nat) := []
  /-- The lifecycle has once reached Sealed, which locks SEAL fields permanently (R11). -/
  sealed : Bool := false
  /-- Device time on TB0 in ns since power-on, advanced by period boundaries (log 9). -/
  now : Nat := 0
  /-- Counter of free values (log 10). -/
  freeCtr : Nat := 0
  emitted : List Msg := []
  hiLatch : Tbl (Option Nat) := []
  -- modes and resets
  /-- The code sampled at the last release, TEST_N, RESET_N, and whether the last cold reset was internal (R61, R96). -/
  bootsel : Nat := 0
  testN : Bool := true
  resetLow : Bool := false
  internalCold : Bool := false
  /-- A device warm reset restarts the stewards (R87). -/
  warming : Bool := false
  /-- The mode that Safe hold was entered from (R90). -/
  safeFrom : Nat := 5
  /-- Pages were requested of every string since Boot (R207). -/
  identDone : Bool := false
  /-- Recovery holds the thermal dwell (R61). -/
  recoveryDwell : Bool := false
  /-- Outlets whose safe outputs the island holds on after a cold reset (R79). -/
  coldHold : List Nat := []
  /-- The keyholder forwarded that the station is in Island (R477). -/
  islandWanted : Bool := false
  -- transactions
  txn : Option Txn := none
  nextHandle : Nat := 1
  scheds : List Sched := []
  locked : Bool := false
  /-- A lodger's accepted commit, until the keyholder names its boundary (R570). -/
  sentUp : Option Sched := none
  preparing : Option Prepare := none
  holding : Option Prepare := none
  persistDue : Bool := false
  /-- The image that a persist writes (R569). -/
  persisting : Option (List Byte) := none
  pinned : List Byte := []
  -- events
  gb : Tbl GbEntry := []
  gbWait : Tbl GbEntry := []
  gbNext : Nat := 0
  gbLast : Tbl (Option Nat) := []
  /-- Ethernet ports that owe a NOTIFY, one bit each (R574). -/
  notifyDue : Nat := 0
  lastNotify : Tbl (Option Nat) := []
  lastEv111 : Tbl (Option Nat) := []
  -- pigeonholes and host ports
  stage : Tbl Nat := []
  pghResult : Tbl Nat := []
  epochs : Tbl Nat := []
  kept : List KeptReply := []
  spiFail : Bool := false
  -- flash
  nvm : Option NvmOp := none
  -- strings, Tuner, outlets, Innkeeper, Purse
  strs : Tbl StrCtx := []
  slots : Tbl SlotCtx := []
  outs : Tbl OutCtx := []
  courses : Tbl CourseCtx := []
  tieCmd : Nat := 0
  round : Nat := 0
  result : Option RoundResult := none
  purse : PurseCtx := {}
  -- CAN, auxiliary
  cans : Tbl CanPort := []
  auxApplied : Tbl Nat := []
  outTels : Tbl OutTel := []
  /-- The control period at which the present telemetry window began (R228). -/
  telWin : Nat := 0
  arcDirty : Nat := 0
  syncGood : Nat := 0
  syncNear : Nat := 0
  bow : BowCtx := {}
  pluck : PluckCtx := {}
  shedAbort : Nat := 0
  rejoin : Nat := 0
  tally : TallyCtx := {}
  box : Strongbox := {}
  links : LinksCtx := {}
  /-- PLC medium access by outlet (R327), and the stewards' checkpoints by outlet (R35). -/
  macs : Tbl MacCtx := []
  ckpts : Tbl Ckpt := []
  /-- The trusted roots of the TAB image: entry, kind (0 V2G, 1 mobility operator) and certificate (R351, R557). -/
  roots : List (Nat × Nat × List Byte) := []
  therm : ThermCtx := {}
  saf : SafCtx := {}
  tab : TabCtx := {}
  mem : MemCtx := {}
  dup : DupCtx := {}
  fab : FabCtx := {}
  /-- Host duties that wait for the next control-period boundary (R603). -/
  auxNext : Tbl (Option Nat) := []
  /-- The control period of each auxiliary channel's last fault, plus 1 (R607). -/
  auxFaultAt : Tbl Nat := []
  /-- Host commands that wait for it (R49), oldest first. -/
  hostNext : List HostAct := []
  /-- The instruction in force in the JTAG TAP (R629). -/
  jtag : Jtag := .idcode
deriving DecidableEq, Repr

/-- The state of the machine: the commands that wait, first in first out, and the device. -/
structure State where
  pending : List Sys2Proof.Instr := []
  dev : Dev := {}
deriving DecidableEq, Repr

/-- Why the machine stops with a fault. -/
inductive Fault where
  /-- POWER_ON_RESET, SUPPLY_LOSS, VSUP_RANGE_CHANGE: VSUP beyond the absolute maximum ratings (R589, R633): the spec
  gives the device no behaviour there. Safe: the device may do anything. -/
  | absMaxExceeded
deriving DecidableEq, Repr

/-- Why the machine gives a command no meaning. -/
inductive Refusal where
  /-- A command whose meaning is not written yet. -/
  | notModelled (mnemonic : String)
  /-- BOOT_COMPLETE after BOOTSEL 0b111 with TEST_N low in Blank: vendor test, which "lies outside this manual" (R96).
  Safe: no run goes on. -/
  | vendorTest
deriving DecidableEq, Repr

/-- The device right after a power-on reset: each register field at its Reset column (R13), in Boot, nothing in SRAM,
flash or MRAM. -/
def Dev.por : Dev := { regs := porRegs }

/-- The machine right after reset: no command waits. -/
def State.reset : State := { pending := [], dev := Dev.por }

end Sys2Proof.Machine
end

