-- ==== Sys2Proof/Machine/Ops.lean ====
section
/-! DEFINITION. The named operations over registers, memory, time and messages that every meaning is written in. -/

namespace Sys2Proof.Machine

/-! ### Registers -/

/-- The value of a register field. -/
def Dev.get (d : Dev) (f : Fld) : Nat := tget 0 d.regs f.key

/-- Writes a register field; the value is cut to the field's width. -/
def Dev.set (d : Dev) (f : Fld) (v : Nat) : Dev := { d with regs := tput 0 d.regs f.key (v % 2 ^ f.width) }

/-- Two's complement reading of a `w`-bit number. -/
def toSigned (w v : Nat) : Int := if v < 2 ^ (w - 1) then (v : Int) else (v : Int) - (2 ^ w : Nat)

/-- Two's complement coding of an integer in `w` bits. -/
def ofSigned (w : Nat) (v : Int) : Nat := (v % (2 ^ w : Nat)).toNat

/-- A signed register field. -/
def Dev.getI (d : Dev) (f : Fld) : Int := toSigned f.width (d.get f)

/-- Writes a signed register field. -/
def Dev.setI (d : Dev) (f : Fld) (v : Int) : Dev := d.set f (ofSigned f.width v)

/-- Writes a field that saturates at its largest value. -/
def Dev.setSat (d : Dev) (f : Fld) (v : Nat) : Dev := d.set f (min v (2 ^ f.width - 1))

/-- Adds to a counter that saturates. -/
def Dev.addSat (d : Dev) (f : Fld) (n : Nat) : Dev := d.setSat f (d.get f + n)

/-- The committed value of a configuration field: the register's, unless the device runs on another (R569). -/
def Dev.committed (d : Dev) (f : Fld) : Nat :=
  match tget none d.running f.key with
  | some v => v
  | none => d.get f

/-- Writes a configuration field as running state: its committed value is kept (R569). -/
def Dev.runSet (d : Dev) (f : Fld) (v : Nat) : Dev :=
  let c := d.committed f
  let v := v % 2 ^ f.width
  { d with running := tput none d.running f.key (if v = c then none else some c) }.set f v

/-- One bit of a field. -/
def Dev.bit (d : Dev) (f : Fld) (i : Nat) : Bool := (d.get f).testBit i

/-- A number with one bit set or cleared. -/
def withBit (v i : Nat) (b : Bool) : Nat :=
  if v.testBit i = b then v else if b then v + 2 ^ i else v - 2 ^ i

/-- Writes one bit of a field. -/
def Dev.setBit (d : Dev) (f : Fld) (i : Nat) (b : Bool) : Dev := d.set f (withBit (d.get f) i b)

/-- One bit of a pair of 32-bit registers that hold one bit per index (LO, HI). -/
def Dev.bit2 (d : Dev) (lo hi : Fld) (i : Nat) : Bool := if i < 32 then d.bit lo i else d.bit hi (i - 32)

/-- Writes one bit of such a pair. -/
def Dev.setBit2 (d : Dev) (lo hi : Fld) (i : Nat) (b : Bool) : Dev :=
  if i < 32 then d.setBit lo i b else d.setBit hi (i - 32) b

/-- A 64-bit value held in a LO and a HI register. -/
def Dev.get64 (d : Dev) (lo hi : Fld) : Nat := d.get lo + 2 ^ 32 * d.get hi

/-- Writes a 64-bit value held in a LO and a HI register. -/
def Dev.set64 (d : Dev) (lo hi : Fld) (v : Nat) : Dev := (d.set lo v).set hi (v / 2 ^ 32)

/-- A flag as a number. -/
def flag (b : Bool) : Nat := if b then 1 else 0

/-- The number of bits set among the low `n` of a number. -/
def popCount (n v : Nat) : Nat := ((List.range n).filter fun i => v.testBit i).length

/-- The register that occupies an address, with the key of its first bit (R8, R47, R48). -/
def regAt (a : Nat) : Option RegDesc := regTable.find? fun r => r.hits a

/-- The description of the field with a key. -/
def fieldAt (key : Nat) : Option FieldDesc :=
  match regAt (key / 32) with
  | none => none
  | some r => r.fields.find? fun f => decide (f.lo = key % 32)

/-- The register word at an address assembled from its fields; reserved fields read 0 (R9), write-only fields read 0. -/
def Dev.word (d : Dev) (a : Nat) : Nat :=
  match regAt a with
  | none => 0
  | some r => r.fields.foldl
      (fun acc f => if f.acc = .wo then acc else acc + tget 0 d.regs (32 * a + f.lo) * 2 ^ f.lo) 0

/-- A quotient, exact where it is whole; how it is rounded elsewhere is free (Config.roundsUp). -/
def quot (n : Int) (k : Nat) : Int :=
  if n % (k : Int) = 0 then n / (k : Int) else n / (k : Int) + (if Config.roundsUp n k then 1 else 0)

/-- The filtered level of a GPIO line (AUX_GPIOIN), as its feedback tells it. -/
def Dev.lineReads (d : Dev) (g : Nat) (level : Bool) : Dev := if g < 16 then d.setBit Reg.AUX_GPIOIN_LEVEL g level else d

/-- A timebase runs from the first event it times: "the Purse powers the others as work requires" (TB_STATUS.RUN). -/
def Dev.tbRun (d : Dev) (n : Nat) : Dev := d.setBit Reg.TB_STATUS_RUN n true

/-! ### Time, free values, messages -/

/-- Fabric time in ns (TB_TIME). -/
def Dev.time (d : Dev) : Nat := d.get64 Reg.TB_TIME_LO_TIME Reg.TB_TIME_HI_TIME

/-- The control-period number (TB_PERIOD). -/
def Dev.period (d : Dev) : Nat := d.get64 Reg.TB_PERIOD_LO_PERIOD_NUM Reg.TB_PERIOD_HI_PERIOD_NUM

/-- The control period in µs. -/
def Dev.periodUs (d : Dev) : Nat := d.get Reg.TB_TB2CFG_PERIOD

/-- The round length in ns (R112). -/
def Dev.roundNs (d : Dev) : Nat := d.get Reg.INK_CFG_ROUNDPER * d.periodUs * 1000

/-- The real-time clock in seconds. -/
def Dev.rtc (d : Dev) : Nat := d.get Reg.TB_RTC_SEC_SEC

/-- Puts a message on a link. -/
def Dev.emit (d : Dev) (m : Msg) : Dev := { d with emitted := d.emitted ++ [m] }

/-- Reads a free value and steps to the next. -/
def Dev.free (d : Dev) : Nat × Dev := (d.freeCtr, { d with freeCtr := d.freeCtr + 1 })

/-! ### PLC medium access (R326, R327) -/

def Dev.plcMac (d : Dev) (n : Nat) : MacCtx := tget {} d.macs n
def Dev.setPlcMac (d : Dev) (n : Nat) (x : MacCtx) : Dev := { d with macs := tput {} d.macs n x }

/-- The PLC front end of a CCS outlet is powered (R323). -/
def Dev.plcOn (d : Dev) (n : Nat) : Bool := d.get (Reg.OUT_CFG_TYPE n) = 1 && d.get (Reg.VLK_LINK_LSTATE n) ≠ 0

/-- The channel access priority of a message by its kind: SLAC CA3, V2G CA2, acknowledgements and beacons CA1; a frame sent again (kind
13) keeps that of SLAC until the match, and of V2G after it (R327). -/
def Dev.plcPriority (d : Dev) (n kind : Nat) : Nat :=
  if 15 ≤ kind ∧ kind ≤ 18 then 3 else if kind = 12 ∨ kind = 14 then 1
  else if kind = 13 ∧ d.get (Reg.VLK_LINK_LSTATE n) ≠ 3 then 3 else 2

/-- Stations that signalled in the priority resolution slots contend at this priority or a higher one (R327): CA3 signals in both, CA2 in
the first, CA1 in the second where the first is silent. -/
def resolvedPriority (prs0 prs1 : Bool) : Nat := if prs0 then (if prs1 then 3 else 2) else if prs1 then 1 else 0

/-- The contention window and the deferral counter of a priority by the backoff procedure counter: HomePlug Green PHY's (log 120). -/
def macWindow (priority bpc : Nat) : Nat :=
  if 2 ≤ priority then (if bpc < 1 then 7 else if bpc < 3 then 15 else 31) else (if bpc < 1 then 7 else if bpc < 2 then 15 else if bpc < 3 then 31 else 63)
def macDeferral (bpc : Nat) : Nat := if bpc = 0 then 0 else if bpc = 1 then 1 else if bpc = 2 then 3 else 15

/-- A backoff is drawn: its counter is a free value in the window (R327). -/
def Dev.macDraw (d : Dev) (n p bpc : Nat) : Dev :=
  let (k, d) := d.free
  d.setPlcMac n { d.plcMac n with bpc := bpc, bc := Config.freeNat k % (macWindow p bpc + 1), dc := macDeferral bpc }

/-- The place of a frame among those that wait: the higher priority first, in order of arrival within one. -/
def macQueue (w : Nat × Nat × List Nat) : List (Nat × Nat × List Nat) → List (Nat × Nat × List Nat)
  | [] => [w]
  | x :: rest => if x.1 < w.1 then w :: x :: rest else x :: macQueue w rest

/-- The channel is heard as reserved, or the outlet's frames already contend for it (R327). -/
def Dev.macBusy (d : Dev) (n : Nat) : Bool :=
  decide (d.now < (d.plcMac n).busyUntil) || decide ((d.plcMac n).wait ≠ []) || decide ((d.plcMac n).bc ≠ 0)

/-- Sends a message to a vehicle: on the T1S link, or by PLC at its priority, where an acknowledgement and a beacon have their own time
and every other frame contends (R327, R329). -/
def Dev.say (d : Dev) (n kind : Nat) (fields : List Nat) : Dev :=
  if !d.plcOn n then d.emit (.vehicle n kind fields)
  else
    let p := d.plcPriority n kind
    if kind = 12 ∨ kind = 14 ∨ !d.macBusy n then d.emit (.plc n p kind fields)
    else
      let d := if (d.plcMac n).wait = [] ∧ (d.plcMac n).bc = 0 then d.macDraw n p 0 else d
      d.setPlcMac n { d.plcMac n with wait := macQueue (p, kind, fields) (d.plcMac n).wait }

/-- Another station's frame reserves the channel; of the frames that wait the first defers: its deferral counter runs out and a longer
backoff is drawn, or both counters fall (R327). -/
def Dev.macHear (d : Dev) (n : Nat) (reserved resolved : Nat) : Dev :=
  let x := d.plcMac n
  let d := d.setPlcMac n { x with busyUntil := max x.busyUntil (d.now + reserved), resolved := resolved }
  match x.wait with
  | [] => d
  | w :: _ => if x.dc = 0 then d.macDraw n w.1 (min 3 (x.bpc + 1)) else d.setPlcMac n { d.plcMac n with bc := x.bc - 1, dc := x.dc - 1 }

/-- The medium is idle: a priority resolution that others won passes, else the backoff counts down, and at 0 the first frame is sent and
the next draws its own; a front end that is powered down holds no frame (R327). -/
def Dev.macAccess (d : Dev) (n : Nat) : Dev :=
  let x := d.plcMac n
  match x.wait with
  | [] => d
  | (p, kind, fields) :: rest =>
    if !d.plcOn n then d.setPlcMac n {}
    else if d.now < x.busyUntil then d
    else if p < x.resolved then d.setPlcMac n { x with resolved := 0 }
    else if x.bc ≠ 0 then d.setPlcMac n { x with bc := x.bc - 1 }
    else
      let d := (d.setPlcMac n { x with wait := rest, bpc := 0, bc := 0, dc := 0, resolved := 0 }).emit (.plc n p kind fields)
      match rest with
      | [] => d
      | w :: _ => d.macDraw n w.1 0

/-! ### Contexts -/

def Dev.str (d : Dev) (s : Nat) : StrCtx := tget {} d.strs s
def Dev.setStr (d : Dev) (s : Nat) (c : StrCtx) : Dev := { d with strs := tput {} d.strs s c }
def Dev.modStr (d : Dev) (s : Nat) (f : StrCtx → StrCtx) : Dev := d.setStr s (f (d.str s))
def Dev.slot (d : Dev) (i : Nat) : SlotCtx := tget {} d.slots i
def Dev.setSlot (d : Dev) (i : Nat) (c : SlotCtx) : Dev := { d with slots := tput {} d.slots i c }
def Dev.modSlot (d : Dev) (i : Nat) (f : SlotCtx → SlotCtx) : Dev := d.setSlot i (f (d.slot i))
def Dev.out (d : Dev) (n : Nat) : OutCtx := tget {} d.outs n
def Dev.setOut (d : Dev) (n : Nat) (c : OutCtx) : Dev := { d with outs := tput {} d.outs n c }
def Dev.modOut (d : Dev) (n : Nat) (f : OutCtx → OutCtx) : Dev := d.setOut n (f (d.out n))
def Dev.course (d : Dev) (c : Nat) : CourseCtx := tget {} d.courses c
def Dev.setCourse (d : Dev) (c : Nat) (x : CourseCtx) : Dev := { d with courses := tput {} d.courses c x }
def Dev.modCourse (d : Dev) (c : Nat) (f : CourseCtx → CourseCtx) : Dev := d.setCourse c (f (d.course c))
def Dev.outTel (d : Dev) (n : Nat) : OutTel := tget {} d.outTels n
def Dev.setOutTel (d : Dev) (n : Nat) (t : OutTel) : Dev := { d with outTels := tput {} d.outTels n t }
def Dev.canPort (d : Dev) (k : Nat) : CanPort := tget {} d.cans k
def Dev.modCan (d : Dev) (k : Nat) (f : CanPort → CanPort) : Dev :=
  { d with cans := tput {} d.cans k (f (d.canPort k)) }
def Dev.modPurse (d : Dev) (f : PurseCtx → PurseCtx) : Dev := { d with purse := f d.purse }

def Dev.safOut (d : Dev) (n : Nat) : SafOut := tget {} d.saf.outs n
def Dev.modSafOut (d : Dev) (n : Nat) (f : SafOut → SafOut) : Dev :=
  { d with saf := { d.saf with outs := tput {} d.saf.outs n (f (d.safOut n)) } }

/-- Runs an operation for each index below a bound, in ascending order. -/
def forAll (n : Nat) (d : Dev) (f : Dev → Nat → Dev) : Dev := (List.range n).foldl f d

/-! ### Bytes of SRAM and flash -/

/-- The byte key of offset `o` of a bank (R519). -/
def sramKey (bank o : Nat) : Nat := bank * 262144 + o

def Dev.sramByte (d : Dev) (bank o : Nat) : Byte := tget 0#8 d.sram (sramKey bank o)

def Dev.setSramByte (d : Dev) (bank o : Nat) (b : Byte) : Dev := { d with sram := tput 0#8 d.sram (sramKey bank o) b }

def Dev.sramBytes (d : Dev) (bank o n : Nat) : List Byte := (List.range n).map fun i => d.sramByte bank (o + i)

/-- Stores bytes at ascending offsets of a bank. -/
def Dev.putSram (d : Dev) (bank : Nat) : Nat → List Byte → Dev
  | _, [] => d
  | o, b :: rest => (d.setSramByte bank o b).putSram bank (o + 1) rest

def Dev.flashByte (d : Dev) (a : Nat) : Byte := tget 0xFF#8 d.flash a

def Dev.setFlashByte (d : Dev) (a : Nat) (b : Byte) : Dev := { d with flash := tput 0xFF#8 d.flash a b }

def Dev.flashBytes (d : Dev) (a n : Nat) : List Byte := (List.range n).map fun i => d.flashByte (a + i)

/-- Writes bytes at ascending flash offsets. -/
def Dev.putFlash (d : Dev) : Nat → List Byte → Dev
  | _, [] => d
  | a, b :: rest => (d.setFlashByte a b).putFlash (a + 1) rest

/-! ### Modes -/

/-- The encoding of R54. -/
def Mode.code : Mode → Nat
  | .off => 0 | .boot => 1 | .selftest => 2 | .commission => 3 | .standby => 4 | .idle => 5 | .serve => 6
  | .island => 7 | .safeHold => 8 | .thermal => 9 | .recovery => 10 | .lastGasp => 11

/-- The mode a code names; codes 12 to 15 name none and stand as Off. -/
def Mode.ofCode : Nat → Mode
  | 1 => .boot | 2 => .selftest | 3 => .commission | 4 => .standby | 5 => .idle | 6 => .serve
  | 7 => .island | 8 => .safeHold | 9 => .thermal | 10 => .recovery | 11 => .lastGasp | _ => .off

/-- The present mode (SYS_STATUS.MODE). -/
def Dev.mode (d : Dev) : Mode := Mode.ofCode (d.get Reg.SYS_STATUS_MODE)

/-- The lifecycle state: 0 Blank, 1 Provisioned, 2 Sealed, 3 Decommissioned (R98). -/
def Dev.lifecycle (d : Dev) : Nat := d.get Reg.SYS_LIFECYCLE_STATE

/-- A mode in which the main logic carries or may carry sessions (R63, columns New sessions and Current delivery). -/
def Mode.working : Mode → Bool
  | .idle | .serve | .island | .standby => true
  | _ => false

/-- The Transactions column of R63. -/
def Mode.transacts : Mode → Bool
  | .commission | .standby | .idle | .serve | .island | .safeHold => true
  | _ => false

/-- The Cell link driven column of R63: down frames other than BLOCK. -/
def Mode.drivesLink : Mode → Bool
  | .commission | .idle | .serve | .island => true
  | _ => false

/-- Modes whose cell link carries BLOCK only (R63). -/
def Mode.blockOnly : Mode → Bool
  | .safeHold | .thermal | .lastGasp => true
  | _ => false

/-- The FXG640-L, which alone takes Sealed and legal sessions (R2, R3). -/
def Dev.isL (d : Dev) : Bool := d.get Reg.SYS_ID_VARIANT = 2

/-- The module is part of a duplex pair (R470). -/
def Dev.duplex (d : Dev) : Bool := d.get Reg.DUP_CFG_EN = 1

/-- The module drives the cell link: it is solo or holds the key (R181). -/
def Dev.drives (d : Dev) : Bool := !d.duplex || d.get Reg.DUP_STATUS_ROLE = 1

/-- The outlet's session state (R277). -/
def Dev.sess (d : Dev) (n : Nat) : Nat := d.get (Reg.OUT_SESS_STATE n)

/-- R107: an outlet is live from PRECHARGE until weld detection completes. -/
def sessLive (st : Nat) : Bool := decide (8 ≤ st ∧ st ≤ 12)

/-- R55: an outlet is serving from CABLECHECK until weld detection completes. -/
def sessServing (st : Nat) : Bool := decide (7 ≤ st ∧ st ≤ 12)

def Dev.live (d : Dev) (n : Nat) : Bool := sessLive (d.sess n)

/-- The main logic does not run: RESET_N is held low (R77) or the device is in Off. -/
def Dev.stopped (d : Dev) : Bool := d.resetLow || decide (d.mode = .off)

end Sys2Proof.Machine
end

