-- ==== Sys2Proof/Machine/Flags.lean ====
section
/-! DEFINITION. Raising an event source: raw bit, cause bit, Guestbook, alert lines, bells and notifications (R584 to
R588), and the flags that are computed from other state after every command. -/

namespace Sys2Proof.Machine

/-- The raw bit of a source (R584). -/
def Dev.raw (d : Dev) (e : Nat) : Bool := d.bit (Reg.EVT_RAW_BITS (e / 32)) (e % 32)

/-- Whether a source is masked (R585). -/
def Dev.masked (d : Dev) (e : Nat) : Bool := d.bit (Reg.EVT_MASK_BITS (e / 32)) (e % 32)

/-- The cause bit a source has in its block's `…_EVCAUSE` register, where the source fixes it (R553, R394, R431, R469,
R518, R632). -/
def causeBit (e : Nat) : Option (Fld × Nat) :=
  if 16 ≤ e ∧ e < 32 then some (Reg.MEM_EVCAUSE_CAUSE, e - 16)
  else if 64 ≤ e ∧ e < 72 then some (Reg.THM_EVCAUSE_CAUSE, e - 64)
  else if 72 ≤ e ∧ e < 80 then some (Reg.TAL_EVCAUSE_CAUSE, e - 72)
  else if 80 ≤ e ∧ e < 88 then some (Reg.SAF_EVCAUSE_CAUSE, e - 80)
  else if 88 ≤ e ∧ e < 93 then some (Reg.DUP_EVCAUSE_CAUSE, e - 88)
  else if 93 ≤ e ∧ e < 96 then some (Reg.FAB_EVCAUSE_CAUSE, e - 93)
  else if 112 ≤ e ∧ e < 120 then some (Reg.PWR_EVCAUSE_CAUSE, e - 112)
  else none

/-- The cause register of the source's block after the raise, word 4 of the Guestbook entry (R587). `det` is the outlet
or port the source names. -/
def Dev.causeWord (d : Dev) (e det : Nat) : Nat :=
  match causeBit e with
  | some (f, _) => d.word (f.key / 32)
  | none =>
    if 32 ≤ e ∧ e < 48 then d.word ((Reg.OUT_EVCAUSE_SENSE (e - 32)).key / 32)
    else if 96 ≤ e ∧ e < 104 then d.word ((Reg.VLK_LINK_EVCAUSE det).key / 32)
    else if 104 ≤ e ∧ e < 108 then d.word ((Reg.CAN_PSTAT_EVCAUSE (e - 104)).key / 32)
    else 0

/-- Words 0 to 6 of a Guestbook entry (R587). -/
def GbEntry.words (g : GbEntry) : List Nat :=
  [g.time % 2 ^ 32, g.time / 2 ^ 32 % 2 ^ 32, g.rtc, g.period % 65536 * 65536 + g.mode % 16 * 4096 + g.event % 128,
   g.cause, g.detail, min g.repeats 65535]

/-- The eight words of a Guestbook entry: word 7 is the CRC-32 of words 0 to 6 (R587). -/
def GbEntry.allWords (g : GbEntry) : List Nat := g.words ++ [crc32Ieee (g.words.flatMap (leBytes 4))]

/-- The Guestbook entry with a running number, from the waiting buffer or from MRAM. -/
def Dev.gbEntry (d : Dev) (n : Nat) : GbEntry :=
  match d.gbWait.find? fun e => e.1 = n with
  | some e => e.2
  | none => tget {} d.gb (n % 32768)

/-- Puts an entry into the waiting buffer of 256; whether one that finds it full is kept is free (log 11). -/
def Dev.gbQueue (d : Dev) (n : Nat) (g : GbEntry) : Dev :=
  if d.gbWait.length < 256 ∨ (d.gbWait.any fun e => e.1 = n) then { d with gbWait := tput {} d.gbWait n g }
  else
    let (k, d) := d.free
    if Config.guestbookOverflow k then { d with gbWait := tput {} d.gbWait n g } else d

/-- Records a raise in the Guestbook: a new entry, or one more repeat of the source's newest entry if that is less than
1 s old (R587). -/
def Dev.record (d : Dev) (e det : Nat) : Dev :=
  let fresh := fun (d : Dev) =>
    let g : GbEntry :=
      { time := d.time, rtc := d.rtc, period := d.period, mode := d.mode.code, event := e,
        cause := d.causeWord e det, detail := det }
    { d with gbNext := d.gbNext + 1, gbLast := tput none d.gbLast e (some d.gbNext) }.gbQueue d.gbNext g
  match tget none d.gbLast e with
  | none => fresh d
  | some n =>
    let g := d.gbEntry n
    if g.event = e ∧ d.time < g.time + 1000000000 ∧ g.time ≤ d.time then
      d.gbQueue n { g with repeats := min (g.repeats + 1) 65535 }
    else fresh d

/-- Epoch of an agent on this module: a host port's is HST_EPOCH (R577), a steward's its own. -/
def Dev.epochOf (d : Dev) (agent : Nat) : Nat :=
  if agent < 3 then d.get (Reg.HST_EPOCH_EPOCH agent) else tget 0 d.epochs agent

/-- The record a POST makes in an EMPTY pigeonhole (R579). -/
def Dev.pghFill (d : Dev) (h agent addr epoch : Nat) (payload : List Byte) : Dev :=
  let d := (((((d.set (Reg.PGH_STAT_STATE h) 1).set (Reg.PGH_STAT_STALE h) 0).set (Reg.PGH_STAT_RCV_EPOCH_CHANGED h) 0).set
    (Reg.PGH_STAT_SNDAGENT h) agent).set (Reg.PGH_STAT_SNDADDR h) addr).set (Reg.PGH_STAT_LEN h) payload.length
  let d := (d.set (Reg.PGH_EPOCH_SND h) epoch).set (Reg.PGH_EPOCH_RCV h) (d.epochOf (d.get (Reg.PGH_CFG_RCV h)))
  forAll 64 d fun d w => d.set (Reg.PGH_DATA_DATA h w) (ofLe ((payload.drop (4 * w)).take 4))

/-- The cause bit that a source sets, where it has one (R583). -/
def Dev.setCause (d : Dev) (e : Nat) : Dev :=
  match causeBit e with
  | some (f, j) => d.setBit f j true
  | none => d

/-- The route of an unmasked source to the alert line's notice and to a fabric peer (R585, R588). -/
def Dev.routeOut (d : Dev) (e : Nat) : Dev :=
  let d := if d.get (Reg.EVT_ROUTE_ALERT e) ≠ 0 then { d with notifyDue := 3 } else d
  if d.get (Reg.EVT_ROUTE_NOTIFY e) = 1 then d.emit (.fabric (d.get (Reg.EVT_ROUTE_NADDR e)) 7 [e]) else d

/-- Raises a source. `fuel` bounds the chain of bells, each of which fills one EMPTY pigeonhole. -/
def Dev.raiseN : Nat → Dev → Nat → Nat → Dev
  | 0, d, _, _ => d
  | fuel + 1, d, e, det =>
    let d := ((d.setCause e).setBit (Reg.EVT_RAW_BITS (e / 32)) (e % 32) true).record e det
    if d.masked e then d
    else
      let d := d.routeOut e
      if d.get (Reg.EVT_ROUTE_BELL e) = 1 then
        let h := d.get (Reg.EVT_ROUTE_BELLPGH e) % 32
        if d.get (Reg.PGH_STAT_STATE h) = 0 then
          let d := d.pghFill h 13 0 0 []
          let rcv := d.get (Reg.PGH_CFG_RCV h)
          if rcv < 3 then Dev.raiseN fuel d (120 + h / 4) h else d.emit (.wake rcv)
        else d.addSat Reg.EVT_MISC_BELLMISS 1
      else d

/-- Raises a source with its detail: outlet, string, bank or pigeonhole, or 0 (R583 to R588). -/
def Dev.raise (d : Dev) (e det : Nat) : Dev := Dev.raiseN 40 d e det

/-- Raises the outlet's source with a bit of OUT_EVCAUSE[n]: whenever the bit rises (R321), and on every other occurrence of
its cause (R588). -/
def Dev.raiseOut (d : Dev) (n : Nat) (f : Nat → Fld) : Dev := (d.set (f n) 1).raise (32 + n) n

/-- Raises a vehicle-link source with its bit of VLK_LINK[n].EVCAUSE (R357). -/
def Dev.raiseVlk (d : Dev) (e n : Nat) : Dev := (d.setBit (Reg.VLK_LINK_EVCAUSE n) (e - 96) true).raise e n

/-- Raises a CAN port's source with its cause bit (R617, R618). -/
def Dev.raiseCan (d : Dev) (k bit : Nat) : Dev := (d.setBit (Reg.CAN_PSTAT_EVCAUSE k) bit true).raise (104 + k) 0

/-- Sets a timebase fault (R32, TB_STATUS.FAULT): the bit, its latch, and EV005. -/
def Dev.timebaseFault (d : Dev) (n : Nat) : Dev :=
  if d.bit Reg.TB_STATUS_FAULT n then d
  else ((d.setBit Reg.TB_STATUS_FAULT n true).setBit Reg.TB_FAULTLATCH_LOST n true).raise 5 0

/-! ### Flags computed from other state -/

/-- ALERTj: some unmasked source with its raw bit set is routed to line j (R585). -/
def Dev.alertLine (d : Dev) (j : Nat) : Bool :=
  (List.range 128).any fun e => d.raw e && !d.masked e && d.bit (Reg.EVT_ROUTE_ALERT e) j

/-- EVT_ALERT.LINES. -/
def Dev.alertLines (d : Dev) : Nat :=
  flag (d.alertLine 0) + 2 * flag (d.alertLine 1) + 4 * flag (d.alertLine 2) + 8 * flag (d.alertLine 3)

/-- PGOOD: every internal rail is in regulation, the core rail among them, and the mode is neither Off nor Last gasp (R594). -/
def Dev.pgood (d : Dev) : Bool :=
  decide (d.get Reg.PWR_STATUS_RAILFLT = 0) && !d.saf.active.testBit 2 && decide (d.mode ≠ .off) && decide (d.mode ≠ .lastGasp)

/-- The bits of a predicate over the sixteen outlets. -/
def outletBits (p : Nat → Bool) : Nat := (List.range 16).foldl (fun acc n => if p n then acc + 2 ^ n else acc) 0

/-- A message that a lodger's drivers keep off the wire (R471, R473, R480): they are high-impedance or listen only. -/
def Msg.driven : Msg → Bool
  | .down _ _ | .abortGap _ | .vehicle _ _ _ | .plc _ _ _ _ | .inject _ _ | .can _ _ | .keyPulse | .syncOut => true
  | _ => false

/-- A message on a DN pair. -/
def Msg.onDn : Msg → Bool
  | .down _ _ | .abortGap _ => true
  | _ => false

/-- What leaves the device: a lodger's drivers are off (R471), and the island disables the DN drivers of a module that stopped
renewing its lease (R481, R483). -/
def Dev.mute (d : Dev) : Dev :=
  if d.drives ∧ !(d.duplex && d.dup.dnOff) then d
  else { d with emitted := d.emitted.filter fun m => !(if d.drives then m.onDn else m.driven) }

/-- An auxiliary channel is shared with the partner (R474). -/
def Dev.auxShared (d : Dev) (ch : Nat) : Bool :=
  d.duplex && d.bit2 Reg.DUP_AUXSHARE_LO_SHARE Reg.DUP_AUXSHARE_HI_SHARE ch

/-- The switch of an auxiliary channel (R601, R604, R607): on where a duty is commanded and no fault is latched. A shared channel
of a module without the key keeps its state (R474, R610). -/
def Dev.showAux (d : Dev) (ch : Nat) : Dev :=
  if d.auxShared ch ∧ !d.drives then d
  else d.setBit2 Reg.AUX_ON_LO_BITS Reg.AUX_ON_HI_BITS ch
    (decide (d.get (Reg.AUX_CHOUT_FAULT ch) = 0) && decide (d.get (Reg.AUX_CHOUT_DUTY ch) ≠ 0))

/-- Commands a channel's duty in 0.01 %. -/
def Dev.commandAux (d : Dev) (ch duty : Nat) : Dev :=
  if 48 ≤ ch then d else (d.set (Reg.AUX_CHOUT_DUTY ch) duty).showAux ch

/-- The curtailment flag and its causes, which always agree (R71, R177). -/
def curtailFlags : List Fld := [Reg.SYS_STATUS_CURTAIL, Reg.PRS_CURTAIL_THROTTLE, Reg.PRS_CURTAIL_DEVBUDGET, Reg.PRS_CURTAIL_IMPORT,
  Reg.PRS_CURTAIL_WINDOW, Reg.PRS_CURTAIL_FABRIC, Reg.PRS_CURTAIL_ISLAND, Reg.PRS_CURTAIL_FEED]

/-- The flag and its causes read 0, as outside the modes in which they are valid. -/
def Dev.clearCurtail (d : Dev) : Dev := curtailFlags.foldl (fun d f => d.set f 0) d

/-- PGOOD (R594), and CURTAIL with its causes outside the modes in which they are valid (R71). -/
def Dev.settleFlags (d : Dev) : Dev :=
  let d := d.set Reg.PWR_STATUS_PGOOD (flag d.pgood)
  if d.mode.working then d else d.clearCurtail

/-- The flags the spec defines by other state, at the end of every command: the alert lines (R585), PGOOD (R594),
CURTAIL outside the modes in which it is valid (R71), TXNOPEN, the powered front ends and PHYs (PRS_GATE), and the live and
serving outlets (R55, R107). -/
def Dev.finish (d : Dev) : Dev :=
  let d := d.settleFlags
  let d := d.set Reg.SYS_STATUS_TXNOPEN (flag d.txn.isSome)
  let powered := fun (ty : Nat) n => decide (d.get (Reg.OUT_CFG_TYPE n) = ty) && decide (d.get (Reg.VLK_LINK_LSTATE n) ≠ 0)
  let d := (d.set Reg.PRS_GATE_PLC (outletBits (powered 1))).set Reg.PRS_GATE_T1S (outletBits (powered 2))
  let d := d.set Reg.OUT_STATUS_LIVE (outletBits fun n => sessLive (d.sess n))
  let d := d.set Reg.OUT_STATUS_SERVING (outletBits fun n => sessServing (d.sess n))
  (d.set Reg.EVT_ALERT_LINES d.alertLines).mute

/-- The device before a command: the messages of the command before are gone. -/
def Dev.begin (d : Dev) : Dev := { d with emitted := [] }

/-- A command of the main logic: no effect while the main logic is stopped. -/
def State.main (f : Dev → Dev) (s : State) : Host.Outcome State Fault Refusal :=
  .next { s with dev := if s.dev.stopped then s.dev.begin.finish else (f s.dev.begin).finish }

/-- A command of the supply, the reset pin, the power die or the safety island: it acts though the main logic is
stopped. -/
def State.hard (f : Dev → Dev) (s : State) : Host.Outcome State Fault Refusal :=
  .next { s with dev := (f s.dev.begin).finish }

/-- A command of the safety island: it acts but for Off, which holds the island in reset (R72). -/
def State.island (f : Dev → Dev) (s : State) : Host.Outcome State Fault Refusal :=
  .next { s with dev := if s.dev.mode = .off then s.dev.begin.finish else (f s.dev.begin).finish }

end Sys2Proof.Machine
end

