-- ==== Sys2Proof/Machine/Tally.lean ====
section
/-! DEFINITION. The Tally: samples and correction, accumulators, line cycles and latches, pulses, signed records, the
journal and what Boot makes of it (R395 to R431). -/

namespace Sys2Proof.Machine

def Dev.modTally (d : Dev) (f : TallyCtx → TallyCtx) : Dev := { d with tally := f d.tally }
def Dev.scope (d : Dev) (c : Nat) : ScopeCtx := tget {} d.tally.scopes c
def Dev.setScope (d : Dev) (c : Nat) (x : ScopeCtx) : Dev :=
  d.modTally fun t => { t with scopes := tput {} t.scopes c x }
def Dev.modScope (d : Dev) (c : Nat) (f : ScopeCtx → ScopeCtx) : Dev := d.setScope c (f (d.scope c))

/-- An enabled scope: an outlet of TYPE 1 or 2, a feed with EN (R407). -/
def Dev.scopeOn (d : Dev) (c : Nat) : Bool :=
  if c < 16 then d.get (Reg.OUT_CFG_TYPE c) = 1 || d.get (Reg.OUT_CFG_TYPE c) = 2
  else d.get (Reg.TAL_SCOPECFG_EN c) = 1

/-- Rated power in W (R415): VMAX × IMAX of an outlet (0.1 V, 0.1 A), RATEDKW of a feed. -/
def Dev.ratedW (d : Dev) (c : Nat) : Nat :=
  if c < 16 then d.get (Reg.OUT_RATING_VMAX c) * d.get (Reg.OUT_RATING_IMAX c) / 100
  else 1000 * d.get (Reg.TAL_SCOPECFG_RATEDKW c)

def Dev.impCount (d : Dev) (c : Nat) : Nat := d.get64 (Reg.TAL_IMP_LO_COUNT c) (Reg.TAL_IMP_HI_COUNT c)
def Dev.expCount (d : Dev) (c : Nat) : Nat := d.get64 (Reg.TAL_EXP_LO_COUNT c) (Reg.TAL_EXP_HI_COUNT c)
def Dev.setImpCount (d : Dev) (c v : Nat) : Dev := d.set64 (Reg.TAL_IMP_LO_COUNT c) (Reg.TAL_IMP_HI_COUNT c) v
def Dev.setExpCount (d : Dev) (c v : Nat) : Dev := d.set64 (Reg.TAL_EXP_LO_COUNT c) (Reg.TAL_EXP_HI_COUNT c) v

/-- The net energy count of a scope in mWh: import less export. -/
def Dev.netCount (d : Dev) (c : Nat) : Int := (d.impCount c : Int) - d.expCount c

/-! ### Channels (R395 to R403) -/

/-- A current channel, an AC current channel, and the current channel paired with a channel (R395). -/
def chCurrent (ch : Nat) : Bool := if ch < 24 then decide (3 ≤ ch % 6) else decide (ch % 2 = 1)
def chAc (ch : Nat) : Bool := decide (ch < 24) && decide (3 ≤ ch % 6)
def chPair (ch : Nat) : Nat := if chCurrent ch then ch else if ch < 24 then ch + 3 else ch + 1

/-- The scope of a channel (R395). -/
def chScope (ch : Nat) : Nat := if ch < 24 then 16 + ch / 6 else (ch - 24) / 2

/-- The selecting current, squared and times 160, against a boundary scaled by `pm` per mille: at or above (R400).
Both sides are in (mA × 2²³)² × 10⁶. A window that is not yet full counts the samples it has (log 14). -/
def segAtLeast (sq : List Nat) (scale bnd pm : Nat) : Bool :=
  decide (sq.length * (pm * bnd * 2 ^ 23) ^ 2 ≤ sq.foldl (· + ·) 0 * scale ^ 2 * 1000000)

/-- Moves the segment up while the current is at or above 1.005 × B_j. -/
def segUp (sq : List Nat) (scale : Nat) (b : Nat → Nat) : Nat → Nat → Nat
  | 0, j => j
  | k + 1, j => if j < 7 ∧ segAtLeast sq scale (b j) 1005 then segUp sq scale b k (j + 1) else j

/-- Moves the segment down while the current is below 0.995 × B_(j−1). -/
def segDown (sq : List Nat) (scale : Nat) (b : Nat → Nat) : Nat → Nat → Nat
  | 0, j => j
  | k + 1, j => if 0 < j ∧ !segAtLeast sq scale (b (j - 1)) 995 then segDown sq scale b k (j - 1) else j

/-- The measured frequency of the reference in mHz; the nominal one outside LOCKED (R399, R409). -/
def Dev.lineMhz (d : Dev) : Nat :=
  if d.get Reg.TAL_STATUS_ZCSTATE = 0 ∧ d.tally.lineNs ≠ 0 then 1000000000000 / d.tally.lineNs
  else if d.get Reg.TAL_CFG_NOMHZ = 1 then 60000 else 50000

/-- One sample of a channel with the segment in force: the corrected value in mV or mA with 16 fractional bits, and the
channel after it (R399, R400). -/
def Dev.chanStep (d : Dev) (x : ChanCtx) (ch seg : Nat) (raw : Int) : ChanCtx × Int :=
  let v := raw - d.getI (Reg.TAL_CHOFFSET_OFFSET ch)
  let scale := d.get (Reg.TAL_CHSCALE_SCALE ch)
  -- × 10⁶ × 10⁸: gain in ppm, reference correction in 0.01 ppm
  let g := v * (1000000 + d.getI (Reg.TAL_SEGCORR_GAIN ch seg)) * (100000000 + d.getI Reg.TAL_REFCORR_CORR)
  let ph := if chAc ch then d.getI (Reg.TAL_SEGCORR_PHASE ch seg) else 0
  let s := if ph = 0 then g else Config.phaseShift ph d.lineMhz (g :: x.hist)
  let y := quot (s * scale) (2 ^ 7 * 10 ^ 14)
  let sq := if chCurrent ch then (v.natAbs ^ 2 :: x.sq).take 160 else []
  let n := (x.n + 1) % 8
  let b := fun j => d.get (Reg.TAL_SEGBND_BND ch j)
  let seg' := if chCurrent ch ∧ n = 0 then
      let up := segUp sq scale b 7 x.seg
      if up ≠ x.seg then up else segDown sq scale b 7 x.seg
    else x.seg
  ({ seg := seg', sq := sq, hist := (g :: x.hist).take 3, n := n }, y)

/-- The corrected values of a sample set, with the channels after it. -/
def Dev.chanAll (d : Dev) (cs : Tbl ChanCtx) (raws : List Int) : Tbl ChanCtx × List Int :=
  (List.range 56).foldl (fun acc ch =>
    let (x, y) := d.chanStep (tget {} acc.1 ch) ch (tget {} cs (chPair ch)).seg (raws.getD ch 0)
    (tput {} acc.1 ch x, acc.2 ++ [y])) (cs, [])

/-- The sample power of a scope in µW × 2³² (R404). -/
def scopePower (ys : List Int) (c : Nat) : Int :=
  if c < 16 then ys.getD (24 + 2 * c) 0 * ys.getD (25 + 2 * c) 0
  else
    let f := c - 16
    ((List.range 3).map fun p => ys.getD (6 * f + p) 0 * ys.getD (6 * f + 3 + p) 0).foldl (· + ·) 0

/-- The energy of a sample power's magnitude over 125 µs in 2⁻³² mWh: 1 mWh is 3.6 J (R404, R406). -/
def sampleEnergy (p : Int) : Nat := (quot p.natAbs 28800000000).toNat

/-! ### Records (R418 to R425) -/

/-- The free record entries that no session has reserved (R422). -/
def Dev.qfree (d : Dev) : Nat := 256 - d.tally.recs.length - (d.tally.resv.map (·.2)).foldl (· + ·) 0

/-- The 200 bytes of a record; an unsigned one has no signature bytes yet. -/
def MeterRec.bytes (r : MeterRec) : List Byte := r.body ++ r.sig.getD []

/-- COUNT, QFREE, SELVALID and the record window follow the queue (R422, R423). -/
def Dev.refreshRecs (d : Dev) : Dev :=
  let d := (d.set Reg.TAL_RECSTAT_COUNT d.tally.recs.length).set Reg.TAL_STATUS_QFREE d.qfree
  let sel := d.tally.recs.find? fun r => decide (r.seq = d.get Reg.TAL_RECSEL_SEQ) && r.sig.isSome
  let bytes := match sel with
    | some r => r.bytes
    | none => []
  forAll 50 (d.set Reg.TAL_RECSTAT_SELVALID (flag sel.isSome)) fun d w =>
    d.set (Reg.TAL_RECDATA_DATA w) (ofLe ((bytes.drop (4 * w)).take 4))

/-- An outlet in a session: from SETUP until it is unlocked. -/
def Dev.inSession (d : Dev) (n : Nat) : Bool := decide (4 ≤ d.sess n ∧ d.sess n ≤ 13)

/-- The instant of a record: RTC seconds and ticks, fabric time, latch number. -/
structure Instant where
  rtc : Nat
  ticks : Nat
  time : Nat
  latch : Nat
deriving DecidableEq, Repr

def Dev.instant (d : Dev) : Instant :=
  { rtc := d.rtc, ticks := d.get Reg.TB_RTC_FRAC_TICKS, time := d.time, latch := d.get Reg.TAL_LATCHNUM_NUM }

/-- FLAGS of a scope's next record, without BOOT_CLOSE (R420). -/
def Dev.recFlags (d : Dev) (c rtc : Nat) : Nat :=
  let x := d.scope c
  let dI := d.impCount c - x.prevImp
  let dE := d.expCount c - x.prevExp
  x.flags + 8 * flag (decide (d.lifecycle ≠ 2)) + 16 * flag (decide (rtc < 1577836800)) +
  32 * flag (decide (dI ≠ 0 ∧ dE ≠ 0)) + 128 * flag x.prevPeer

/-- TAL_SCOPESTAT.FLAGS. -/
def Dev.refreshScope (d : Dev) (c : Nat) : Dev := d.set (Reg.TAL_SCOPESTAT_FLAGS c) (d.recFlags c d.rtc)

/-- The first 136 bytes of a record of scope c (R419). -/
def Dev.recBody (d : Dev) (typ c seq sessnum evccid flags : Nat) (t : Instant) (keyhash : List Byte) : List Byte :=
  let x := d.scope c
  [0x46#8, 0x58#8, 0x4D#8, 0x52#8] ++ leBytes 2 1 ++ leBytes 1 typ ++ leBytes 1 d.lifecycle ++ leBytes 2 flags ++
  leBytes 1 c ++ leBytes 1 0 ++ leBytes 4 sessnum ++ leBytes 8 (d.get64 Reg.SYS_UID_LO_UID Reg.SYS_UID_HI_UID) ++
  leBytes 4 seq ++ leBytes 4 t.latch ++ leBytes 4 t.rtc ++ leBytes 2 t.ticks ++ leBytes 2 0 ++ leBytes 8 t.time ++
  leBytes 8 (d.impCount c) ++ leBytes 8 (d.expCount c) ++ leBytes 8 (d.impCount c - x.prevImp) ++
  leBytes 8 (d.expCount c - x.prevExp) ++ leBytes 4 (if flags.testBit 0 then x.tail else 0) ++ leBytes 6 evccid ++
  leBytes 2 0 ++ leBytes 4 (d.get Reg.TAL_CALID_ID) ++ keyhash ++
  leBytes 8 (if d.duplex then d.get64 Reg.DUP_PARTNER_LO_UID Reg.DUP_PARTNER_HI_UID else 0)

/-- SHA-256 of the meter public key as 0x04, X, Y; free when the Strongbox holds no key (R419, R552). -/
def Dev.keyHash (d : Dev) : List Byte × Dev :=
  match d.box.meter with
  | some k => (sha256 (4#8 :: Config.publicKey k), d)
  | none => let (k, d) := d.free; (leBytes 32 (Config.freeNat k), d)

/-- The device takes records: Provisioned or Sealed (R418), and with a calibration (R548). -/
def Dev.records (d : Dev) : Bool := (d.lifecycle = 1 || d.lifecycle = 2) && !d.tally.calLost

/-- The scope's next record counts from its present totals (R421); `peer` when the partner took this one (R424). -/
def Dev.closeInterval (d : Dev) (c : Nat) (peer : Bool) : Dev :=
  (d.modScope c fun x =>
    { x with prevImp := d.impCount c, prevExp := d.expCount c, prevPeer := peer, flags := 0, tail := 0 }).refreshScope c

/-- Takes a record into the queue (R418 to R421); on a lodger the keyholder takes it (R424). -/
def Dev.putRecord (d : Dev) (typ c sessnum evccid extra : Nat) (t : Instant) : Dev :=
  if !d.records ∨ !d.scopeOn c then d
  else if !d.drives then d.closeInterval c true
  else
    let (kh, d) := d.keyHash
    let seq := (d.tally.recSeq + 1) % 2 ^ 32
    let r : MeterRec := { seq := seq, body := d.recBody typ c seq sessnum evccid (d.recFlags c t.rtc + extra) t kh }
    ((d.modTally fun x => { x with recSeq := seq, recs := x.recs ++ [r] }).closeInterval c false).refreshRecs

def Dev.evccid (d : Dev) (n : Nat) : Nat := d.get64 (Reg.VLK_EVID_LO_ID n) (Reg.VLK_EVID_HI_ID n)

/-- Takes a record of a scope now. -/
def Dev.takeRecord (d : Dev) (typ c : Nat) : Dev :=
  let on := decide (c < 16) && d.inSession c
  d.putRecord typ c (if on then d.get (Reg.OUT_SESSNUM_NUM c) else 0) (if on then d.evccid c else 0) 0 d.instant

/-- A LATCH or HOST record: taken only while more than 16 unreserved entries are free (R422). -/
def Dev.takeLatchRecord (d : Dev) (typ c : Nat) : Dev :=
  if !d.records ∨ !d.scopeOn c then d
  else if !d.drives ∨ 16 < d.qfree then d.takeRecord typ c
  else
    let d := d.addSat Reg.TAL_RECSTAT_SKIPPED 1
    ((d.modScope c fun x => { x with flags := x.flags ||| 256 }).refreshScope c).raise 73 c

/-- Reserves the two entries of a session; without them the session runs without records (R422). -/
def Dev.reserve (d : Dev) (n : Nat) : Dev × Bool :=
  if 2 ≤ d.qfree then ((d.modTally fun t => { t with resv := tput 0 t.resv n 2 }).refreshRecs, true)
  else (d.raise 73 n, false)

/-- Gives back what a session has reserved and not used. -/
def Dev.unreserve (d : Dev) (n : Nat) : Dev :=
  if tget 0 d.tally.resv n = 0 then d else (d.modTally fun t => { t with resv := tput 0 t.resv n 0 }).refreshRecs

/-- Entry to PRECHARGE: the Tally's session interval begins with the START record (R322, R418). -/
def Dev.tallyStart (d : Dev) (n : Nat) : Dev :=
  let k := tget 0 d.tally.resv n
  let l : LiveSess := { outlet := n, recording := decide (k ≠ 0), sessnum := d.get (Reg.OUT_SESSNUM_NUM n),
                        evccid := d.evccid n, startImp := d.impCount n, startExp := d.expCount n }
  let d := d.modTally fun t => { t with live := (t.live.filter fun x => x.outlet ≠ n) ++ [l], resv := tput 0 t.resv n (k - 1) }
  if k ≠ 0 then d.takeRecord 1 n else d

/-- Completion of weld detection: the interval ends with the END record, of the session that began it. -/
def Dev.tallyEnd (d : Dev) (n : Nat) : Dev :=
  let l := d.tally.live.find? fun x => decide (x.outlet = n) && x.recording
  let d := d.modTally fun t => { t with live := t.live.filter fun x => x.outlet ≠ n, resv := tput 0 t.resv n 0 }
  match l with
  | some l => d.putRecord 2 n l.sessnum l.evccid 0 d.instant
  | none => d

/-- Signing of the oldest unsigned record completes, in order of RECSEQ (R418, R419); a device without its meter key can
sign none (R552). -/
def recordSigned (d : Dev) : Dev :=
  match d.box.meter, d.tally.recs.find? fun r => r.sig.isNone with
  | some key, some r =>
    let (k, d) := d.free
    let sig := Config.ecdsaSign key k (sha256 r.body)
    let d := d.modTally fun t => { t with recs := t.recs.map fun x => if x.seq = r.seq then { x with sig := some sig } else x }
    (d.set Reg.TAL_RECHEAD_SEQ r.seq).refreshRecs
  | _, _ => d

/-- Releases the held records up to a RECSEQ; one that is not yet signed is ignored (R423). -/
def talRecack (seq : Nat) (d : Dev) : Dev :=
  let d := d.set Reg.TAL_RECACK_SEQ seq
  if d.get Reg.TAL_RECHEAD_SEQ < seq then d
  else (d.modTally fun t => { t with recs := t.recs.filter fun r => decide (seq < r.seq) }).refreshRecs

/-! ### Latches (R408 to R412) -/

/-- The lodger compares the two figures of a scope's interval: 0.5 % of the forwarded one plus 1 Wh (R398). -/
def figuresDiffer (fwd own : Nat) : Bool :=
  decide (fwd + 200 * (1000 * 2 ^ 32) < 200 * (max fwd own - min fwd own))

/-- A latch on all enabled scopes (R412); `host` adds HOST records (R418). -/
def Dev.latch (d : Dev) (host : Bool) : Dev :=
  let d := forAll 20 d fun d c =>
    if d.scopeOn c then
      let d := d.set64 (Reg.TAL_LIMP_LO_COUNT c) (Reg.TAL_LIMP_HI_COUNT c) (d.impCount c)
      let d := d.set64 (Reg.TAL_LEXP_LO_COUNT c) (Reg.TAL_LEXP_HI_COUNT c) (d.expCount c)
      let x := d.scope c
      let d := if d.duplex ∧ !d.drives ∧ (figuresDiffer x.dImp x.ownImp ∨ figuresDiffer x.dExp x.ownExp) then d.raise 77 (if c < 16 then c else 0) else d
      d.modScope c fun x => { x with dImp := 0, dExp := 0, ownImp := 0, ownExp := 0 }
    else d
  let d := d.set Reg.TAL_LATCHNUM_NUM (d.get Reg.TAL_LATCHNUM_NUM + 1)
  forAll 20 d fun d c =>
    let d := if d.get (Reg.TAL_SCOPECFG_LATCHREC c) = 1 then d.takeLatchRecord 3 c else d
    if host then d.takeLatchRecord 4 c else d

/-- Counts cycles of the reference; outside LOCKED every scope's interval carries ZC_FALLBACK (R410). -/
def Dev.countCycles (d : Dev) (k : Nat) (zcFallback : Bool) : Dev :=
  let d := d.modTally fun t => { t with cycles := t.cycles + k }
  if k = 0 ∨ !zcFallback then d
  else forAll 20 d fun d c =>
    if d.scopeOn c then (d.modScope c fun x => { x with flags := x.flags ||| 2 }).refreshScope c else d

/-- Nominal half-cycle in ns, and its ±5 % window (R409). -/
def Dev.halfNominal (d : Dev) (ns : Nat) : Bool :=
  let f := if d.get Reg.TAL_CFG_NOMHZ = 1 then 60 else 50
  decide (950000000 ≤ 2 * f * ns ∧ 2 * f * ns ≤ 1050000000)

/-- An accepted crossing of feed voltage channel (feed, phase), with the time since its predecessor in ns (R408 to R410). -/
def zeroCrossing (feed phase : Nat) (positive : Bool) (ns : Nat) (d : Dev) : Dev :=
  if d.get Reg.TAL_ZCCFG_FEED ≠ feed ∨ d.get Reg.TAL_ZCCFG_PHASE ≠ phase then d
  else
    let t := d.tally
    let good := d.halfNominal ns
    let d := d.modTally fun t => { t with zcPos := positive, zcSeen := t.zcSeen || positive, halfNs := ns,
                                          lineNs := if positive then t.halfNs + ns else t.lineNs }
    match d.get Reg.TAL_STATUS_ZCSTATE with
    | 0 => if positive ∧ t.zcSeen then d.countCycles 1 false else d
    | 1 => if positive then (d.modTally fun t => { t with zcRun := 0, zcPhase := 0 }).set Reg.TAL_STATUS_ZCSTATE 2 else d
    | _ =>
      let run := if good then t.zcRun + 1 else 0
      let d := d.modTally fun t => { t with zcRun := run }
      let d := if positive then d.countCycles 1 true else d
      if 8 ≤ run then (d.set Reg.TAL_STATUS_ZCSTATE 0).raise 72 0 else d

/-- No crossing within TMO: FALLBACK, which counts nominal cycles on from the last accepted crossing (R409, R410). -/
def zeroCrossingTimeout (d : Dev) : Dev :=
  if d.get Reg.TAL_STATUS_ZCSTATE = 1 then d
  else
    let per := if d.get Reg.TAL_CFG_NOMHZ = 1 then 48 else 40
    let ph := per * d.get Reg.TAL_ZCCFG_TMO + (if d.tally.zcPos then 0 else 400)
    let d := (d.set Reg.TAL_STATUS_ZCSTATE 1).raise 72 0
    (d.modTally fun t => { t with zcPhase := ph % 800 }).countCycles (ph / 800) true

/-- The end of the Nth counted cycle latches (R411). -/
def cycleLatch (d : Dev) : Dev :=
  let n := d.get Reg.TAL_CFG_N
  if n ≠ 0 ∧ n ≤ d.tally.cycles then (d.modTally fun t => { t with cycles := t.cycles - n }).latch false else d

/-- TAL_CMD.LATCH: a latch at the next sample boundary (R411). -/
def talCmdLatch (d : Dev) : Dev := d.modTally fun t => { t with hostLatch := true }

/-! ### Samples (R396 to R407, R413) -/

/-- Adds energy in 2⁻³² mWh to a count with its residual (R406). -/
def carry (count res e : Nat) : Nat × Nat := ((count + (res + e) / 2 ^ 32) % 2 ^ 64, (res + e) % 2 ^ 32)

/-- A scope's sample: power, accumulators, the lodger's figures (R398, R404 to R406). -/
def Dev.scopeSample (d : Dev) (c : Nat) (p own : Int) : Dev :=
  let x := d.scope c
  let e := sampleEnergy p
  let powers := (p :: x.powers).take 160
  let (ic, ir) := if 0 < p then carry (d.impCount c) x.impRes e else (d.impCount c, x.impRes)
  let (ec, er) := if p < 0 then carry (d.expCount c) x.expRes e else (d.expCount c, x.expRes)
  let o := sampleEnergy own
  let d := d.setScope c { x with
    impRes := ir, expRes := er, powers := powers,
    dImp := x.dImp + (if 0 < p then e else 0), dExp := x.dExp + (if p < 0 then e else 0),
    ownImp := x.ownImp + (if 0 < own then o else 0), ownExp := x.ownExp + (if own < 0 then o else 0) }
  let mean := quot (powers.foldl (· + ·) 0) (powers.length * (1000000 * 2 ^ 32))
  (((d.setImpCount c ic).setExpCount c ec).setI (Reg.TAL_PWR_W c) mean).refreshScope c

/-- A pulse output's count of its accumulator, times CONST (R413). -/
def Dev.pulseSample (d : Dev) (k : Nat) (p : Nat → Int) : Dev :=
  let c := d.get (Reg.TAL_PULSECFG_SCOPE k)
  let w := p c
  if d.get (Reg.TAL_PULSECFG_EN k) = 1 ∧ c < 20 ∧ d.scopeOn c ∧
      ((d.get (Reg.TAL_PULSECFG_DIR k) = 0 ∧ 0 < w) ∨ (d.get (Reg.TAL_PULSECFG_DIR k) = 1 ∧ w < 0)) then
    let x := tget {} d.tally.pulses k
    d.modTally fun t =>
      { t with pulses := tput {} t.pulses k { x with acc := x.acc + sampleEnergy w * d.get (Reg.TAL_PULSECFG_CONST k) } }
  else d

/-- An overrange sample (R397). -/
def Dev.noteOverrange (d : Dev) (ch : Nat) (raw : Int) : Dev :=
  if raw = 8388607 ∨ raw = -8388608 then
    let d := d.set (Reg.TAL_CHSTAT_OVERRANGE ch) 1
    (d.modScope (chScope ch) fun x => { x with flags := x.flags ||| 4 }).raise 75 0
  else d

/-- Nominal cycles counted in FALLBACK by one sample: 5 or 6 in 800 (R409). -/
def Dev.fallbackSample (d : Dev) : Dev :=
  if d.get Reg.TAL_STATUS_ZCSTATE ≠ 1 then d
  else
    let ph := d.tally.zcPhase + (if d.get Reg.TAL_CFG_NOMHZ = 1 then 6 else 5)
    (d.modTally fun t => { t with zcPhase := ph % 800 }).countCycles (ph / 800) true

/-- One TB3 instant: 56 samples of this module and, on a lodger, those the keyholder forwarded (R396 to R407). A latch the
host has asked for comes first: this sample belongs to the next interval (R411, R412). -/
def meterSample (own : List (BitVec 24)) (fwd : Option (List (BitVec 24))) (d : Dev) : Dev :=
  if d.mode = .boot then d
  else
    let d := (d.tbRun 3).set Reg.TAL_STATUS_RUN 1
    let d := if d.duplex ∧ d.drives then d.emit (.twin 1 (35 :: d.period :: own.map BitVec.toNat)) else d
    let d := if d.tally.hostLatch then (d.modTally fun t => { t with hostLatch := false }).latch true else d
    let d := d.fallbackSample
    let rawOwn := own.map BitVec.toInt
    let raws := match fwd with
      | some l => if d.drives then rawOwn else l.map BitVec.toInt
      | none => rawOwn
    let d := (raws.zip (List.range 56)).foldl (fun d p => d.noteOverrange p.2 p.1) d
    let (cs, ys) := d.chanAll d.tally.chans raws
    let (os, yo) := if d.drives then (d.tally.ownChans, []) else d.chanAll d.tally.ownChans rawOwn
    let curs := (List.range 16).foldl
      (fun t n => tput [] t n ((ys.getD (25 + 2 * n) 0 :: tget [] t n).take 8)) d.tally.curs
    let d := d.modTally fun t => { t with chans := cs, ownChans := os, curs := curs }
    let d := forAll 56 d fun d ch => d.set (Reg.TAL_CHSTAT_SEG ch) (tget {} cs (chPair ch)).seg
    let d := forAll 20 d fun d c => if d.scopeOn c then d.scopeSample c (scopePower ys c) (scopePower yo c) else d
    forAll 8 d fun d k => d.pulseSample k (scopePower ys)

/-- Every 1 ms: A1 × (T − 25) + A2 × (T − 25)² in 0.01 ppm, T in 1/16 °C; held under a diode fault (R401, R382). -/
def refcorrUpdate (d : Dev) : Dev :=
  if d.get Reg.THM_STATUS_DIODEFLT = 1 then d
  else
    let t := d.getI Reg.THM_DIODE_TEMP - 400
    d.setI Reg.TAL_REFCORR_CORR
      (quot (160 * d.getI Reg.TAL_REF_A1 * t + d.getI Reg.TAL_REF_A2 * (t * t)) 2560)

/-! ### Pulses (R413, R414) -/

def Dev.pulseMode (d : Dev) : Bool := d.mode ≠ .boot && d.mode ≠ .selftest && d.mode ≠ .recovery

/-- The high time of a pulse in ns: 10 ms, or half the interval above 50 Hz at the mean power of the last 1 ms (R414).
The power is in µW × 2³². -/
def Dev.pulseWidth (d : Dev) (k : Nat) : Nat :=
  let ps := (d.scope (d.get (Reg.TAL_PULSECFG_SCOPE k))).powers.take 8
  let sum := (ps.foldl (· + ·) 0).natAbs * d.get (Reg.TAL_PULSECFG_CONST k)
  -- f in Hz is sum / (len × 2³² × 10⁶ × 3,600,000)
  let den := ps.length * 2 ^ 32 * 1000000 * 3600000
  if 50 * den < sum then (quot (500000000 * den) sum).toNat else 10000000

def pulseEmit (k : Nat) (d : Dev) : Dev :=
  let x := tget {} d.tally.pulses k
  if d.get (Reg.TAL_PULSECFG_EN k) = 1 ∧ d.pulseMode ∧ !x.high ∧ 1000000 * 2 ^ 32 ≤ x.acc then
    let x := { acc := x.acc - 1000000 * 2 ^ 32, high := true, width := d.pulseWidth k : PulseCtx }
    (d.modTally fun t => { t with pulses := tput {} t.pulses k x }).emit (.pulse k (d.get (Reg.TAL_PULSECFG_POL k) = 0))
  else d

def pulseEnd (k : Nat) (d : Dev) : Dev :=
  let x := tget {} d.tally.pulses k
  if x.high then
    (d.modTally fun t => { t with pulses := tput {} t.pulses k { x with high := false } }).emit
      (.pulse k (d.get (Reg.TAL_PULSECFG_EN k) = 1 && d.pulseMode && d.get (Reg.TAL_PULSECFG_POL k) = 1))
  else d

/-! ### The journal (R426 to R430) -/

/-- The Tally's state as a journal slot holds it. -/
def Dev.journal (d : Dev) (good exact : Bool) : Journal :=
  let t := d.tally
  { seq := max t.slotA.seq t.slotB.seq + 1, good := good, exact := exact
    scopes := (List.range 20).map fun c => (d.impCount c, (d.scope c).impRes, d.expCount c, (d.scope c).expRes)
    latchnum := d.get Reg.TAL_LATCHNUM_NUM, recSeq := t.recSeq, cycles := t.cycles, live := t.live
    unsigned := t.recs.filter fun r => r.sig.isNone, time := d.time, rtc := d.rtc, ticks := d.get Reg.TB_RTC_FRAC_TICKS }

/-- Writes one journal slot; the slots alternate. A write that fails read-back raises EV078. -/
def Dev.writeJournal (d : Dev) (ok exact : Bool) : Dev :=
  let j := d.journal ok exact
  let d := d.modTally fun t =>
    if t.slotNext then { t with slotB := j, slotNext := false } else { t with slotA := j, slotNext := true }
  if ok then d else d.raise 78 0

/-- The periodic journal write; a failed one is repeated in the other slot (R426). -/
def journalWrite (ok okRepeat : Bool) (d : Dev) : Dev :=
  if d.mode = .boot then d
  else
    let d := d.writeJournal ok false
    if ok then d else d.writeJournal okRepeat false

/-- The valid slot with the higher sequence number (R426). -/
def TallyCtx.best (t : TallyCtx) : Journal :=
  if t.slotB.good ∧ (!t.slotA.good ∨ t.slotA.seq < t.slotB.seq) then t.slotB else t.slotA

/-- The tail bound in mWh: ⌈P × (T_J + T_S) / 3.6⌉, times in µs (R428). -/
def tailBound (w tj ts : Nat) : Nat := (w * (tj + ts) + 3599999) / 3600000

/-- T_S in µs: 6 µs after a supply loss; after a cold reset the deadline of R79, whose example rounds the sum up to whole
milliseconds (log 15). -/
def Dev.tailStop (d : Dev) (cold : Bool) (rundown : Nat) : Nat :=
  if cold then ((d.get Reg.STR_LINKCFG_HOLD * d.periodUs + 999) / 1000 + rundown + 10) * 1000 else 6

/-- The Tally's totals and queue as MRAM gives them back at Boot (R91, R406, R426). -/
def Dev.tallyRestore (d : Dev) : Dev :=
  let j := d.tally.best
  let d := if j.good then
      let d := (j.scopes.zip (List.range 20)).foldl (fun d p =>
        let (ic, ir, ec, er) := p.1
        ((d.setImpCount p.2 ic).setExpCount p.2 ec).modScope p.2 fun x => { x with impRes := ir, expRes := er }) d
      d.set Reg.TAL_LATCHNUM_NUM j.latchnum
    else d
  let held := (d.tally.recs.filter fun r => r.sig.isSome) ++ j.unsigned.filter fun r =>
    decide (d.get Reg.TAL_RECHEAD_SEQ < r.seq)
  d.modTally fun t => { t with
    recs := held, recSeq := max j.recSeq (d.get Reg.TAL_RECHEAD_SEQ), cycles := j.cycles, chans := [], ownChans := [],
    pulses := [], hostLatch := false, zcRun := 0, zcPhase := 0, zcPos := false, zcSeen := false, lineNs := 0, halfNs := 0,
    resv := [], live := [] }

/-- Boot closes the sessions that MRAM shows live (R429): exact when step 1 of Last gasp completed, else with the tail of
R428; none that the partner carries on. The journal is written at once, so that no session is closed twice. `cold`: the stop
was a cold reset. -/
def Dev.bootClose (d : Dev) (cold : Bool) : Dev :=
  let j := d.tally.best
  let tj := d.get Reg.TAL_CFG_JOURNAL * 100000
  let t : Instant := { rtc := j.rtc, ticks := j.ticks, time := j.time, latch := j.latchnum }
  let open_ := if j.good ∧ !d.tally.continued then j.live else []
  let d := open_.foldl (fun d l =>
    let ts := d.tailStop cold (d.get (Reg.INK_OUTCFG_RUNDOWN l.outlet))
    let d := if j.exact then d
      else d.modScope l.outlet fun x => { x with flags := x.flags ||| 1, tail := tailBound (d.ratedW l.outlet) tj ts }
    let d := if l.recording then d.putRecord 2 l.outlet l.sessnum l.evccid 64 t else d
    (d.set (Reg.OUT_END_CAUSE l.outlet) 15).raise 76 l.outlet) (d.modTally fun t => { t with continued := false })
  let d := if open_ = [] then d else d.writeJournal true false
  if open_ = [] ∨ j.exact then d
  else forAll 4 d fun d f =>
    let c := 16 + f
    let far := (List.range 16).foldl (fun m n => max m (d.get (Reg.INK_OUTCFG_RUNDOWN n))) 0
    if d.scopeOn c then
      (d.modScope c fun x => { x with flags := x.flags ||| 1, tail := tailBound (d.ratedW c) tj (d.tailStop cold far) }).refreshScope c
    else d

/-- The affordability check at the end of Selftest (R430). -/
def Dev.affordCheck (d : Dev) : Dev :=
  if d.get Reg.PRS_HOLDUP_NEED_MJ * (100 + d.get Reg.TAL_LGCFG_MARGIN) ≤ 100 * d.get Reg.PRS_HOLDUP_AVAIL_MJ then
    d.set Reg.TAL_STATUS_AFFORD 1
  else (d.set Reg.TAL_STATUS_AFFORD 0).raise 74 0

end Sys2Proof.Machine
end

