-- ==== Sys2Proof/Machine/Operands.lean ====
section
/-! DEFINITION. The encodings of the frames the device exchanges with cells: the down frame (R186 to R190), the short
BLOCK (R196) and the up frame (R201, R202). -/

namespace Sys2Proof.Machine

/-! ### The down frame -/

/-- A down frame whose fields fit their widths (R186). -/
def DownFrame.fits (f : DownFrame) : Bool :=
  decide (f.typ < 16 ∧ f.seq < 16 ∧ f.phase < 4096 ∧ f.drive < 65536 ∧ f.trim < 256 ∧ f.hold < 16 ∧ f.ramp < 16)

/-- The 52 bits from TYPE to RAMP as a number, the first bit sent highest (R14, R186). -/
def DownFrame.payload (f : DownFrame) : Nat :=
  (((((f.typ * 16 + f.seq) * 4096 + f.phase) * 65536 + f.drive) * 256 + f.trim) * 16 + f.hold) * 16 + f.ramp

/-- The 68 bits from TYPE to CRC (R186, R187). -/
def DownFrame.encode (f : DownFrame) : Nat := f.payload * 65536 + crc16 (bitsOf 52 f.payload)

/-- The fields of the 52 bits from TYPE to RAMP. -/
def downFields (p : Nat) : DownFrame :=
  { typ := p / 2 ^ 48 % 16, seq := p / 2 ^ 44 % 16, phase := p / 2 ^ 32 % 4096, drive := p / 2 ^ 16 % 65536,
    trim := p / 256 % 256, hold := p / 16 % 16, ramp := p % 16 }

/-- What a conforming cell reads from the 68 bits from TYPE to CRC: nothing unless the CRC checks and TYPE is one of
R189 other than the short BLOCK. -/
def decodeDown (w : Nat) : Option DownFrame :=
  let p := w / 65536
  let f := downFields p
  if w % 65536 = crc16 (bitsOf 52 p) ∧ p < 2 ^ 52 ∧
      (f.typ = 1 ∨ f.typ = 2 ∨ f.typ = 4 ∨ f.typ = 5 ∨ f.typ = 6) then some f else none

/-- The 16 bits TYPE, NTYPE, TYPE, NTYPE of the short BLOCK frame (R196). -/
def blockBits : Nat := 0x3C3C

/-- A conforming cell accepts a BLOCK only with both TYPE fields 0x3 and both NTYPE fields 0xC (R196). -/
def decodeBlock (w : Nat) : Bool :=
  decide (w / 4096 % 16 = 3 ∧ w / 256 % 16 = 12 ∧ w / 16 % 16 = 3 ∧ w % 16 = 12)

/-! ### The up frame -/

/-- An up frame whose fields fit their widths (R201). -/
def UpFrame.fits (f : UpFrame) : Bool :=
  decide (f.typ < 16 ∧ f.seq < 16 ∧ f.cur < 65536 ∧ f.volt < 65536 ∧ f.temp < 4096 ∧ f.status < 65536 ∧ f.aux < 4096)

/-- The 80 bits from TYPE to AUX (R201). -/
def UpFrame.payload (f : UpFrame) : Nat :=
  (((((f.typ * 16 + f.seq) * 65536 + f.cur) * 65536 + f.volt) * 4096 + f.temp) * 65536 + f.status) * 4096 + f.aux

/-- The 104 bits of an up frame: preamble 0b1010_1010, the fields, the CRC over TYPE to AUX (R187, R201). -/
def UpFrame.encode (f : UpFrame) : Nat := (0xAA * 2 ^ 80 + f.payload) * 65536 + crc16 (bitsOf 80 f.payload)

/-- The fields of the 80 bits from TYPE to AUX. -/
def upFields (p : Nat) : UpFrame :=
  { typ := p / 2 ^ 76 % 16, seq := p / 2 ^ 72 % 16, cur := p / 2 ^ 56 % 65536, volt := p / 2 ^ 40 % 65536,
    temp := p / 2 ^ 28 % 4096, status := p / 2 ^ 12 % 65536, aux := p % 4096 }

/-- What the cell-link controller reads from 104 received bits: nothing unless the preamble and the CRC check (R201). -/
def decodeUp (w : Nat) : Option UpFrame :=
  let p := w / 65536 % 2 ^ 80
  if w / 2 ^ 96 = 0xAA ∧ w % 65536 = crc16 (bitsOf 80 p) then some (upFields p) else none

/-- STATUS.STATE (R202): 0 UNSYNC, 1 READY, 2 PRECHARGE, 3 RUN, 4 CARRY, 5 RUNDOWN, 6 STOPPED, 7 BLOCKED. -/
def UpFrame.state (f : UpFrame) : Nat := f.status / 8192 % 8

/-- STATUS.FAULT (R202). -/
def UpFrame.fault (f : UpFrame) : Bool := f.status.testBit 12

/-- STATUS.OT (R202). -/
def UpFrame.overTemp (f : UpFrame) : Bool := f.status.testBit 9

end Sys2Proof.Machine
end

