-- ==== Sys2Proof/Machine/Strings.lean ====
section
/-! DEFINITION. Strings and the cell link: frames per string state, BLOCK, lost periods and faults, identity, telemetry,
remote sense, interleave sync (R178 to R230, R660). -/

namespace Sys2Proof.Machine

/-! ### Arcs and strings -/

def Dev.inkState (d : Dev) (s : Nat) : Nat := d.get (Reg.INK_STRING_STATE s)

def Dev.present (d : Dev) (s : Nat) : Bool := d.get (Reg.STR_STRCFG_PRESENT s) = 1

/-- The arc a course belongs to or moves to or from: INK_COURSE.ARC, or that of its move (R105, R131); 31 for none. -/
def Dev.courseArc (d : Dev) (c : Nat) : Nat :=
  if (d.course c).step = 0 then d.get (Reg.INK_COURSE_ARC c) else (d.course c).arc

/-- The courses of outlet n's arc, those that move to or from it among them. -/
def Dev.arcCourses (d : Dev) (n : Nat) : List Nat := (List.range 16).filter fun c => d.courseArc c = n

/-- The member courses of outlet n's arc. -/
def Dev.members (d : Dev) (n : Nat) : List Nat :=
  (d.arcCourses n).filter fun c => d.get (Reg.INK_COURSE_STATE c) = 1

/-- The four strings of a course (R104, the ring). -/
def courseStrings (c : Nat) : List Nat := [4 * c, 4 * c + 1, 4 * c + 2, 4 * c + 3]

def Dev.arcStrings (d : Dev) (n : Nat) : List Nat := (d.arcCourses n).flatMap courseStrings

/-- The strings of an arc that carry current: active or shedding (R139, R248). -/
def Dev.activeStrings (d : Dev) (n : Nat) : List Nat :=
  (d.arcStrings n).filter fun s => d.inkState s = 1 || d.inkState s = 2

/-- A power-class slot in manual outside Commission (R254). -/
def Dev.heldManual (d : Dev) (i : Nat) : Bool :=
  decide (i < 80) && decide (d.get (Reg.TUN_SCFG_MODE i) = 1) && decide (d.mode ≠ .commission)

/-- A slot in manual held at 0, or out of service, makes its string not healthy (R254, R258). -/
def Dev.slotBad (d : Dev) (i : Nat) : Bool := d.heldManual i || (d.slot i).outOfService

/-- A thermal latch covers the string (R318, R373). -/
def Dev.strFrozen (d : Dev) (s : Nat) : Bool := d.bit2 Reg.THM_STRLATCH_LO_LATCH Reg.THM_STRLATCH_HI_LATCH s

/-- A healthy string: present, admitted by R207, not faulted, not latched (R207, R217, R316, R373, R254). -/
def Dev.healthy (d : Dev) (s : Nat) : Bool :=
  d.present s && decide (d.get (Reg.STR_STRSTAT_IDOK s) = 1) && decide (d.get (Reg.STR_STRSTAT_FAULT s) = 0) &&
  decide (d.inkState s < 4 ∨ d.inkState s = 6) && !d.strFrozen s && !d.slotBad (16 + s)

def Dev.healthyOf (d : Dev) (c : Nat) : List Nat := (courseStrings c).filter d.healthy

/-- INK_COURSE.HEALTHY of every course. -/
def Dev.countHealthy (d : Dev) : Dev := forAll 16 d fun d c => d.set (Reg.INK_COURSE_HEALTHY c) (d.healthyOf c).length

/-- A power-class slot found in manual outside Commission outputs 0, is MANUAL_HELD and raises EV062, until it is automatic
again or Commission is entered (R254). -/
def Dev.showManual (d : Dev) : Dev :=
  Dev.countHealthy <| forAll 80 d fun d i =>
    let st := d.get (Reg.TUN_SSTAT_STATE i)
    if d.heldManual i then if st = 7 then d else ((d.set (Reg.TUN_OUT_VALUE i) 0).set (Reg.TUN_SSTAT_STATE i) 7).raise 62 0
    else if st = 7 then d.set (Reg.TUN_SSTAT_STATE i) 0
    else d

/-- The arc of an outlet is held in BLOCK (R200). -/
def Dev.arcHeld (d : Dev) (n : Nat) : Bool := d.bit Reg.STR_BLOCKSTAT_HELD n

/-- The voltage an outlet regulates on, in 0.1 V: remote sense, or the metering input under fallback (R226, R232). -/
def Dev.regV (d : Dev) (n : Nat) : Int :=
  if d.bit Reg.STR_SENSE_FALLBACK n then (d.out n).meterV else (d.out n).senseV

/-- A course's bus voltage in the 25 mV units of the frames: what the string's own cell last measured (log 12). -/
def Dev.busV (d : Dev) (s : Nat) : Nat := (d.str s).up.volt

/-- An outlet's voltage in the 25 mV units of the frames. -/
def Dev.arcV25 (d : Dev) (n : Nat) : Nat := min 65535 ((4 * d.regV n).toNat)

/-! ### Sending -/

/-- Weights and phases of an arc by R139 to R142 over the given strings and raw weights in 1/65,536 (floored parts; the
units left go one each in ascending string number). -/
def shareOut (raw : List (Nat × Nat)) : List (Nat × Nat) :=
  let total := (raw.map (·.2)).foldl (· + ·) 0
  if total = 0 then raw.map fun p => (p.1, 0)
  else
    let floors := raw.map fun p => (p.1, p.2 * 65536 / total)
    let left := 65536 - (floors.map (·.2)).foldl (· + ·) 0
    (floors.zip (List.range floors.length)).map fun p : (Nat × Nat) × Nat => (p.1.1, p.1.2 + flag (decide (p.2 < left)))

/-- Raw weights of R140 in parts per 10,000 × the number of strings: equal, or 1 − KT × (T_s − T_mean) clamped to 1 ± CLAMP.
Temperatures in 0.1 °C, of the round snapshot; KT in 0.1 %/K. -/
def Dev.rawWeights (d : Dev) (ss : List Nat) : List (Nat × Nat) :=
  if d.get Reg.INK_SHARECFG_MODE = 0 ∨ ss = [] then ss.map fun s => (s, 10000)
  else
    let t := fun s => (d.str s).snapT
    let sum := (ss.map t).foldl (· + ·) 0
    let n : Int := ss.length
    let kt : Int := d.get Reg.INK_SHARECFG_KT
    let cl : Int := 100 * d.get Reg.INK_SHARECFG_CLAMP
    ss.map fun s =>
      let w := 10000 * n - kt * (n * t s - sum)
      (s, (max ((10000 - cl) * n) (min ((10000 + cl) * n) w)).toNat)

/-- The i-th active string's phase: ⌊4,096 × i / n⌋ (R142). -/
def phaseOf (i n : Nat) : Nat := 4096 * i / n

/-- A string's weight in 1/65,536, 0 to 65,536 (R139). -/
def Dev.weight (d : Dev) (s : Nat) : Nat := if (d.str s).whole then 65536 else d.get (Reg.INK_STRING_WEIGHT s)

/-- Gives a string its weight. The register field has 16 bits: what it reads at 65,536 is free (log 48). -/
def Dev.setWeight (d : Dev) (s w : Nat) : Dev :=
  if w < 65536 then (d.modStr s fun x => { x with whole := false }).set (Reg.INK_STRING_WEIGHT s) w
  else
    let (k, d) := d.free
    (d.modStr s fun x => { x with whole := true }).set (Reg.INK_STRING_WEIGHT s) (Config.freeNat k)

/-- Gives the strings of a list their weights and phases (R139 to R142). -/
def Dev.setShares (d : Dev) (ss : List Nat) : Dev :=
  let ws := shareOut (d.rawWeights ss)
  (ws.zip (List.range ws.length)).foldl
    (fun d p => (d.setWeight p.1.1 p.1.2).set (Reg.INK_STRING_PHASE p.1.1) (phaseOf p.2 ws.length)) d

/-- Recomputes an arc's weights and phases among its active strings (R143, R161). -/
def Dev.reshare (d : Dev) (n : Nat) : Dev := d.setShares (d.activeStrings n)

def holdFrame (d : Dev) (s : Nat) : DownFrame :=
  { (d.str s).last with typ := 2, hold := d.get Reg.STR_LINKCFG_HOLD, ramp := d.get (Reg.STR_STRSTAT_RAMP s) }

def preFrame (d : Dev) (s target limit phase : Nat) : DownFrame :=
  { typ := 4, phase := phase, drive := min target 65535, trim := limit, hold := d.get Reg.STR_LINKCFG_HOLD,
    ramp := d.get (Reg.STR_STRSTAT_RAMP s) }

def blockFrame : DownFrame := { typ := 3 }

def identFrame (d : Dev) (s page : Nat) : DownFrame :=
  { typ := 5, phase := s, drive := d.get Reg.STR_LINKCFG_SAMPLE_DELAY, trim := page, hold := d.get Reg.STR_LINKCFG_HOLD,
    ramp := d.get (Reg.STR_STRSTAT_RAMP s) }

/-- The lowest page of a mask. -/
def lowestBit : Nat → Nat → Nat
  | 0, _ => 0
  | n + 1, v => if v % 2 = 1 then 0 else 1 + lowestBit n (v / 2)

/-- The course of a string is held in BLOCK: by its arc (R200), after an acknowledge (R89), or by a safety latch of its
outlet (R446). -/
def Dev.courseHeld (d : Dev) (c : Nat) : Bool :=
  let a := d.courseArc c
  (decide (a < 16) && d.arcHeld a) || (d.course c).blocked || (d.safOut c).walled

/-- The precharge limit per string in 0.1 A: ⌊ILIM / h⌋, raised to 1 (R294, R296). -/
def Dev.preLimit (d : Dev) (n : Nat) : Nat :=
  let ilim := d.get (Reg.OUT_PRECFG_ILIM n)
  let ilim := if (d.out n).softHalf then max 1 (ilim / 2) else ilim
  max 1 (ilim / (d.healthyOf n).length)

/-- A synced lodger computes the keyholder's frames without sending them (R478, R488). -/
def Dev.mirrors (d : Dev) : Bool :=
  d.duplex && decide (d.get Reg.DUP_STATUS_ROLE = 2) && decide (d.get Reg.DUP_STATUS_SYNCED = 1) && decide (d.mode = .standby)

/-- IDENT is sent to a string that does not switch: idle, faulted, thermally latched, or leaving with no arc. A cell in another state
than READY or STOPPED takes it as HOLD and comes to STOPPED; a BLOCKED one ignores it, and is brought out by PRECHARGE first
(R205, R207, R208). The device never sends TEST: no rule names an occasion for it (log 108). -/
def Dev.identNow (d : Dev) (s : Nat) : Bool :=
  let x := d.str s
  let st := d.inkState s
  decide (x.identDue ≠ 0 ∧ x.up.state ≠ 7) &&
  (decide (st = 0 ∨ st = 4) || (decide (st = 7) && !x.thermHold) || (decide (st = 6) && (d.course (s / 4)).loose))

/-- The arc of a course is in weld detection: its strings receive PRECHARGE with limit 0 (R310). -/
def Dev.welding (d : Dev) (c : Nat) : Bool := decide (d.courseArc c < 16) && decide (d.sess (d.courseArc c) = 12)

/-- The string receives HOLD 0: it is faulted, or released from a thermal latch (R193, R214). -/
def Dev.holdZero (d : Dev) (s : Nat) : Bool := decide (d.inkState s = 4) || (decide (d.inkState s = 7) && (d.str s).thermHold)

/-- The last period of the string was lost: it receives HOLD, whatever else its state would give but BLOCK (R216). -/
def Dev.lostPeriod (d : Dev) (s : Nat) : Bool := decide (d.get (Reg.STR_STRSTAT_LOST s) ≠ 0)

/-- The down frame of a present string by its state (R214), without its SEQ; none where nothing is sent. -/
def Dev.frameFor (d : Dev) (s : Nat) : Option DownFrame :=
  let c := s / 4
  let x := d.str s
  let arc := d.get (Reg.INK_COURSE_ARC c)
  if !d.present s || !(d.drives || d.mirrors) then none
  else if d.drives && d.mode.blockOnly then some blockFrame
  else if d.drives && !d.mode.drivesLink then none
  else if d.courseHeld c || d.inkState s = 5 then some blockFrame
  else if d.inkState s = 6 && d.welding c then some (preFrame d s (d.busV s) 0 0)
  else if d.lostPeriod s then some (if d.holdZero s then { holdFrame d s with hold := 0 } else holdFrame d s)
  else if d.identNow s then some (identFrame d s (lowestBit 16 x.identDue))
  else match d.inkState s with
    | 0 =>
      if arc = c ∧ (d.out c).preActive ∧ d.healthy s then
        some (preFrame d s (d.out c).preTarget (d.preLimit c) (d.get (Reg.INK_STRING_PHASE s)))
      else some (preFrame d s (d.busV s) 0 0)
    | 1 | 2 => some (x.staged.getD (holdFrame d s))
    | 3 => some (preFrame d s (d.arcV25 arc) 0 (d.get (Reg.INK_STRING_PHASE s)))
    | 4 =>
      if x.up.state = 7 then some (preFrame d s (d.busV s) 0 0) else some { holdFrame d s with hold := 0 }
    | 6 =>
      let m := d.course c
      if m.step ≤ 3 then some (x.staged.getD (holdFrame d s))
      else if m.step = 4 then
        some (preFrame d s (d.arcV25 m.arc) (d.get Reg.STR_LINKCFG_PRELIM) (d.get (Reg.INK_STRING_PHASE s)))
      else if m.step = 5 ∨ m.pencil ∨ m.again then
        some (preFrame d s (d.arcV25 m.arc) 0 (d.get (Reg.INK_STRING_PHASE s)))
      else some (x.staged.getD (holdFrame d s))
    | _ => if x.thermHold then some { holdFrame d s with hold := 0 } else some (preFrame d s (d.busV s) 0 0)

/-- Sends one down frame: SEQ increments except on BLOCK (R192). -/
def Dev.sendDown (d : Dev) (s : Nat) (f : DownFrame) : Dev :=
  let x := d.str s
  if f.typ = 3 then (d.setStr s { x with inflight := 3, staged := none }).emit (.down s f)
  else
    let q := (x.seq + 1) % 16
    let f := { f with seq := q }
    (d.setStr s { x with seq := q, inflight := f.typ, last := f, staged := none }).emit (.down s f)

/-- Step 7 of the control period: the down frame starts on every present string (R188, R214). -/
def downFrameStart (d : Dev) : Dev :=
  forAll 64 d fun d s => match d.frameFor s with
    | some f => d.sendDown s f
    | none => d

/-- A pre-emptive BLOCK on one string: any frame in progress is cut, an abort gap and a BLOCK frame follow; the cut frame
does not count for SEQ (R192, R197). Nothing is sent where the mode leaves the lines idle (R63). -/
def Dev.blockString (d : Dev) (s : Nat) : Dev :=
  if !d.present s || !((d.drives && (d.mode.drivesLink || d.mode.blockOnly)) || d.mirrors) then d
  else
    let x := d.str s
    let q := if x.inflight ≠ 0 ∧ x.inflight ≠ 3 then (x.seq + 15) % 16 else x.seq
    ((d.setStr s { x with seq := q, inflight := 3, staged := none }).emit (.abortGap s)).emit (.down s blockFrame)

/-- A pre-emptive BLOCK to these strings leaves the balls: one is present, and the module drives their `DN` pairs (R199). -/
def Dev.blockLeaves (d : Dev) (ss : List Nat) : Bool :=
  d.drives && !(d.duplex && d.dup.dnOff) && (d.mode.drivesLink || d.mode.blockOnly) && ss.any d.present

/-- A slot enters HELD: s, I and u are 0 (R249); its integrator leaves the limit that SAT stands for, unless the limit is 0 (R259). -/
def Dev.holdSlot (d : Dev) (i : Nat) : Dev :=
  let d := if d.getI (Reg.TUN_IMIN_LIMIT i) = 0 ∨ d.getI (Reg.TUN_IMAX_LIMIT i) = 0 then d else d.set (Reg.TUN_SSTAT_SAT i) 0
  let d := d.modSlot i fun x => { x with i := 0, vi := 0, held := true, ran := false }
  ((((d.set (Reg.TUN_SPEFF_VALUE i) 0).set (Reg.TUN_OUT_VALUE i) 0).set (Reg.TUN_INTEG_I i) 0).set
    (Reg.TUN_VINTEG_I i) 0).set (Reg.TUN_SSTAT_STATE i) 3

/-- A BLOCK demand for an outlet's arc: every string of the arc, its slots HELD, its moves frozen (R197, R249, R137). -/
def Dev.blockArc (d : Dev) (n : Nat) : Dev :=
  let ss := d.arcStrings n
  let d := (if d.blockLeaves ss then d.addSat Reg.STR_BLOCKSTAT_COUNT 1 else d).setBit Reg.STR_BLOCKSTAT_HELD n true
  let d := ss.foldl Dev.blockString d
  let d := d.modOut n fun o => { o with blockAt := some d.period }
  let d := d.holdSlot n
  let d := ss.foldl (fun d s => d.holdSlot (16 + s)) d
  -- R265, R272: a running tuning aid aborts
  let d := { d with pluck := { d.pluck with block := d.pluck.on }, bow := { d.bow with block := d.bow.on } }
  (d.arcCourses n).foldl
    (fun d c => if (d.course c).step = 0 then d
      else (d.modCourse c fun x => { x with frozenMove := true }).set (Reg.INK_COURSE_STATE c) 4) d

/-- BLOCK on every arc (R23, R30, R32, R58). -/
def Dev.blockAll (d : Dev) : Dev :=
  let d := forAll 16 d fun d n =>
    if d.arcCourses n ≠ [] ∨ d.live n then d.blockArc n else d
  forAll 64 d fun d s => if d.courseArc (s / 4) < 16 then d else d.blockString s

def blockDemand (n : Nat) (d : Dev) : Dev := d.blockArc n

/-! ### Receiving -/

/-- The admission rule of R207 over the pages received. -/
def Dev.identPass (d : Dev) (s : Nat) : Bool :=
  let x := d.str s
  let pg := fun k => tget 0 x.pages k
  !x.identBad && decide (pg 6 % 65536 = 1) && decide (d.get Reg.INK_CELLCFG_IMAX ≤ pg 3 / 65536) &&
  decide (d.get Reg.INK_CELLCFG_PMAX ≤ pg 4 / 65536)

/-- A reply to IDENT: the page it carries; when pages 0 to 6 are in, the string is admitted or its event is raised
(R205 to R207). -/
def Dev.identReply (d : Dev) (s : Nat) (f : UpFrame) : Dev :=
  let x := d.str s
  let page := x.last.trim % 16
  let x := { x with
    pages := tput 0 x.pages page (f.cur * 65536 + f.volt), identGot := x.identGot ||| 2 ^ page,
    identDue := withBit x.identDue page false, identBad := x.identBad || decide (f.temp ≠ s) }
  let d := d.setStr s x
  if x.identDue = 0 ∧ x.identGot % 128 = 127 then
    if d.identPass s then (d.set (Reg.STR_STRSTAT_IDOK s) 1).countHealthy
    else ((d.set (Reg.STR_STRSTAT_IDOK s) 0).countHealthy).raise (48 + s / 8) s
  else d

/-- A slot taken out of service serves again: its string recovered, or its outlet's session has ended (R218, R258, R314). -/
def Dev.serveSlot (d : Dev) (i : Nat) : Dev :=
  if (d.slot i).outOfService then (d.set (Reg.TUN_SSTAT_POISONCNT i) 0).modSlot i fun x => { x with outOfService := false } else d

/-- Clears a string fault and sends the string through identification again (R207, R218). -/
def Dev.readmit (d : Dev) (s : Nat) : Dev :=
  let d := (d.set (Reg.STR_STRSTAT_FAULT s) 0).setBit2 Reg.STR_FAULT_LO_FAULT Reg.STR_FAULT_HI_FAULT s false
  let d := (d.set (Reg.INK_STRING_STATE s) 0).set (Reg.STR_STRSTAT_IDOK s) 0
  (d.serveSlot (16 + s)).modStr s fun x =>
    { x with identDue := 127, identGot := 0, identBad := false, readmit := false, thermHold := false }

/-- An up frame of 104 received bits (R201, R215): counted when it fails; its fields kept when it is valid. -/
def upFrame (s : Nat) (w : Nat) (symbolsOk : Bool) (d : Dev) : Dev :=
  if !d.present s then d
  else match (if symbolsOk then decodeUp w else none) with
  | none => (d.addSat (Reg.STR_STRERR_CRCERR s) 1).modStr s fun x => { x with heard := true }
  | some f =>
    let x := d.str s
    let hot := decide (10 * (d.get Reg.THM_STRLIM_TRIP : Int) ≤ toSigned 12 f.temp) || f.overTemp
    let meas := f.typ ≠ 5 ∧ f.typ ≠ 6
    let d := d.setStr s { x with
      heard := true, fresh := decide (f.seq = x.expect),
      up := if meas then f else { x.up with status := f.status, typ := f.typ, seq := f.seq },
      hotRun := if !meas then x.hotRun else if hot then x.hotRun + 1 else 0 }
    let d := (d.set (Reg.STR_STRSTAT_CELLSTATE s) f.state).set (Reg.STR_STRSTAT_STATUS s) f.status
    -- R373: a string released from a thermal latch is readmitted once its cell reports STOPPED
    let d := if x.thermHold ∧ f.state = 6 then d.readmit s else d
    if f.typ = 5 ∧ x.opened = 5 ∧ f.seq = x.expect then d.identReply s f else d

/-- Signed quantities of a valid up frame: voltage in mV, current in mA, power in W, temperature in 0.01 °C (STR_TELAVG). The product
of a period is rounded down to whole W, the register's unit, before it enters peaks and averages: the model's choice (log 109). -/
def upQuantity (f : UpFrame) : Nat → Int
  | 0 => 25 * (f.volt : Int)
  | 1 => 20 * toSigned 16 f.cur
  | 2 => 25 * (f.volt : Int) * (20 * toSigned 16 f.cur) / 1000000
  | _ => 10 * toSigned 12 f.temp

/-- Takes a value into a maximum and a minimum register; a peak restarted by a read is seeded with it (R230). -/
def Dev.peak (d : Dev) (seeds q : Nat) (mx mn : Fld) (v : Int) : Dev :=
  let d := if seeds.testBit q ∨ d.getI mx < v then d.setI mx v else d
  if seeds.testBit (4 + q) ∨ v < d.getI mn then d.setI mn v else d

/-- A string's telemetry of one period (R228 to R230). -/
def Dev.strTelemetry (d : Dev) (s : Nat) : Dev :=
  let x := d.str s
  let f := x.up
  let d := forAll 4 d fun d q => d.peak x.seeds q (Reg.STR_TELMAX_VALUE s q) (Reg.STR_TELMIN_VALUE s q) (upQuantity f q)
  d.setStr s { x with
    sumV := x.sumV + upQuantity f 0, sumI := x.sumI + upQuantity f 1, sumP := x.sumP + upQuantity f 2,
    sumT := x.sumT + upQuantity f 3, winN := x.winN + 1, seeds := 0 }

/-- The end of the up-frame window of a period: a string without a valid frame that echoes its SEQ has lost the period
(R215); valid periods count toward recovery (R218). -/
def Dev.closeUpWindow (d : Dev) : Dev :=
  forAll 64 d fun d s =>
    if !d.present s then d
    else
      let x := d.str s
      if x.fresh then
        let d := (d.set (Reg.STR_STRSTAT_LOST s) 0).modStr s fun x => { x with validRun := x.validRun + 1 }
        if x.up.typ = 5 ∨ x.up.typ = 6 then d else d.strTelemetry s
      else
        let d := if x.heard then d else d.addSat (Reg.STR_STRERR_MISSING s) 1
        (d.addSat (Reg.STR_STRSTAT_LOST s) 1).modStr s fun x => { x with validRun := 0, staged := none }

/-- Marks an arc whose weights are due at the next control-period boundary. -/
def Dev.markArc (d : Dev) (n : Nat) : Dev := if n < 16 then { d with arcDirty := withBit d.arcDirty n true } else d

/-- A string fault: FAULT, the string's bit, EV048 + ⌊s / 8⌋, and removal from its arc at the next boundary (R217, R143). -/
def Dev.faultString (d : Dev) (s : Nat) : Dev :=
  if d.get (Reg.STR_STRSTAT_FAULT s) = 1 then d
  else
    let arc := d.courseArc (s / 4)
    let d := (d.set (Reg.STR_STRSTAT_FAULT s) 1).setBit2 Reg.STR_FAULT_LO_FAULT Reg.STR_FAULT_HI_FAULT s true
    -- a thermally latched string stays so (R373)
    let d := if d.inkState s = 7 then d else d.set (Reg.INK_STRING_STATE s) 4
    let d := d.modStr s fun x => { x with staged := none, validRun := 0, identDue := 0 }
    ((d.countHealthy).markArc arc).raise (48 + s / 8) s

/-- The conditions of R217: eight consecutive lost periods; an active string that reports RUNDOWN, STOPPED, UNSYNC or
FAULT; or a string slot out of service (R258). -/
def Dev.stringFails (d : Dev) (s : Nat) : Bool :=
  let f := (d.str s).up
  let active := d.inkState s = 1 || d.inkState s = 2
  d.present s && (decide (8 ≤ d.get (Reg.STR_STRSTAT_LOST s)) ||
    (active && (f.state = 5 || f.state = 6 || f.state = 0 || f.fault)) || (d.slot (16 + s)).outOfService)

def stringFault (s : Nat) (d : Dev) : Dev := if d.stringFails s ∧ d.inkState s ≠ 5 then d.faultString s else d

/-- Seconds of counter time until the oldest retry leaves a window, rounded up. -/
def nextExpiry (window clock : Nat) (retries : List Nat) : Nat :=
  match retries with
  | [] => 0
  | t :: _ => (window * 1000000000 - (clock - t) + 999999999) / 1000000000

/-- A string's retry counter: the retries that stand, COUNT and NEXT (R316). -/
def Dev.strRetries (d : Dev) (s : Nat) (l : List Nat) : Dev :=
  let d := d.modStr s fun x => { x with retries := l }
  (d.set (Reg.OUT_STRCNT_COUNT s) l.length).set (Reg.OUT_STRCNT_NEXT s) (nextExpiry 3600 (d.str s).clock l)

/-- A faulted string, or one whose latch the host cleared, whose frames were valid for 64 periods and whose cell is READY or STOPPED
(R218, R317): one retry recorded and readmission, or the latch when 3 retries stand (R316). While a thermal latch covers it nothing is
recorded; of a string that is latched itself the fault clears, and the release of the latch readmits it (R318, R373). -/
def stringRecovery (s : Nat) (d : Dev) : Dev :=
  let x := d.str s
  let back := decide (64 ≤ x.validRun) && (x.up.state = 1 || x.up.state = 6) && !x.up.fault
  if (d.get (Reg.STR_STRSTAT_FAULT s) = 0 ∧ !x.readmit) ∨ !back ∨ d.inkState s = 5 then d
  else if d.get (Reg.OUT_STRCNT_FROZEN s) = 1 then
    if d.strFrozen s then
      ((d.set (Reg.STR_STRSTAT_FAULT s) 0).setBit2 Reg.STR_FAULT_LO_FAULT Reg.STR_FAULT_HI_FAULT s false).serveSlot (16 + s)
    else d
  else if x.retries.length < 3 then
    (d.strRetries s (x.retries ++ [x.clock])).readmit s
  else
    let d := (d.setBit2 Reg.OUT_STRLATCH_LO_LATCH Reg.OUT_STRLATCH_HI_LATCH s true).set (Reg.OUT_STRCNT_LATCHED s) 1
    d.set (Reg.INK_STRING_STATE s) 5

/-- A host command waits for the next control-period boundary (R49). -/
def Dev.await (d : Dev) (a : HostAct) : Dev := { d with hostNext := d.hostNext ++ [a] }

/-- A string's latch and counter clear; the string is readmitted once R218 holds (R317). -/
def Dev.clearStrLatch (d : Dev) (s : Nat) : Dev :=
  if !d.bit2 Reg.OUT_STRLATCH_LO_LATCH Reg.OUT_STRLATCH_HI_LATCH s then d
  else
    let d := (d.setBit2 Reg.OUT_STRLATCH_LO_LATCH Reg.OUT_STRLATCH_HI_LATCH s false).set (Reg.OUT_STRCNT_LATCHED s) 0
    let d := (d.strRetries s []).modStr s fun x => { x with readmit := true, validRun := 0 }
    d.set (Reg.INK_STRING_STATE s) 4

/-- Writing 1 clears a string's latch, at the next control-period boundary (R49, R317). -/
def outStrlatchClear (s : Nat) (d : Dev) : Dev := d.await (.strlatch s)

/-- IDENT pages 0 to 6 are due on the given strings (R207). -/
def Dev.identAll (d : Dev) (p : Nat → Bool) : Dev :=
  forAll 64 d fun d s => if d.present s ∧ p s then
      d.modStr s fun x => { x with identDue := 127, identGot := 0, identBad := false }
    else d

/-- STR_CMD.REIDENT: every present string in READY or STOPPED, at the next control-period boundary (R49, R207). -/
def strCmdReident (d : Dev) : Dev := d.await .reident

/-- A host command takes effect. -/
def Dev.hostAct (d : Dev) : HostAct → Dev
  | .reident => d.identAll fun s => (d.str s).up.state = 1 || (d.str s).up.state = 6
  | .strlatch s => d.clearStrLatch s

/-- The host commands that waited for a control-period boundary take effect, in their order (R49). -/
def Dev.hostActs (d : Dev) : Dev := d.hostNext.foldl Dev.hostAct { d with hostNext := [] }

/-- STR_CMD.CLRCNT clears every STR_STRERR counter. -/
def strCmdClrcnt (d : Dev) : Dev :=
  forAll 64 d fun d s => (d.set (Reg.STR_STRERR_CRCERR s) 0).set (Reg.STR_STRERR_MISSING s) 0

/-! ### Telemetry windows and peaks -/

/-- The averages of a window (log 13); a window without a valid period reads 0 (R228, R229). -/
def avg (sum : Int) (n : Nat) : Int := if n = 0 then 0 else quot sum n

/-- The highest temperature among the active strings of an arc, in 0.01 °C; 0 with none (R229). -/
def Dev.arcTemp (d : Dev) (n : Nat) : Int :=
  match (d.activeStrings n).map (fun s => 10 * toSigned 12 (d.str s).up.temp) with
  | [] => 0
  | t :: ts => ts.foldl max t

/-- An outlet's quantities of one period: regulating voltage in mV, sensed current in mA, power in W rounded down (log 109), temperature
(R229). -/
def Dev.outQuantity (d : Dev) (n : Nat) : Nat → Int
  | 0 => 100 * d.regV n
  | 1 => 100 * (d.out n).senseI
  | 2 => d.regV n * (d.out n).senseI / 100
  | _ => d.arcTemp n

/-- An outlet's telemetry of one period. -/
def Dev.outTelemetry (d : Dev) (n : Nat) : Dev :=
  let t := d.outTel n
  let d := forAll 4 d fun d q => d.peak t.seeds q (Reg.STR_OUTMAX_VALUE n q) (Reg.STR_OUTMIN_VALUE n q) (d.outQuantity n q)
  d.setOutTel n { seeds := 0, n := t.n + 1, sums := (List.range 4).map fun q => t.sums.getD q 0 + d.outQuantity n q }

/-- A window of 2^K periods ends where the period number is a multiple of 2^K and the present window began before it. -/
def Dev.windowDue (d : Dev) : Bool := decide (d.period % 2 ^ d.get Reg.STR_TELCFG_K = 0 ∧ d.telWin ≠ d.period)

/-- A window ends: every average register updates and a new window begins (R228, R229). -/
def telemetryWindowEnd (d : Dev) : Dev :=
  if !d.windowDue then d
  else
  let d := forAll 64 { d with telWin := d.period } fun d s =>
    let x := d.str s
    let put := fun (d : Dev) q v => d.setI (Reg.STR_TELAVG_VALUE s q) (avg v x.winN)
    let d := put (put (put (put d 0 x.sumV) 1 x.sumI) 2 x.sumP) 3 x.sumT
    d.setStr s { x with sumV := 0, sumI := 0, sumP := 0, sumT := 0, winN := 0 }
  forAll 16 d fun d n =>
    let t := d.outTel n
    let d := forAll 4 d fun d q => d.setI (Reg.STR_OUTAVG_VALUE n q) (avg (t.sums.getD q 0) t.n)
    d.setOutTel n { t with n := 0, sums := [] }

/-! ### Interleave sync (R221 to R223) -/

/-- The last interval between SYNC_IN edges lies within half a percent of the configured period (in ns). -/
def Dev.syncInRate (d : Dev) (interval : Nat) : Bool :=
  let p := d.periodUs * 1000
  decide (interval * 1000 ≤ p * 1005 ∧ p * 995 ≤ interval * 1000)

/-- An edge is missing, and with it a period within 0.1 % (R223); the third in succession puts TB2 into GLIDE, with EV006 (R221,
R222). -/
def Dev.syncMissed (d : Dev) : Dev :=
  let d := { d.addSat Reg.TB_TB2STAT_MISSED 1 with syncGood := 0, syncNear := 0 }
  let st := d.get Reg.TB_TB2STAT_STATE
  if 3 ≤ d.get Reg.TB_TB2STAT_MISSED ∧ (st = 1 ∨ st = 3) then (d.set Reg.TB_TB2STAT_STATE 2).raise 6 0 else d

/-- A SYNC_IN edge; one at a bad interval counts as missing (R221). The fourth good one in succession is SYNC_IN's return:
EV006 (R223). -/
def syncInEdge (interval : Nat) (phaseErr : Int) (d : Dev) : Dev :=
  if d.get Reg.TB_TB2CFG_SRC = 0 ∨ (d.duplex ∧ d.drives) then d
  else
    let st := d.get Reg.TB_TB2STAT_STATE
    if !d.syncInRate interval then d.syncMissed
    else
      let d := (d.set Reg.TB_TB2STAT_MISSED 0).setI Reg.TB_TB2STAT_PHASE_ERR phaseErr
      let d := { d with syncGood := d.syncGood + 1 }
      if st = 3 then
        { d with syncNear := if -65 ≤ phaseErr ∧ phaseErr ≤ 65 then d.syncNear + 1 else 0 }
      else if (st = 0 ∨ st = 2) ∧ 4 ≤ d.syncGood then
        ({ d with syncNear := 0 }.set Reg.TB_TB2STAT_STATE 3).raise 6 0
      else d

/-- An expected edge did not come (R221, R222). -/
def syncInMissing (d : Dev) : Dev := if d.get Reg.TB_TB2CFG_SRC = 0 then d else d.syncMissed

def glideComplete (d : Dev) : Dev :=
  if d.get Reg.TB_TB2STAT_STATE = 2 then d.set Reg.TB_TB2STAT_STATE 0 else d

/-- 16 periods within 0.1 % of a period: LOCKED (R223). -/
def relockComplete (d : Dev) : Dev :=
  if d.get Reg.TB_TB2STAT_STATE = 3 ∧ 16 ≤ d.syncNear then d.set Reg.TB_TB2STAT_STATE 1 else d

/-! ### Remote sense (R225 to R227, R660) -/

def Dev.cable (d : Dev) (n : Nat) : CableCtx := tget {} d.therm.cables n

/-- The cable type of an outlet. -/
def Dev.cabType (d : Dev) (n : Nat) : Nat := d.get (Reg.CAB_OCFG_TYPE n)

/-- r at a temperature in 1/65,536 K, in Ω × 10¹⁵ × 2¹⁶ (R364). -/
def Dev.cabR (d : Dev) (n : Nat) (tc : Int) : Int :=
  let t := d.cabType n
  (d.get (Reg.CAB_TRES_R20 t) * d.get (Reg.CAB_TGEOM_LEN t) : Nat) *
    (1000000 * 65536 + d.get (Reg.CAB_TRES_ALPHA t) * (tc - 20 * 65536))

/-- The sense voltage differs from the metering voltage less the drop of the cable, at its present conductor temperature, by more
than TOL (R225). -/
def Dev.implausible (d : Dev) (n : Nat) : Bool :=
  let o := d.out n
  let unit : Int := 10 ^ 15 * 2 ^ 16
  decide (10 * d.get Reg.STR_SENSECFG_TOL * unit <
    (((o.senseV - o.meterV) * unit + o.senseI * d.cabR n (d.cable n).tc).natAbs : Int))

/-- Both feedback inputs of the outlet read closed. -/
def Dev.bothClosed (d : Dev) (n : Nat) : Bool := d.bit Reg.SAF_FBSTAT_BITS (2 * n) && d.bit Reg.SAF_FBSTAT_BITS (2 * n + 1)

/-- A condition of R225 can be judged: of an outlet with a type, plausibility only while both contactors read closed (R660). -/
def Dev.senseJudged (d : Dev) (n kind : Nat) : Bool :=
  decide (d.get (Reg.OUT_CFG_TYPE n) ≠ 0) && (decide (kind ≠ 2) || d.bothClosed n)

/-- Sense fallback from the next control-period boundary (R226). -/
def Dev.senseFallback (d : Dev) (n : Nat) : Dev := d.modOut n fun o => { o with fallNext := true }

/-- The fallback that was due takes effect. -/
def Dev.settleFallback (d : Dev) (n : Nat) : Dev :=
  if !(d.out n).fallNext then d
  else ((d.modOut n fun o => { o with fallNext := false }).setBit Reg.STR_SENSE_FALLBACK n true).set (Reg.OUT_SESS_FALLBACK n) 1

/-- A sense-loss condition stands no more; the sense is lost while any other does (R225). -/
def Dev.senseGone (d : Dev) (n kind : Nat) : Dev :=
  let rest := withBit (d.out n).senseBad kind false
  (d.modOut n fun o => { o with senseBad := rest }).setBit Reg.STR_SENSE_LOST n (decide (rest ≠ 0))

/-- A sense-loss condition has stood for 1 ms, or has gone. Kind 0 range, 1 common mode, 2 plausibility, which the device computes
itself (R225, R660). -/
def senseLoss (n kind : Nat) (present : Bool) (d : Dev) : Dev :=
  if !d.senseJudged n kind ∨ (kind = 2 ∧ d.implausible n ≠ present) then d
  else if !present then d.senseGone n kind
  else if (d.out n).senseBad.testBit kind then d
  else
    let d := d.modOut n fun o => { o with senseBad := withBit o.senseBad kind true }
    let d := (d.setBit Reg.STR_SENSE_LOST n true).raiseOut n Reg.OUT_EVCAUSE_SENSE
    if d.live n then d.senseFallback n else d

end Sys2Proof.Machine
end

