-- ==== Sys2Proof/Machine/Tuner.lean ====
section
/-! DEFINITION. The Tuner: the control law, the slew limiter, fretboards, the two laws of an outlet slot and the split, the
power pass and the thermal pass, poison and saturation (R231 to R259). -/

namespace Sys2Proof.Machine

/-! ### The law's arithmetic -/

/-- The step of a slew rate over Δt µs, truncated; none when the rate is 0, which switches the direction off (R242, R243). -/
def slewStep (rate dt : Nat) : Option Nat := if rate = 0 then none else some (rate * dt / 1000000)

/-- Moves a magnitude toward a target magnitude by at most a step. -/
def moveBy (step : Option Nat) (a b : Nat) : Nat :=
  match step with
  | none => b
  | some k => if a ≤ b then min b (a + k) else max b (a - k)

/-- The slew limiter (R242): rise while |s| grows, fall while it shrinks, and the two parts of a move across zero. -/
def slew (s sp : Int) (rise fall dt : Nat) : Int :=
  let r := slewStep rise dt
  let f := slewStep fall dt
  let a := s.natAbs
  let b := sp.natAbs
  let sgn : Int := if s < 0 ∨ (s = 0 ∧ sp < 0) then -1 else 1
  if (s < 0 ∧ 0 < sp) ∨ (0 < s ∧ sp < 0) then
    match f with
    | none => -sgn * (moveBy r 0 b : Nat)
    | some k =>
      if k < a then sgn * ((a - k : Nat) : Int)
      else match r with
        | none => sp
        | some j => -sgn * (min b (min (k - a) j) : Nat)
  else if a ≤ b then sgn * (moveBy r a b : Nat)
  else sgn * (moveBy f a b : Nat)

/-- The multiplier between two frets, truncated toward zero (R241). -/
def fretMix (m0 m1 b0 b1 e : Nat) : Int :=
  (m0 : Int) + (((m1 : Int) - m0) * ((e : Int) - b0)).tdiv ((b1 : Int) - b0)

/-- The multiplier of one column of a fretboard at |e|: frets as (breakpoint, multiplier) in ascending order (R241). -/
def fretAt : List (Nat × Nat) → Nat → Int
  | [], _ => 0
  | [(_, m)], _ => m
  | (b0, m0) :: (b1, m1) :: rest, e =>
    if e ≤ b0 then m0
    else if e ≤ b1 ∧ (e < b1 ∨ rest ≠ []) then fretMix m0 m1 b0 b1 e
    else fretAt ((b1, m1) :: rest) e

/-- The frets of a board for a column of multipliers. -/
def Dev.frets (d : Dev) (b : Nat) (mul : Nat → Nat → Fld) : List (Nat × Nat) :=
  (List.range (min 16 (d.get (Reg.TUN_BOARD_COUNT b)))).map fun f => (d.get (Reg.TUN_FRETBRK_BRK b f), d.get (mul b f))

/-- A valid fretboard: at least one fret and strictly rising breakpoints (R255). -/
def risesStrictly : List Nat → Bool
  | a :: b :: rest => decide (a < b) && risesStrictly (b :: rest)
  | _ => true

def Dev.boardValid (d : Dev) (b : Nat) : Bool :=
  decide (1 ≤ d.get (Reg.TUN_BOARD_COUNT b)) && risesStrictly ((d.frets b Reg.TUN_FRETMUL_KPM).map (·.1))

def clampI (lo hi v : Int) : Int := max lo (min hi v)

/-- Arithmetic right shift, which floors (R239). -/
def sar (v : Int) (n : Nat) : Int := v / (2 ^ n : Nat)

/-- The gains of one law at an error: kp and ki after the fretboard (R240). -/
def Dev.gains (d : Dev) (kp ki : Fld) (board : Nat) (e : Int) : Int × Int :=
  (sar (d.get kp * fretAt (d.frets board Reg.TUN_FRETMUL_KPM) e.natAbs) 12,
   sar (d.get ki * fretAt (d.frets board Reg.TUN_FRETMUL_KIM) e.natAbs) 12)

/-- The proportional term: (kp × e) >> 16 (R240). -/
def propTerm (kp e : Int) : Int := sar (kp * e) 16

/-- The integrator's step in Q.16: ki × e × Δt / 10⁶, truncated (R240). -/
def integStep (ki e : Int) (dt : Nat) : Int := (ki * e * dt).tdiv 1000000

/-- The integrator clamp (R240). -/
def Dev.clampInt (d : Dev) (i : Nat) (v : Int) : Int :=
  clampI (d.getI (Reg.TUN_IMIN_LIMIT i) * 65536) (d.getI (Reg.TUN_IMAX_LIMIT i) * 65536) v

/-- The output clamp (R240). -/
def Dev.clampOut (d : Dev) (i : Nat) (v : Int) : Int :=
  clampI (d.getI (Reg.TUN_UMIN_LIMIT i)) (d.getI (Reg.TUN_UMAX_LIMIT i)) v

/-! ### Injection of a bow sweep -/

/-- The PRBS register after one bit: order n, taps n and m. The polynomial is R270's; that the register shifts toward its stage n, whose
content is the bit sent, is the model's choice (log 117). -/
def lfsrNext (n m v : Nat) : Nat :=
  let b := (v.testBit (n - 1)) != (v.testBit (m - 1))
  (v * 2) % 2 ^ n + flag b

/-- Order and second tap of the PRBS of a SIGNAL code (R270). -/
def prbsTaps : Nat → Nat × Nat
  | 0 => (9, 5)
  | 1 => (11, 9)
  | _ => (15, 14)

/-- Largest r below 2^bits whose test holds, by bisection; the test holds up to some point and not beyond. -/
def bisect (p : Nat → Bool) : Nat → Nat → Nat
  | 0, acc => acc
  | k + 1, acc => if p (acc + 2 ^ k) then bisect p k (acc + 2 ^ k) else bisect p k acc

/-- The phase increment of step k of a stepped sine: round(f × period × 2³²) with f = F0 × (F1/F0)^(k/(STEPS − 1)), F in
0.1 Hz, period in µs, exactly (R270). -/
def sineStep (f0 f1 steps k p : Nat) : Nat :=
  let m := steps - 1
  let target := f0 ^ (m - k) * f1 ^ k * (2 * p * 2 ^ 32) ^ m
  bisect (fun r => decide ((2 * r - 1) ^ m * 10000000 ^ m ≤ target)) 32 0

/-- The full scale a sweep's amplitude is taken from (R268). -/
def Dev.bowRating (d : Dev) (slot : Nat) : Nat :=
  let out := d.get Reg.TUN_BOWCFG_INJECT = 1
  if slot < 16 then (if out then 10 else 1) * d.get (Reg.OUT_RATING_IMAX slot)
  else if out then 32768 else 10 * d.get Reg.INK_CELLCFG_IMAX

def Dev.bowAmp (d : Dev) (slot : Nat) : Nat := d.bowRating slot * d.get Reg.TUN_BOWCFG_AMP / 1000

/-- ⌊2¹⁵ sin (2π k / 1024)⌋ for k = 0 to 256. -/
def sineQuarter : List Nat :=
  [0, 201, 402, 603, 804, 1005, 1206, 1407, 1607, 1808, 2009, 2210, 2410, 2611, 2811, 3011] ++
  [3211, 3411, 3611, 3811, 4011, 4210, 4409, 4609, 4808, 5006, 5205, 5403, 5602, 5800, 5997, 6195] ++
  [6392, 6589, 6786, 6983, 7179, 7375, 7571, 7766, 7961, 8156, 8351, 8545, 8739, 8933, 9126, 9319] ++
  [9512, 9704, 9896, 10087, 10278, 10469, 10659, 10849, 11039, 11228, 11416, 11605, 11793, 11980, 12167, 12353] ++
  [12539, 12725, 12910, 13094, 13278, 13462, 13645, 13828, 14010, 14191, 14372, 14552, 14732, 14912, 15090, 15269] ++
  [15446, 15623, 15800, 15976, 16151, 16325, 16499, 16673, 16846, 17018, 17189, 17360, 17530, 17700, 17869, 18037] ++
  [18204, 18371, 18537, 18703, 18868, 19032, 19195, 19358, 19519, 19681, 19841, 20001, 20159, 20318, 20475, 20631] ++
  [20787, 20942, 21097, 21250, 21403, 21555, 21706, 21856, 22005, 22154, 22301, 22448, 22594, 22740, 22884, 23027] ++
  [23170, 23312, 23453, 23593, 23732, 23870, 24007, 24144, 24279, 24414, 24547, 24680, 24812, 24943, 25073, 25201] ++
  [25330, 25457, 25583, 25708, 25832, 25955, 26077, 26199, 26319, 26438, 26557, 26674, 26790, 26905, 27020, 27133] ++
  [27245, 27356, 27466, 27576, 27684, 27791, 27897, 28002, 28106, 28208, 28310, 28411, 28511, 28609, 28707, 28803] ++
  [28898, 28993, 29086, 29178, 29269, 29359, 29447, 29535, 29621, 29707, 29791, 29874, 29956, 30037, 30117, 30196] ++
  [30273, 30350, 30425, 30499, 30572, 30644, 30714, 30784, 30852, 30919, 30985, 31050, 31114, 31176, 31237, 31298] ++
  [31357, 31414, 31471, 31526, 31581, 31634, 31685, 31736, 31785, 31834, 31881, 31927, 31971, 32015, 32057, 32098] ++
  [32138, 32176, 32214, 32250, 32285, 32319, 32351, 32383, 32413, 32442, 32469, 32496, 32521, 32545, 32568, 32589] ++
  [32610, 32629, 32647, 32663, 32679, 32693, 32706, 32718, 32728, 32737, 32745, 32752, 32758, 32762, 32765, 32767] ++
  [32768]

/-- Entry k of the 1,024-entry sine table of R270, at full scale 2¹⁵: the sine rounded down in magnitude, or the next value, where it is
not whole (log 117). -/
def sineAt (k : Nat) : Int :=
  let r := k % 256
  let j := if k / 256 % 2 = 1 then 256 - r else r
  let a := sineQuarter.getD j 0 + flag (decide (0 < j ∧ j < 256) && Config.sineUp k)
  if k / 256 % 4 < 2 then a else -(a : Int)

/-- The value a running sweep injects into a slot at this evaluation; 0 when it has nothing left to send. -/
def Dev.bowValue (d : Dev) (i : Nat) : Int :=
  let b := d.bow
  if !b.on ∨ b.slot ≠ i ∨ b.done ∨ b.full then 0
  else
    let amp : Int := d.bowAmp i
    if d.get Reg.TUN_BOWCFG_SIGNAL < 3 then
      let n := (prbsTaps (d.get Reg.TUN_BOWCFG_SIGNAL)).1
      if b.lfsr.testBit (n - 1) then amp else -amp
    else (amp * sineAt (b.phase / 2 ^ 22)).tdiv 32768

/-- The sweep's generator after one control period: CHIP counts periods, and the phase advances by f × period (R270). -/
def Dev.bowAdvance (d : Dev) : Dev :=
  let b := d.bow
  if d.get Reg.TUN_BOWCFG_SIGNAL < 3 then
    let (n, m) := prbsTaps (d.get Reg.TUN_BOWCFG_SIGNAL)
    if b.chip + 1 < d.get Reg.TUN_BOWPRBS_CHIP then { d with bow := { b with chip := b.chip + 1 } }
    else { d with bow := { b with
      chip := 0, lfsr := lfsrNext n m b.lfsr, bits := b.bits + 1, done := decide (2 ^ n - 1 ≤ b.bits + 1) } }
  else
    let inc := sineStep (d.get Reg.TUN_BOWSINE_F0) (d.get Reg.TUN_BOWSINE_F1) (d.get Reg.TUN_BOWSINE2_STEPS) b.bits
      d.periodUs
    let ph := b.phase + inc
    if ph < 2 ^ 32 then { d with bow := { b with phase := ph } }
    else if b.chip + 1 < d.get Reg.TUN_BOWSINE2_DWELL then
      { d with bow := { b with phase := ph - 2 ^ 32, chip := b.chip + 1 } }
    else { d with bow := { b with
      phase := 0, chip := 0, bits := b.bits + 1, done := decide (d.get Reg.TUN_BOWSINE2_STEPS ≤ b.bits + 1) } }

/-- A control period of a running sweep has passed. -/
def Dev.bowTick (d : Dev) : Dev := if d.bow.on ∧ !d.bow.done ∧ !d.bow.full then d.bowAdvance else d

/-- Records a sample of a running sweep (R271): of each DECIM evaluations the first, which is the model's choice (log 118). -/
def Dev.bowSample (d : Dev) (i : Nat) (s e u : Int) : Dev :=
  let b := d.bow
  if !b.on ∨ b.slot ≠ i ∨ b.done ∨ b.full then d
  else
    let take := decide (b.evals % d.get Reg.TUN_BOWCFG_DECIM = 0)
    let n := d.get Reg.TUN_BOWSTAT_SAMPLES
    let d := if take then
        (d.putSram b.bank (16 * n) (leBytes 4 (d.period % 2 ^ 32) ++ leBytes 4 (ofSigned 32 s) ++
          leBytes 4 (ofSigned 32 e) ++ leBytes 4 (ofSigned 32 u))).set Reg.TUN_BOWSTAT_SAMPLES (n + 1)
      else d
    { d with bow := { b with evals := b.evals + 1, full := take && decide (16384 ≤ n + 1) } }

/-! ### Evaluations -/

/-- Marks a slot as evaluated in this period with the given state code. -/
def Dev.slotRan (d : Dev) (i st : Nat) : Dev :=
  let d := (d.set (Reg.TUN_SSTAT_STATE i) st).set (Reg.TUN_SSTAT_LASTPER i) d.period
  d.modSlot i fun x => { x with ran := true, ranPeriod := d.period, held := false }

/-- The slot was not evaluated in its evaluation before this one, or was HELD: the presets of R245 apply. -/
def Dev.slotFresh (d : Dev) (i : Nat) : Bool :=
  let x := d.slot i
  x.held || !x.ran || (decide (i < 80) && decide (x.ranPeriod + 1 < d.period))

/-- A slot that is not evaluated says so, unless it is HELD or MANUAL_HELD. -/
def Dev.slotIdle (d : Dev) (i : Nat) : Dev :=
  let st := d.get (Reg.TUN_SSTAT_STATE i)
  if st = 0 ∨ st = 3 ∨ st = 7 then d else d.set (Reg.TUN_SSTAT_STATE i) 0

/-- An uncorrectable read: the last output stands, the integrator is unchanged (R257). -/
def Dev.slotPoison (d : Dev) (i : Nat) : Dev :=
  let first := d.get (Reg.TUN_SSTAT_POISON i) = 0
  let d := ((d.set (Reg.TUN_SSTAT_POISON i) 1).addSat (Reg.TUN_SSTAT_POISONCNT i) 1).slotRan i 6
  if first then d.raise 57 0 else d

def Dev.slotClean (d : Dev) (i : Nat) : Dev := (d.set (Reg.TUN_SSTAT_POISON i) 0).set (Reg.TUN_SSTAT_POISONCNT i) 0

/-- A slot in manual: its output is MANOUT clamped; a power slot outside Commission outputs 0 and is MANUAL_HELD; the slew
limiter tracks (R251, R254). -/
def Dev.slotManual (d : Dev) (i : Nat) (sp y : Int) : Dev :=
  let heldOut := d.heldManual i
  let u := if heldOut then 0 else d.clampOut i (d.getI (Reg.TUN_MANOUT_OUT i))
  let d := if heldOut ∧ d.get (Reg.TUN_SSTAT_STATE i) ≠ 7 then d.raise 62 0 else d
  let d := ((d.setI (Reg.TUN_SPEFF_VALUE i) sp).setI (Reg.TUN_PV_VALUE i) y).setI (Reg.TUN_OUT_VALUE i) u
  (d.slotRan i (if heldOut then 7 else 2)).modSlot i fun x => { x with wasManual := true }

/-- The preset of an integrator on a change from manual to automatic, clamped (R252). -/
def Dev.manPreset (d : Dev) (i : Nat) (man p : Int) : Int × Bool :=
  let v := (man - p) * 65536
  (d.clampInt i v, decide (d.clampInt i v ≠ v))

/-- One automatic evaluation of a string or thermal slot (R240, R245, R252, R257). -/
def Dev.evalSlot (d : Dev) (i : Nat) (sp y : Int) (dt : Nat) (poison : Bool) : Dev :=
  let d := d.setI (Reg.TUN_SP_SP i) sp
  if poison then d.slotPoison i
  else if d.get (Reg.TUN_SCFG_MODE i) = 1 then (d.slotClean i).slotManual i sp y
  else
    let x := d.slot i
    let d := d.slotClean i
    let fresh := d.slotFresh i
    let s0 := if fresh then y else d.getI (Reg.TUN_SPEFF_VALUE i)
    let i0 := if fresh then 0 else x.i
    let s := slew s0 sp (d.get (Reg.TUN_RISE_RATE i)) (d.get (Reg.TUN_FALL_RATE i)) dt
    let inj := d.bowValue i
    let sIn := if d.get Reg.TUN_BOWCFG_INJECT = 0 then s + inj else s
    let e := if d.get (Reg.TUN_SCFG_DIR i) = 1 then y - sIn else sIn - y
    let (kp, ki) := d.gains (Reg.TUN_KP_GAIN i) (Reg.TUN_KI_GAIN i) (d.get (Reg.TUN_SCFG_BOARD i)) e
    let p := propTerm kp e
    let man := match x.presetBias with
      | some b => some b
      | none => if x.wasManual then some (d.getI (Reg.TUN_MANOUT_OUT i)) else none
    let (i1, bump) := match man with
      | some m => d.manPreset i m p
      | none => (i0, d.get (Reg.TUN_SSTAT_BUMP i) = 1)
    let i2 := d.clampInt i (i1 + integStep ki e dt)
    let uRaw := sar i2 16 + p + (if d.get Reg.TUN_BOWCFG_INJECT = 1 then inj else 0)
    let u := d.clampOut i uRaw
    let atLimit := decide (i2 = d.getI (Reg.TUN_IMIN_LIMIT i) * 65536 ∨ i2 = d.getI (Reg.TUN_IMAX_LIMIT i) * 65536)
    let d := (((d.setI (Reg.TUN_SPEFF_VALUE i) s).setI (Reg.TUN_PV_VALUE i) y).setI (Reg.TUN_OUT_VALUE i) u).setI
      (Reg.TUN_INTEG_I i) (sar i2 16)
    let d := d.set (Reg.TUN_SSTAT_BUMP i) (flag bump)
    let d := if atLimit then d else d.set (Reg.TUN_SSTAT_SAT i) 0
    let d := d.bowSample i sIn e u
    let d := d.slotRan i (if d.bow.on ∧ d.bow.slot = i then 5 else 1)
    d.modSlot i fun x => { x with i := i2, wasManual := false, presetBias := none }

/-- The requested current set-point of an outlet slot in 0.1 A: the smallest in magnitude of the request, the limit of R123
(halved under fallback, an odd 0.1 A floored: the model's choice, log 110), and the configured maximum, with the request's
sign (R244, R226). -/
def Dev.outletSp (d : Dev) (n : Nat) : Int :=
  let req := d.getI (Reg.OUT_DEMAND_IREQ n)
  let lim := if d.bit Reg.STR_SENSE_FALLBACK n then (d.out n).limit / 2 else (d.out n).limit
  let st := d.sess n
  if st ≠ 9 ∧ st ≠ 8 then 0
  else
    let m := min req.natAbs (min lim (d.get (Reg.OUT_RATING_IMAX n)))
    if req < 0 then -(m : Int) else m

/-- The voltage-law set-point in 0.1 V (R301). -/
def Dev.outletVsp (d : Dev) (n : Nat) : Nat :=
  min (d.get (Reg.OUT_DEMAND_VTGT n)) (min (d.get (Reg.OUT_EVMAX_VMAX n)) (d.get (Reg.OUT_RATING_VMAX n)))

/-- One evaluation of an outlet slot: both laws, the selection, and the presets (R240, R246, R247, R252). In the evaluation that presets
the integrators from manual they take no step, so that both laws' outputs equal MANOUT before the clamp (log 112). -/
def Dev.evalOutlet (d : Dev) (n : Nat) (poison : Bool) : Dev :=
  let dt := d.periodUs
  let sp := d.outletSp n
  let vsp : Int := d.outletVsp n
  let y := (d.out n).senseI
  let yv := d.regV n
  let d := (d.setI (Reg.TUN_SP_SP n) sp).setI (Reg.TUN_VSP_VSP n) vsp
  if (d.slot n).outOfService then
    -- R258: the output falls linearly to 0 at the outlet's fall rate
    let d := if poison then d.slotPoison n else d.slotClean n
    let fall := 10 * d.get (Reg.TUN_FALL_RATE n) * dt / 1000000
    let u := d.getI (Reg.TUN_OUT_VALUE n)
    let u' : Int := if u < 0 then -((u.natAbs - fall : Nat) : Int) else ((u.natAbs - fall : Nat) : Int)
    (d.setI (Reg.TUN_OUT_VALUE n) u').slotRan n 6
  else if poison then d.slotPoison n
  else if d.get (Reg.TUN_SCFG_MODE n) = 1 then (d.slotClean n).slotManual n sp y
  else
    let x := d.slot n
    let d := d.slotClean n
    let fresh := d.slotFresh n
    let s0 := if fresh then y else d.getI (Reg.TUN_SPEFF_VALUE n)
    let s := slew s0 sp (d.get (Reg.TUN_RISE_RATE n)) (d.get (Reg.TUN_FALL_RATE n)) dt
    let inj := d.bowValue n
    let sIn := if d.get Reg.TUN_BOWCFG_INJECT = 0 then s + inj else s
    let injU := if d.get Reg.TUN_BOWCFG_INJECT = 1 then inj else 0
    let e := sIn - y
    let ev := vsp - yv
    let (kp, ki) := d.gains (Reg.TUN_KP_GAIN n) (Reg.TUN_KI_GAIN n) (d.get (Reg.TUN_SCFG_BOARD n)) e
    let (kpv, kiv) := d.gains (Reg.TUN_VKP_GAIN n) (Reg.TUN_VKI_GAIN n) (d.get (Reg.TUN_SCFG_VBOARD n)) ev
    let p := propTerm kp e
    let pv := propTerm kpv ev
    let man := d.getI (Reg.TUN_MANOUT_OUT n)
    let (i1, b1) := if x.wasManual then d.manPreset n man p else (if fresh then 0 else x.i, false)
    let (v1, b2) := if x.wasManual then d.manPreset n man pv else (if fresh then 0 else x.vi, false)
    let i2 := if x.wasManual then i1 else d.clampInt n (i1 + integStep ki e dt)
    let v2 := if x.wasManual then v1 else d.clampInt n (v1 + integStep kiv ev dt)
    let u := d.clampOut n (sar i2 16 + p + injU)
    let uv := d.clampOut n (sar v2 16 + pv + injU)
    let volt := decide (uv.natAbs < u.natAbs)
    let uSel := if volt then uv else u
    let i3 := if volt then d.clampInt n ((uSel - p) * 65536) else i2
    let v3 := if volt then v2 else d.clampInt n ((uSel - pv) * 65536)
    let sel := if volt then v3 else i3
    let atLimit := decide (sel = d.getI (Reg.TUN_IMIN_LIMIT n) * 65536 ∨ sel = d.getI (Reg.TUN_IMAX_LIMIT n) * 65536)
    let d := (((d.setI (Reg.TUN_SPEFF_VALUE n) s).setI (Reg.TUN_PV_VALUE n) (if volt then yv else y)).setI
      (Reg.TUN_OUT_VALUE n) uSel).setI (Reg.TUN_INTEG_I n) (sar i3 16)
    let d := (d.setI (Reg.TUN_VINTEG_I n) (sar v3 16)).set (Reg.TUN_SSTAT_LAW n) (flag volt)
    let d := if x.wasManual then d.set (Reg.TUN_SSTAT_BUMP n) (flag (b1 || b2)) else d
    let d := if atLimit then d else d.set (Reg.TUN_SSTAT_SAT n) 0
    let d := d.bowSample n sIn e uSel
    let d := d.slotRan n (if d.bow.on ∧ d.bow.slot = n then 5 else 1)
    d.modSlot n fun x => { x with i := i3, vi := v3, wasManual := false }

/-! ### The power pass -/

/-- A string that receives RUN at the next down frame: active or shedding, or in a move at steps 1 to 3, or at step 6 under an inked
grant (R214, R236). -/
def Dev.runs (d : Dev) (s : Nat) : Bool :=
  let c := s / 4
  let m := d.course c
  d.present s && !d.courseHeld c && !d.welding c &&
  (d.inkState s = 1 || d.inkState s = 2 ||
   (d.inkState s = 6 && (decide (1 ≤ m.step ∧ m.step ≤ 3) || (m.step = 6 && !m.pencil && !m.again))))

/-- The arc a string's set-point comes from: its course's arc, or the arc it joins at step 6. -/
def Dev.arcOf (d : Dev) (s : Nat) : Nat :=
  if (d.course (s / 4)).step = 6 then (d.course (s / 4)).arc else d.get (Reg.INK_COURSE_ARC (s / 4))

/-- The split of an outlet's output to one string: (u × WEIGHT) >> 16; a leaving course goes to zero (R248, R146). -/
def Dev.splitSp (d : Dev) (s : Nat) : Int :=
  let n := d.arcOf s
  if d.inkState s = 6 ∧ (d.course (s / 4)).step ≤ 3 then 0
  else if n < 16 then sar (d.getI (Reg.TUN_OUT_VALUE n) * d.weight s) 16 else 0

/-- Stages the RUN command of a string after its slot's evaluation (R190, R235). -/
def Dev.stageRun (d : Dev) (s : Nat) : Dev :=
  let f : DownFrame :=
    { typ := 1, phase := d.get (Reg.INK_STRING_PHASE s), drive := ofSigned 16 (d.getI (Reg.TUN_OUT_VALUE (16 + s))),
      trim := d.get (Reg.STR_STRCFG_TRIM s), hold := d.get Reg.STR_LINKCFG_HOLD, ramp := d.get (Reg.STR_STRSTAT_RAMP s) }
  d.modStr s fun x => { x with staged := some f }

/-- Opens no shed window within 50 ms of a step, and aborts one that is open: the weights and phases before it return at
the next boundary (R159, R160). A step while the slot is HELD is none: it starts no 50 ms and aborts nothing (R250; log 113). -/
def Dev.noteStep (d : Dev) (n : Nat) : Dev :=
  let sp := d.outletSp n
  let o := d.out n
  let stepped := decide (100 * d.get Reg.INK_SHEDCFG_STEP < (sp - o.spPrev).natAbs) && !d.arcHeld n
  let d := d.modOut n fun o => { o with spPrev := sp }
  if stepped then
    let d := d.modOut n fun o => { o with lastStep := some d.now }
    if o.shedStart.isSome then { d with shedAbort := withBit d.shedAbort n true } else d
  else d

/-- Rejoin of shed strings when a set-point would load the remaining strings above HI (R161). String capacity in 0.01 A at
the outlet's voltage. -/
def stringCap (imax pmax v : Nat) : Nat := if v = 0 then 10 * imax else min (10 * imax) (pmax * 10000 / v)

def Dev.noteLoad (d : Dev) (n : Nat) : Dev :=
  let act := (d.activeStrings n).length
  let cap := stringCap (d.get Reg.INK_CELLCFG_IMAX) (d.get Reg.INK_CELLCFG_PMAX) (d.regV n).toNat * act
  let load := 10 * (d.outletSp n).natAbs
  if ((d.arcStrings n).any fun s => d.inkState s = 3) ∧ d.get Reg.INK_SHEDCFG_HI * cap < 100 * load then
    { d with rejoin := withBit d.rejoin n true }
  else d

/-- The measurements a power pass takes of one outlet: sense voltage and current, metering voltage. -/
def Dev.takeSense (d : Dev) (n : Nat) (v i m : Int) : Dev :=
  d.modOut n fun o => { o with senseV := v, senseI := i, meterV := m }

/-- Adds one period's mean string load in 0.01 %, rounded down, for R156: the rounding is the model's choice (log 111). -/
def Dev.noteMeanLoad (d : Dev) (n : Nat) : Dev :=
  let act := (d.activeStrings n).length
  let cap := stringCap (d.get Reg.INK_CELLCFG_IMAX) (d.get Reg.INK_CELLCFG_PMAX) (d.regV n).toNat * act
  let load := 10 * (d.out n).senseI.natAbs
  d.modOut n fun o => { o with loadSum := o.loadSum + (if cap = 0 then 0 else 10000 * load / cap), loadN := o.loadN + 1 }

/-- Adds a string's output energy to its course's feed (R166): V × A of a valid up frame over the period. -/
def Dev.noteFeedOut (d : Dev) (s : Nat) : Dev :=
  let f := d.get (Reg.INK_COURSECFG_FEED (s / 4))
  let u := (d.str s).up
  let e := upQuantity u 0 * upQuantity u 1 * d.periodUs
  d.modPurse fun p =>
    { p with feedOut := (List.range 4).map fun k => p.feedOut.getD k 0 + (if k = f then e else 0) }

/-- Steps 3 to 5 of the control period (R235, R236, R248): the up-frame window closes; outlet slots, split and string slots
are evaluated in ascending order; commands are staged. `late` names the strings whose commands were staged past the bound,
which will receive HOLD (R53). -/
def powerPass (sense : List (Int × Int × Int)) (poison : List Nat) (late : List Nat) (pathNs : Nat) (d : Dev) : Dev :=
  let d := d.closeUpWindow
  let d := forAll 16 d fun d n =>
    let (v, i, m) := sense.getD n (0, 0, 0)
    d.takeSense n v i m
  let d := forAll 64 d fun d s => if (d.str s).fresh ∧ d.present s then d.noteFeedOut s else d
  let d := forAll 16 d Dev.outTelemetry
  let d := forAll 16 d fun d n =>
    if d.live n then
      let d := ((d.noteStep n).noteLoad n).noteMeanLoad n
      if ((d.arcStrings n).any fun s => d.runs s && decide (d.arcOf s = n)) ∧ !d.arcHeld n then d.evalOutlet n (poison.contains n)
      else d.slotIdle n
    else d.slotIdle n
  let d := forAll 64 d fun d s => if d.present s then d.setI (Reg.TUN_SP_SP (16 + s)) (d.splitSp s) else d
  let d := forAll 64 d fun d s =>
    if d.runs s then
      let x := d.str s
      if x.fresh then
        let y := 2 * toSigned 16 x.up.cur
        let d := d.evalSlot (16 + s) (d.splitSp s) y d.periodUs (poison.contains (16 + s))
        if late.contains s then d else d.stageRun s
      else d.set (Reg.TUN_SSTAT_STATE (16 + s)) 0
    else d.slotIdle (16 + s)
  let d := d.bowTick.set Reg.TUN_STATUS_PATHMAX (max (d.get Reg.TUN_STATUS_PATHMAX) (min pathNs 65535))
  if late ≠ [] then (d.addSat Reg.TUN_STATUS_LATE 1).raise 56 0 else d

/-! ### The thermal pass -/

/-- A thermal slot with interval M runs in period p when ⌊p × P / M⌋ > ⌊(p − 1) × P / M⌋ (R237). M in µs. -/
def slotDue (p per m : Nat) : Bool := decide (m ≠ 0 ∧ (p - 1) * per / m < p * per / m)

/-- The measurement of a thermal slot (R233, R362, TUN_SSRC.INPUT). -/
def Dev.thermalInput (d : Dev) (i : Nat) : Int :=
  let rtd := fun n k => d.getI (Reg.CAB_RTD_TEMP n k)
  -- R362: the return input stands in for a faulted supply input, the good contact for a faulted one
  let bad := fun n k => d.bit (Reg.CAB_STAT_SENSFLT n) k
  if i < 96 then rtd (i - 80) (if bad (i - 80) 0 then 1 else 0)
  else if i < 112 then
    let n := i - 96
    if bad n 2 then rtd n 3 else if bad n 3 then rtd n 2 else min (rtd n 2) (rtd n 3)
  else
    let src := d.get (Reg.TUN_SSRC_INPUT i)
    if src < 0x40 then rtd (src / 4) (src % 4)
    else if src < 0x50 then d.get (Reg.CAB_STAT_FLOW (src - 0x40))
    else if src = 0x50 then d.getI Reg.THM_DIODE_TEMP * 25 / 4
    else if 0x60 ≤ src ∧ src < 0xA0 then 10 * toSigned 12 (d.str (src - 0x60)).up.temp
    else if 0xA0 ≤ src ∧ src < 0xB0 then d.getI (Reg.CAB_TEMP_HOTSPOT (src - 0xA0))
    else 0

/-- The outlet a slot belongs to; 31 for none. -/
def Dev.slotOutlet (d : Dev) (i : Nat) : Nat :=
  if i < 16 then i else if i < 80 then (i - 16) / 4 else if i < 96 then i - 80 else if i < 112 then i - 96
  else d.get (Reg.TUN_SCFG_OUTLET i)

/-- The relay of a pluck test in place of R240 (R263), with its cycle measurements. The model's choices: BIAS, AMP, HYST and ABORT are
read at each evaluation, so a running test follows a later write (log 115); the measurement at which u rises to BIAS + AMP counts
among the extremes of the cycle it ends and of the one it begins (log 116). -/
def Dev.pluckEval (d : Dev) (i : Nat) (y : Int) : Dev :=
  let p := d.pluck
  let sp := d.getI (Reg.TUN_SP_SP i)
  let e := if d.get (Reg.TUN_SCFG_DIR i) = 1 then y - sp else sp - y
  let hyst : Int := d.get Reg.TUN_PLUCKERR_HYST
  let hi := decide (hyst < e) || (!decide (e < -hyst) && (if p.first then decide (0 ≤ e) else p.high))
  let bias : Int := d.get Reg.TUN_PLUCKOUT_BIAS
  let amp : Int := d.get Reg.TUN_PLUCKOUT_AMP
  let u := if hi then bias + amp else bias - amp
  let rise := hi && !p.high && !p.first
  let starts := hi && p.first
  let closes := rise && p.started
  let p' := { p with
    first := false, high := hi, started := p.started || rise || starts,
    lens := if closes then p.lens ++ [d.now - p.cycleAt] else p.lens,
    halves := if closes then p.halves ++ [(max p.maxY y - min p.minY y)] else p.halves,
    cycleAt := if rise ∨ starts then d.now else p.cycleAt,
    maxY := if rise ∨ starts ∨ p.first then y else max p.maxY y,
    minY := if rise ∨ starts ∨ p.first then y else min p.minY y,
    exceeded := p.exceeded || decide ((d.get Reg.TUN_PLUCKERR_ABORT : Int) < e.natAbs) }
  let d := { d with pluck := p' }
  let d := (d.set Reg.TUN_PLUCKSTAT_CYCLE (min 15 p'.lens.length)).set Reg.TUN_PLUCKSTAT_ELAPSED
    ((d.now - p.startAt) / 1000000000)
  ((d.setI (Reg.TUN_PV_VALUE i) y).setI (Reg.TUN_OUT_VALUE i) u).slotRan i 4

/-- An outlet whose coolant runs: live or in run-on (R376). -/
def Dev.cooling (d : Dev) (n : Nat) : Bool := d.live n || d.get (Reg.CAB_STAT_RUNON n) = 1

/-- A heater slot is not evaluated while its outlet is live (R377) or while both contact inputs are faulted (R362). -/
def Dev.heaterOff (d : Dev) (i : Nat) : Bool :=
  decide (96 ≤ i ∧ i < 112) && (d.live (i - 96) || (d.bit (Reg.CAB_STAT_SENSFLT (i - 96)) 2 && d.bit (Reg.CAB_STAT_SENSFLT (i - 96)) 3))

/-- A coolant slot whose inputs are both faulted (R362). -/
def Dev.coolantBlind (d : Dev) (i : Nat) : Bool :=
  decide (80 ≤ i ∧ i < 96) && d.bit (Reg.CAB_STAT_SENSFLT (i - 80)) 0 && d.bit (Reg.CAB_STAT_SENSFLT (i - 80)) 1

/-- The applied duty of a thermal slot in 0.01 %: its output, with the limits of R362, R376 and R377. -/
def Dev.thermalDuty (d : Dev) (i : Nat) : Nat :=
  let u := (clampI 0 10000 (d.getI (Reg.TUN_OUT_VALUE i))).toNat
  if 80 ≤ i ∧ i < 96 then
    if d.cooling (i - 80) then if d.coolantBlind i then 10000 else max u (1000 * d.get (Reg.CAB_FLOWCFG_MINDUTY (i - 80)))
    else if d.coolantBlind i then 0 else u
  else if d.heaterOff i then 0
  else u

/-- Writes a thermal slot's duty to its auxiliary channel (R234, R238). -/
def Dev.driveThermal (d : Dev) (i : Nat) : Dev :=
  d.commandAux (d.get (Reg.TUN_SSRC_ACT i)) (d.thermalDuty i)

/-- The thermal slots due in this period, in ascending order (R237). -/
def thermalPass (poison : List Nat) (d : Dev) : Dev :=
  forAll 48 d fun d k =>
    let i := 80 + k
    let m := 1000 * d.get (Reg.TUN_SCFG_INTERVAL i)
    if d.heaterOff i ∨ d.coolantBlind i then
      ((d.modSlot i fun x => { x with ran := false }).slotIdle i).driveThermal i
    else if slotDue d.period d.periodUs m then
      let y := d.thermalInput i
      let d := if d.pluck.on ∧ d.pluck.slot = i then
          if poison.contains i then { d with pluck := { d.pluck with poisoned := true } }.slotPoison i
          else d.pluckEval i y
        else d.evalSlot i (d.getI (Reg.TUN_SP_SP i)) y m (poison.contains i)
      d.driveThermal i
    else d

/-! ### Poison and saturation -/

/-- Eight consecutive poisoned evaluations take a power slot out of service (R258). The session side of an outlet slot is
its outlet's: the caller ends the session. -/
def Dev.slotOut (d : Dev) (i : Nat) : Dev := d.modSlot i fun x => { x with outOfService := true }

/-- An automatic slot whose integrator has stayed at a clamp for 10 s sets SAT and raises EV059 (R259). Of an outlet slot's two
integrators the one of the selected law is watched, which is the model's choice (log 114). -/
def integratorSaturated (i : Nat) (d : Dev) : Dev :=
  let x := d.slot i
  let v := if i < 16 ∧ d.get (Reg.TUN_SSTAT_LAW i) = 1 then x.vi else x.i
  if d.get (Reg.TUN_SCFG_MODE i) = 0 ∧ x.ran ∧ d.get (Reg.TUN_SSTAT_SAT i) = 0 ∧
      (v = d.getI (Reg.TUN_IMIN_LIMIT i) * 65536 ∨ v = d.getI (Reg.TUN_IMAX_LIMIT i) * 65536) then
    (d.set (Reg.TUN_SSTAT_SAT i) 1).raise 59 0
  else d

end Sys2Proof.Machine
end

