-- ==== Sys2Proof/Machine/IslandState.lean ====
section
/-! DEFINITION. The safety island's own conditions on outlets that the session layer asks for: its limits, its latches,
the hold of the lock, and leave to switch on (R37, R441, R444 to R447, R461). -/

namespace Sys2Proof.Machine

def Dev.safConn (d : Dev) (k : Nat) : SafConn := tget {} d.saf.conns k
def Dev.modSafConn (d : Dev) (k : Nat) (f : SafConn → SafConn) : Dev :=
  { d with saf := { d.saf with conns := tput {} d.saf.conns k (f (d.safConn k)) } }
def Dev.modSaf (d : Dev) (f : SafCtx → SafCtx) : Dev := { d with saf := f d.saf }

/-- The safe outputs of an outlet, as confirmed by read-back: SOUT(2n), SOUT(2n + 1). -/
def Dev.setSout (d : Dev) (n : Nat) (on : Bool) : Dev :=
  (d.setBit Reg.SAF_SOUTSTAT_BITS (2 * n) on).setBit Reg.SAF_SOUTSTAT_BITS (2 * n + 1) on

/-- The wire of safe output `j` is on: by its own read-back, or, on a lodger, as the keyholder drives the shared wire (R454, R455). -/
def Dev.wireOn (d : Dev) (j : Nat) : Bool :=
  d.bit Reg.SAF_SOUTSTAT_BITS j || (!d.drives && (d.out (j / 2)).contReq)

/-- Some safe output of the outlet is on. -/
def Dev.soutOn (d : Dev) (n : Nat) : Bool :=
  d.bit Reg.SAF_SOUTSTAT_BITS (2 * n) || d.bit Reg.SAF_SOUTSTAT_BITS (2 * n + 1)

/-- Some feedback input of the outlet reads closed. -/
def Dev.fbClosed (d : Dev) (n : Nat) : Bool :=
  d.bit Reg.SAF_FBSTAT_BITS (2 * n) || d.bit Reg.SAF_FBSTAT_BITS (2 * n + 1)

/-- The device requests an outlet's safe outputs off (R295, R310). -/
def Dev.outputsOff (d : Dev) (n : Nat) : Dev :=
  ((d.setSout n false).modOut n fun o => { o with contReq := false }).modSafOut n fun x => { x with releasing := none }

/-- A latch of any kind stands on the outlet: a safety function's, the cross-check's, a safe output's. -/
def Dev.outletLatched (d : Dev) (n : Nat) : Bool :=
  decide (d.get (Reg.SAF_OSTAT_LATCH n) ≠ 0) || decide (d.get (Reg.SAF_OSTAT_XCHK n) = 1) ||
  decide (d.get (Reg.SAF_OSTAT_DIAG n) = 1)

/-- Some receive connection still waits for its first frame (R461). -/
def Dev.safeWait (d : Dev) : Bool :=
  (List.range 16).any fun k => decide (d.get (Reg.SAF_CONNCFG_MODE k) ≠ 0) &&
    decide (d.get (Reg.SAF_CONNCFG_DIR k) = 0) && decide (d.get (Reg.SAF_CONNSTAT_STATE k) = 1)

/-- The island's own conditions to switch an outlet's safe outputs on (R37, R89, R441, R447, R454, R461). -/
def Dev.mayClose (d : Dev) (n : Nat) : Bool :=
  d.drives && !d.outletLatched n && decide (d.get Reg.SAF_STATUS_DEVCAUSE = 0) && decide (d.mode ≠ .safeHold) &&
  !d.safeWait && decide (d.get (Reg.SAF_OLIM_ILIM n) ≠ 0)

/-- The island holds the outlet's lock (R444). -/
def Dev.lockHeld (d : Dev) (n : Nat) : Bool :=
  decide (d.get (Reg.OUT_CFG_LOCK n) = 1) &&
  (decide (600 ≤ (d.out n).senseV) ||
   (d.bit Reg.STR_SENSE_LOST n &&
    (d.fbClosed n || match (d.safOut n).openAt with
      | some t => decide (d.now < t + 2000000000)
      | none => false)))

/-- SAF_OSTAT[n].LOCKINH follows the hold. -/
def Dev.showLock (d : Dev) (n : Nat) : Dev := d.set (Reg.SAF_OSTAT_LOCKINH n) (flag (d.lockHeld n))

/-- The limits an outlet loads at its entry to PRECHARGE, VLIM and ILIM (R441). -/
def Dev.limitsFor (d : Dev) (n : Nat) : Nat × Nat :=
  let i := min (d.get (Reg.OUT_EVMAX_IMAX n)) (d.get (Reg.OUT_RATING_IMAX n))
  (min (d.get (Reg.OUT_EVMAX_VMAX n)) (d.get (Reg.OUT_RATING_VMAX n)),
   if d.get (Reg.OUT_SESS_PROTO n) = 4 then max i (d.get (Reg.OUT_BPT_IDIS n)) else i)

/-- The island accepts a load that does not exceed the ratings copied into it and whose SF8 threshold lies below the
positive full scale of the outlet's current input, in mA (R441, R596). -/
def Dev.limitsOk (d : Dev) (n v i : Nat) : Bool :=
  let x := d.safOut n
  decide (v ≤ x.vmax) && decide (i ≤ max x.imax (if d.get (Reg.OUT_SESS_PROTO n) = 4 then x.idis else 0)) &&
  decide (i * (100 + d.get (Reg.SAF_OCFG_OCM n)) < d.get (Reg.TAL_CHSCALE_SCALE (25 + 2 * n)))

/-- Loads the island's limits (R441): false where the load is refused and the limits are left at 0. -/
def Dev.loadLimits (d : Dev) (n : Nat) : Dev × Bool :=
  let (v, i) := d.limitsFor n
  if d.limitsOk n v i then
    (((d.set (Reg.SAF_OLIM_VLIM n) v).set (Reg.SAF_OLIM_ILIM n) i).modSafOut n fun x => { x with sub10 := true }, true)
  else (((d.set (Reg.SAF_OLIM_VLIM n) 0).set (Reg.SAF_OLIM_ILIM n) 0).raise 81 n, false)

/-- The island copies the ratings at each commit and at Boot (R441). -/
def Dev.copyRatings (d : Dev) : Dev :=
  forAll 16 d fun d n => d.modSafOut n fun x => { x with
    vmax := d.get (Reg.OUT_RATING_VMAX n), imax := d.get (Reg.OUT_RATING_IMAX n), idis := d.get (Reg.OUT_BPT_IDIS n) }

/-- The current limit the island applies in 0.1 A: 10 A from the load until the first entry to DELIVERY (R441). -/
def Dev.islandLimit (d : Dev) (n : Nat) : Nat := if (d.safOut n).sub10 then 100 else d.get (Reg.SAF_OLIM_ILIM n)

/-- A latch of the outlet or a device-wide latch stands. -/
def Dev.safeStands (d : Dev) (n : Nat) : Bool :=
  d.outletLatched n || decide (d.get Reg.SAF_STATUS_DEVCAUSE ≠ 0) || d.saf.romLatch

/-- Once no latch of the outlet and no device-wide latch stands, its safe state is left (R447). -/
def Dev.leaveSafe (d : Dev) (n : Nat) : Dev :=
  if d.safeStands n then d
  else (d.setBit Reg.SAF_STATUS_OUTSAFE n false).modSafOut n fun x => { x with leaving := true }

/-- At the control-period boundary after the safe state is left: the hold of an arc that is no longer live ends, and the outlet's own
course returns to the Innkeeper (R49, R137, R446). -/
def Dev.endHold (d : Dev) (n : Nat) : Dev :=
  if !(d.safOut n).leaving then d
  else
    let d := d.modSafOut n fun x => { x with leaving := false }
    if d.safeStands n then d
    else
      let d := if d.live n then d else d.setBit Reg.STR_BLOCKSTAT_HELD n false
      if (d.safOut n).walled then
        ((d.modCourse n fun c => { c with frozenMove := true }).set (Reg.INK_COURSE_STATE n) 4).modSafOut n
          fun x => { x with walled := false }
      else d

/-- Clears latches of the outlet by the mask of their functions (R443); EV081 when one clears. -/
def Dev.clearLatch (d : Dev) (n mask : Nat) : Dev :=
  let was := d.get (Reg.SAF_OSTAT_LATCH n)
  let now := was - (was &&& mask)
  if now = was then d
  else (((d.set (Reg.SAF_OSTAT_LATCH n) now).set (Reg.SAF_OSTAT_ACT n) now).raise 81 n).leaveSafe n

end Sys2Proof.Machine
end

