-- ==== Sys2Proof/Machine/Outlets.lean ====
section
/-! DEFINITION. Outlets and charging sessions: transitions staged for the next control-period boundary, stages from
connection to unlock, faults and retries (R273 to R322). -/

namespace Sys2Proof.Machine

/-! ### Checkpoints (R35) -/

/-- A session as its steward checkpoints it: what is staged counts as taken. -/
def Dev.ckptOf (d : Dev) (n : Nat) : Ckpt :=
  let o := d.out n
  let dem := o.demand.getD (d.getI (Reg.OUT_DEMAND_IREQ n), d.get (Reg.OUT_DEMAND_VTGT n))
  { state := match o.next with
      | some x => x.state
      | none => d.sess n
    proto := d.get (Reg.OUT_SESS_PROTO n), vmax := d.get (Reg.OUT_EVMAX_VMAX n), imax := d.get (Reg.OUT_EVMAX_IMAX n), vt := o.vt,
    ireq := dem.1, vtgt := dem.2 }

/-- A keyholder's checkpoint as it is forwarded (R477). -/
def Ckpt.words (c : Ckpt) : List Nat := [c.state, c.proto, c.vmax, c.imax, c.vt, ofSigned 16 c.ireq, c.vtgt]

/-- The steward checkpoints the session after a protocol message; a keyholder sends it on (R35, R477). -/
def Dev.checkpoint (d : Dev) (n : Nat) : Dev :=
  let c := d.ckptOf n
  let d := { d with ckpts := tput {} d.ckpts n c }
  if d.duplex ∧ d.drives then d.emit (.twin 7 (n :: c.words)) else d

/-- A restarted steward resumes a session from its last checkpoint, where the session still stands in its state; a request takes effect
at the next boundary (R33, R35, R300). -/
def Dev.resume (d : Dev) (n : Nat) : Dev :=
  let c : Ckpt := tget {} d.ckpts n
  if !(decide (4 ≤ d.sess n ∧ d.sess n ≤ 13) && decide (c.state = d.sess n)) then d
  else
    let d := ((d.set (Reg.OUT_SESS_PROTO n) c.proto).set (Reg.OUT_EVMAX_VMAX n) c.vmax).set (Reg.OUT_EVMAX_IMAX n) c.imax
    d.modOut n fun o => { o with vt := c.vt, demand := if c.state = 9 then some (c.ireq, c.vtgt) else o.demand }

/-! ### Transitions -/

/-- Stages a session transition; among triggers of one period the higher rank prevails (R278, R320): 6 a safety function acting on the
outlet, 5 Safe hold and Thermal shutdown, 4 a weld, 3 stop, 2 transient fault, 1 anything else. -/
def Dev.goto (d : Dev) (n st cause rank : Nat) (transient : Bool := false) : Dev :=
  let nx : SessNext := { state := st, cause := cause, rank := rank, transient := transient }
  d.modOut n fun o => match o.next with
    | some x => if x.rank < rank then { o with next := some nx } else o
    | none => { o with next := some nx }

/-- Ends the session of an outlet by its state (R278): last orders from DELIVERY and PAUSE; weld detection where the
contactors were commanded on; else ENDED. -/
def Dev.endSession (d : Dev) (n cause rank : Nat) (transient : Bool := false) : Dev :=
  let st := d.sess n
  if 3 ≤ st ∧ st ≤ 6 then d.goto n 14 cause rank transient
  else if st = 7 ∨ st = 8 then d.goto n (if (d.out n).commanded then 12 else 14) cause rank transient
  else if st = 9 ∨ st = 10 then d.goto n 11 cause rank transient
  else d

/-- The vehicle sends no stop request any more (R309). -/
def Dev.noStop (d : Dev) (n : Nat) : Dev := d.modOut n fun o => { o with linkGone := true }

/-- A vehicle-link error ends the session (R278, R313). -/
def Dev.linkFails (d : Dev) (n : Nat) : Dev := (d.endSession n 3 1).noStop n

/-- An auxiliary channel commanded by the device (ties, locks): on or off (R286, R603). -/
def Dev.driveAux (d : Dev) (ch : Nat) (on : Bool) : Dev := d.commandAux ch (if on then 10000 else 0)

/-- Every string of the arc that carries current stands idle: PRECHARGE with limit 0; those of a moving course receive it by
`Dev.frameFor` (R310). -/
def Dev.idleStrings (d : Dev) (n : Nat) : Dev :=
  (d.arcStrings n).foldl (fun d s =>
    if d.inkState s = 1 ∨ d.inkState s = 2 ∨ d.inkState s = 3 then
      (d.set (Reg.INK_STRING_STATE s) 0).setWeight s 0 else d) d

/-- The healthy strings of the arc's member courses become active, with shares by R139 to R142. -/
def Dev.activate (d : Dev) (n : Nat) : Dev :=
  let ss := ((d.members n).flatMap courseStrings).filter d.healthy
  let d := ss.foldl (fun d s => if d.inkState s = 0 then d.set (Reg.INK_STRING_STATE s) 1 else d) d
  d.reshare n

/-- A fresh session context that keeps what is the outlet's own: measurements, the retry counter, and the pencil triggers, each of
which lapses on its own terms (R147). -/
def OutCtx.clear (o : OutCtx) : OutCtx :=
  { senseV := o.senseV, senseI := o.senseI, meterV := o.meterV, clock := o.clock, retries := o.retries,
    senseBad := o.senseBad, conn := o.conn, pulseEnd := o.pulseEnd, plugin := o.plugin, schedule := o.schedule, depart := o.depart }

/-- The outlet's vehicle link leaves its match; a T1S link that the device takes down is down (R314, R340, R343). -/
def Dev.unmatch (d : Dev) (n : Nat) (takeDown : Bool) : Dev :=
  let d := d.setBit Reg.VLK_STATUS_MATCHED n false
  let l := d.get (Reg.VLK_LINK_LSTATE n)
  let d := if l = 2 ∨ l = 3 then d.set (Reg.VLK_LINK_LSTATE n) 1 else d
  if takeDown ∧ l = 5 then (d.setBit Reg.VLK_STATUS_T1SUP n false).set (Reg.VLK_LINK_LSTATE n) 4 else d

/-- The end of an outlet's session in ENDED: a retry is set pending or the counter is exhausted (R314); a disabled outlet
goes to DISABLED (R320). -/
def Dev.settleEnded (d : Dev) (n : Nat) (transient : Bool) : Dev :=
  let o := d.out n
  let d := d.set (Reg.OUT_SESS_STATE n) 14
  if o.disableAfter then (d.modOut n fun o => { o with disableAfter := false, pilot := 0 }).set (Reg.OUT_SESS_STATE n) 0
  else if transient ∧ o.conn = some true ∧ d.get (Reg.OUT_CFG_TYPE n) ≠ 3 then
    if o.retries.length < 3 then
      ((d.set (Reg.OUT_RETRY_PENDING n) 1).unmatch n true).modOut n fun o => { o with pilot := 0 }
    else
      let d := (d.set (Reg.OUT_SESS_STATE n) 15).set (Reg.OUT_END_CAUSE n) 9
      (d.set (Reg.OUT_RETRY_LOCKOUT n) 1).raiseOut n Reg.OUT_EVCAUSE_LOCKOUT
  else d

/-- Run-on starts (R378). -/
def Dev.startRunon (d : Dev) (n : Nat) : Dev :=
  d.set (Reg.CAB_STAT_RUNON n) 1

/-- Drives the lock (R286, R312): in hold mode its channel is on until UNLOCK; in pulse mode it is on for PULSE, to lock and to unlock.
A held lock keeps its channel (R444). -/
def Dev.driveLock (d : Dev) (n : Nat) (lock : Bool) : Dev :=
  let ch := d.get (Reg.OUT_LOCKCFG_ACT n)
  if d.lockHeld n then d
  else if d.get (Reg.OUT_LOCKCFG_MODE n) = 1 then d.driveAux ch lock
  else (d.driveAux ch true).modOut n fun o => { o with pulseEnd := some (d.now + 1000000 * d.get (Reg.OUT_LOCKCFG_PULSE n)) }

/-- The pulse ends at the control-period boundary at which PULSE has passed (R286). -/
def Dev.endPulse (d : Dev) (n : Nat) : Dev :=
  match (d.out n).pulseEnd with
  | some t => if t ≤ d.now then (d.driveAux (d.get (Reg.OUT_LOCKCFG_ACT n)) false).modOut n fun o => { o with pulseEnd := none } else d
  | none => d

/-- The insulation monitor starts to inject; only the keyholder drives injection (R287, R290). -/
def Dev.startInjection (d : Dev) (n : Nat) : Dev := if d.drives then d.emit (.inject n true) else d

/-- In UNLOCK the lock is released once the sense voltage reads below 60 V and the island does not hold it (R312, R444). -/
def Dev.unlockIfDue (d : Dev) (n : Nat) : Dev :=
  if d.sess n = 13 ∧ d.get (Reg.OUT_CFG_LOCK n) = 1 ∧ !(d.out n).unlockSent ∧ (d.out n).senseV < 600 ∧ !d.lockHeld n then
    (d.driveLock n false).modOut n fun o => { o with unlockSent := true }
  else d

/-- In PRECHARGE the outputs are requested once the course bus and the cable lie within 60 V of each other (R293). -/
def Dev.requestOutputs (d : Dev) (n : Nat) : Dev :=
  let o := d.out n
  if d.sess n = 8 ∧ !o.contReq ∧ !o.softWait ∧ (o.meterV - o.senseV).natAbs ≤ 600 ∧ d.mayClose n then
    (d.setSout n true).modOut n fun o => { o with contReq := true, commanded := true, closed := false }
  else d

/-- The current request in 0.1 A, and DISCHG while it is negative (R300). -/
def Dev.demandCurrent (d : Dev) (n : Nat) (i : Int) : Dev :=
  (d.setI (Reg.OUT_DEMAND_IREQ n) i).set (Reg.OUT_SESS_DISCHG n) (flag (decide (i < 0)))

/-- Entry to a session state with its actions (R277, R278). -/
def Dev.enterSess (d : Dev) (n st : Nat) (transient : Bool) : Dev :=
  let was := d.sess n
  let d := d.modOut n fun o => { o with transient := o.transient || transient }
  let d := d.set (Reg.OUT_SESS_STATE n) st
  let d := if sessLive was ∧ !sessLive st then
      -- R378: run-on starts
      let d := (d.tallyEnd n).modOut n fun o => { o with preActive := false, grantW := 0, limit := 0 }
      (d.serveSlot n).startRunon n
    else if !sessLive was ∧ sessLive st then d.set (Reg.CAB_STAT_RUNON n) 0
    else d
  let d := if st ≤ 1 ∨ st = 3 ∨ 14 ≤ st then d.unmatch n false else d
  match st with
  | 0 =>
    -- R320: the outlet leaves LOCKOUT and a pending retry
    (d.set (Reg.OUT_RETRY_PENDING n) 0).set (Reg.OUT_RETRY_LOCKOUT n) 0
  | 1 =>
    let d := ((d.unreserve n).modOut n OutCtx.clear).clearLatch n 0x46
    let d := ((d.set (Reg.OUT_RETRY_PENDING n) 0).set (Reg.OUT_RETRY_LOCKOUT n) 0).set (Reg.OUT_RETRY_SOFT n) 0
    d.set (Reg.OUT_SESS_PROTO n) 0
  | 2 =>
    -- LINK follows at the next boundary (log 46); the steward is the device's choice (free)
    let (k, d) := d.free
    let d := d.set (Reg.OUT_SESS_STEWARD n) (Config.freeNat k % 8)
    let t : Trigger := { at_ := d.round, amount := 0 }
    (d.modOut n fun o => { o with plugin := some t, pilot := 1 }).goto n 3 0 1
  | 3 =>
    -- a new session: the EVCCID, the departure and the energy of the vehicle are not yet known (R346, R347), and no soft
    -- start has been attempted (R296)
    let d := (d.set (Reg.OUT_RETRY_SOFT n) 0).set64 (Reg.VLK_EVID_LO_ID n) (Reg.VLK_EVID_HI_ID n) 0
    let d := ((d.set (Reg.VLK_DEPART_VALUE n) 0).set (Reg.VLK_ENERGY_VALUE n) 0).set (Reg.VLK_LINK_TLSVER n) 0
    let d := (d.set (Reg.OUT_RETRY_PENDING n) 0).modOut n fun o =>
      { o with pilot := 1, transient := false, next := none, retryOwed := false, vt := 0, linkGone := false }
    let d : Dev := { d with ckpts := tput {} d.ckpts n {} }
    -- a T1S link that is still up
    if d.get (Reg.OUT_CFG_TYPE n) = 2 ∧ d.get (Reg.VLK_LINK_LSTATE n) = 5 then d.goto n 4 0 1 else d
  | 4 => d.set (Reg.OUT_SESSNUM_NUM n) (d.get (Reg.OUT_SESSNUM_NUM n) + 1)
  | 5 => if d.get (Reg.OUT_CFG_FREE n) = 1 then d.goto n 6 0 1 else d
  | 7 =>
    let d := d.modOut n fun o => { o with
      isoCycles := 0, isoFault := 0, isoWarn := 0, isoClear := 0, isoPassed := false, ccDone := false, commanded := false,
      lockOk := decide (d.get (Reg.OUT_CFG_LOCK n) = 0) }
    if d.get (Reg.OUT_CFG_LOCK n) = 1 then d.driveLock n true else d.startInjection n
  | 8 =>
    -- the outlet becomes live; its own course is the arc's anchor (R107)
    let d := ((d.set (Reg.INK_COURSE_STATE n) 1).set (Reg.INK_COURSE_ARC n) n).modCourse n fun c => { c with stuckWall := false }
    let d := d.demandCurrent n (d.get (Reg.OUT_PRECFG_ILIM n))
    let hs := d.healthyOf n
    let d := (hs.zip (List.range hs.length)).foldl
      (fun d p => d.set (Reg.INK_STRING_PHASE p.1) (phaseOf p.2 hs.length)) d
    let d := (d.modOut n fun o => { o with
      contReq := false, closed := false, opened := false, preDone := false,
      preActive := false, softHalf := false, softWait := false, stopReq := false }).tallyStart n
    let (d, ok) := d.loadLimits n
    if ok then d else d.goto n 14 18 1
  | 9 =>
    let dummy := decide (d.get (Reg.OUT_CFG_TYPE n) = 3)
    let d := d.modSafOut n fun x => { x with sub10 := false }
    let d := d.demandCurrent n (if dummy then d.get (Reg.OUT_DUMMYSP_I n) else 0)
    if was = 8 then (d.set (Reg.OUT_DEMAND_VTGT n) (d.out n).vt).activate n else d
  | 10 => d.demandCurrent n 0
  | 11 => d.demandCurrent n 0
  | 12 =>
    let d := (d.demandCurrent n 0).idleStrings n
    let d := (d.outputsOff n).modOut n fun o => { o with opened := false, preActive := false }
    d.set (Reg.OUT_WELD_RESULT n) 0
  | 13 =>
    if d.get (Reg.OUT_CFG_LOCK n) = 0 then d.goto n 14 0 1
    else (d.modOut n fun o => { o with unlockSent := false }).unlockIfDue n
  | 14 => ((d.unreserve n).clearLatch n 0x40).settleEnded n (d.out n).transient
  | 15 => ((d.unreserve n).set (Reg.OUT_RETRY_LOCKOUT n) 1).raiseOut n Reg.OUT_EVCAUSE_LOCKOUT
  | _ => d

/-- The end of the session's sense fallback and insulation monitor when weld detection completes (R227, R292). -/
def Dev.closeMonitors (d : Dev) (n : Nat) : Dev :=
  let d := ((d.setBit Reg.STR_SENSE_FALLBACK n false).set (Reg.OUT_SESS_FALLBACK n) 0).modOut n fun o => { o with fallNext := false }
  let d := if d.drives then d.emit (.inject n false) else d
  (d.set (Reg.OUT_ISO_STATUS n) 0).set (Reg.OUT_SESS_ISOWARN n) 0

/-- Applies the transition staged for an outlet at a control-period boundary (R278), and a staged demand (R300). -/
def Dev.applyNext (d : Dev) (n : Nat) : Dev :=
  let o := d.out n
  let d := match o.demand with
    | some (i, v) =>
      let d := d.modOut n fun o => { o with demand := none }
      if d.sess n = 9 then
        (d.demandCurrent n i).set (Reg.OUT_DEMAND_VTGT n) v
      else d
    | none => d
  match o.next with
  | none => d
  | some x =>
    let d := d.modOut n fun o => { o with next := none }
    let d := if x.cause ≠ 0 then d.set (Reg.OUT_END_CAUSE n) x.cause else d
    let d := if sessServing (d.sess n) ∧ !sessServing x.state then d.closeMonitors n else d
    d.enterSess n x.state x.transient

/-- An outlet in ENDED or LOCKOUT whose connection has been found absent goes to VACANT by the disconnection row (R280). -/
def Dev.vacateIfGone (d : Dev) (n : Nat) : Dev :=
  let ty := d.get (Reg.OUT_CFG_TYPE n)
  if (d.sess n = 14 ∨ d.sess n = 15) ∧ (ty = 1 ∨ ty = 2) ∧ (d.out n).conn = some false then d.goto n 1 0 1 else d

/-! ### Retries (R314, R318, R375) -/

/-- The outlet may start a session: its mode permits it (R63, R64), its slot is not held in manual (R254), its lifecycle is
not Decommissioned (R103). -/
def Dev.mayStart (d : Dev) (n : Nat) : Bool :=
  (decide (d.mode = .idle) || decide (d.mode = .serve) || decide (d.mode = .island)) &&
  !d.slotBad n && decide (d.lifecycle ≠ 3) && !(d.links.plcFail.testBit n)

/-- An outlet's retry counter: the retries that stand, COUNT and NEXT (R314, R315). -/
def Dev.outRetries (d : Dev) (n : Nat) (l : List Nat) : Dev :=
  let d := d.modOut n fun o => { o with retries := l }
  (d.set (Reg.OUT_RETRY_COUNT n) l.length).set (Reg.OUT_RETRY_NEXT n) (nextExpiry 600 (d.out n).clock l)

/-- A pending retry (R314): one retry is recorded and the outlet returns to LINK. -/
def Dev.performRetry (d : Dev) (n : Nat) : Dev :=
  let o := d.out n
  if d.sess n = 14 ∧ d.get (Reg.OUT_RETRY_PENDING n) = 1 ∧ o.conn = some true ∧ o.retries.length < 3 ∧
      d.mayStart n then
    let d := (d.modOut n fun o => { o with retryOwed := false }).outRetries n (o.retries ++ [o.clock])
    (d.raiseOut n Reg.OUT_EVCAUSE_RETRY).goto n 3 0 1
  else d

/-- A retry that fell due is performed once its counter is not frozen (R318, R375). -/
def Dev.performOwed (d : Dev) (n : Nat) : Dev := if (d.out n).retryOwed ∧ d.get (Reg.OUT_RETRY_FROZEN n) = 0 then d.performRetry n else d

/-- An outlet at a control-period boundary: a retry that fell due, its transition, then what its state asks for. -/
def Dev.settleOutlet (d : Dev) (n : Nat) : Dev :=
  (((((((d.settleFallback n).performOwed n).applyNext n).requestOutputs n).unlockIfDue n).endPulse n).vacateIfGone n).showLock n

/-! ### Connection, setup, authorisation -/

/-- The connection of an outlet as it reads; a connection is detected once it has stood for 50 ms (R279), which a pluck test on a slot of
the outlet notes (R265). -/
def connectionDetected (n : Nat) (r : ConnRead) (d : Dev) : Dev :=
  let ty := d.get (Reg.OUT_CFG_TYPE n)
  if ty ≠ 1 ∧ ty ≠ 2 then d
  else
    let d := d.set (Reg.OUT_SESS_CONN n) r.state.val
    if !r.stood ∨ r.state.val = 0 ∨ r.state.val = 3 then d
    else
      let hit := d.pluck.on && decide (d.slotOutlet d.pluck.slot = n) && decide ((d.out n).conn ≠ some true)
      let d : Dev := { d.modOut n fun o => { o with conn := some true } with
        pluck := { d.pluck with connHit := d.pluck.connHit || hit } }
      if d.sess n = 1 ∧ d.mayStart n then d.goto n 2 0 1 else d

/-- The real-time clock stands for a known time (R352). -/
def Dev.timeKnown (d : Dev) : Bool := decide (1577836800 ≤ d.rtc)

/-- The protocols an outlet offers (R275): 1 DIN, 2 ISO 15118-2, 3 and 4 ISO 15118-20 DC, 5 MCS; while the time is unknown
none that TLS protects (R352). -/
def Dev.offered (d : Dev) (n proto : Nat) : Bool :=
  let ty := d.get (Reg.OUT_CFG_TYPE n)
  (decide (proto = 1) || d.timeKnown) && match proto with
  | 1 => ty = 1 && decide (d.get (Reg.OUT_CFG_DIN n) = 1)
  | 2 => ty = 1 && decide (d.get (Reg.OUT_CFG_ISO2 n) = 1)
  | 3 => ty = 1 && decide (d.get (Reg.OUT_CFG_ISO20 n) = 1)
  | 4 => ty = 1 && decide (d.get (Reg.OUT_CFG_ISO20 n) = 1) && decide (d.get (Reg.OUT_CFG_BPT n) = 1) &&
      decide (d.get (Reg.OUT_BPT_IDIS n) ≠ 0) &&
      (d.healthyOf n).all fun s => (tget 0 (d.str s).pages 5).testBit 0
  | 5 => ty = 2 && decide (d.get (Reg.OUT_CFG_ISO20 n) = 1)
  | _ => false

/-- The connection carries what the protocol asks for: no TLS under DIN SPEC 70121, TLS 1.2 under ISO 15118-2, TLS 1.3 under ISO 15118-20
(R344, R348). -/
def Dev.tlsFits (d : Dev) (n proto : Nat) : Bool :=
  let v := d.get (Reg.VLK_LINK_TLSVER n)
  decide (v = if proto = 1 then 0 else if proto = 2 then 1 else 2)

/-- A protocol that session setup may select. -/
def Dev.offers (d : Dev) (n proto : Nat) : Bool := d.offered n proto && d.tlsFits n proto

/-- A legal outlet of an FXG640-L whose hold-up cannot afford last gasp refuses every session at SETUP (R283). -/
def Dev.legalRefused (d : Dev) (n : Nat) : Bool :=
  d.isL && decide (d.get (Reg.OUT_CFG_LEGAL n) = 1) && decide (d.get Reg.TAL_STATUS_AFFORD = 0)

/-- Session setup and service selection are complete; two record entries are reserved (R278, R283, R422,
R548). -/
def sessionSetupComplete (n proto : Nat) (eim : Bool) (d : Dev) : Dev :=
  if d.sess n ≠ 4 then d
  else if d.safeWait then d.goto n 14 10 1
  else if d.tally.calLost ∧ d.get (Reg.OUT_CFG_LEGAL n) = 1 then d.goto n 14 14 1
  else if d.legalRefused n then (d.goto n 14 14 1).raiseOut n Reg.OUT_EVCAUSE_HOLDUP
  else if d.offers n proto then
    let (d, ok) := if d.records ∧ d.scopeOn n then d.reserve n else (d, true)
    if !ok ∧ d.get (Reg.OUT_CFG_LEGAL n) = 1 then (d.goto n 14 14 1).raiseOut n Reg.OUT_EVCAUSE_HOLDUP
    else
    let d := (d.set (Reg.OUT_SESS_PROTO n) proto).modOut n fun o => { o with eimSel := eim && decide (d.get (Reg.OUT_CFG_EIM n) = 1) }
    d.goto n 5 0 1
  else d

/-- AUTHOK acts only in AUTH, with external identification selected (R282). -/
def outCmdAuthok (n : Nat) (d : Dev) : Dev := if d.sess n = 5 ∧ (d.out n).eimSel then d.goto n 6 0 1 else d

def outCmdAuthno (n : Nat) (d : Dev) : Dev := if d.sess n = 5 then d.goto n 14 4 1 else d

/-- A stage from LINK to PRECHARGE has run out of time: end cause 5; a transient fault in CABLECHECK and PRECHARGE (R281). -/
def stageTimeout (n : Nat) (d : Dev) : Dev :=
  let st := d.sess n
  if 3 ≤ st ∧ st ≤ 6 then d.endSession n 5 1 else if st = 7 ∨ st = 8 then d.endSession n 5 2 true else d

/-- A message-level timeout of the vehicle's standard: a vehicle-link error (R36, R313). -/
def messageTimeout (n : Nat) (d : Dev) : Dev :=
  let st := d.sess n
  if 3 ≤ st ∧ st ≤ 10 then d.linkFails n else if st = 11 then d.noStop n else d

/-- The vehicle's parameters, voltages in 0.1 V and current in 0.1 A (R284). `disV` is the lowest voltage at which a
bidirectional session requests discharge, `maxW` its maximum power in W where it sends one. -/
def chargeParameters (n minV maxV maxI disV : Nat) (maxW : Option Nat) (d : Dev) : Dev :=
  if d.sess n ≠ 6 then d
  else if d.get (Reg.OUT_RATING_VMAX n) < minV ∨ maxV < 1500 ∨
      (d.get (Reg.OUT_SESS_PROTO n) = 4 ∧ disV < d.get (Reg.OUT_BPT_VMIN n)) then d.goto n 14 13 1
  else
    let d := (d.set (Reg.OUT_EVMAX_VMAX n) maxV).set (Reg.OUT_EVMAX_IMAX n) maxI
    d.modOut n fun o => { o with accepted := true, maxW := maxW }

/-! ### Cable check and insulation -/

/-- An outlet whose thermal latch stands does not proceed (R371). -/
def cableCheckRequest (n : Nat) (d : Dev) : Dev :=
  if d.sess n = 6 ∧ (d.out n).accepted ∧ d.get (Reg.CAB_STAT_LATCH n) = 0 then d.goto n 7 0 1 else d

/-- The GPIO line that reads the outlet's lock shows it (R286, AUX_GPIOIN). -/
def Dev.lockReads (d : Dev) (n : Nat) (locked : Bool) : Dev :=
  if d.get (Reg.OUT_CFG_LOCK n) = 1 then
    d.lineReads (d.get (Reg.OUT_LOCKCFG_FB n)) (locked != decide (d.get (Reg.OUT_LOCKCFG_FBPOL n) = 1))
  else d

/-- Lock feedback reads locked: cable check injects from now on (R286, R290). -/
def lockConfirmed (n : Nat) (d : Dev) : Dev :=
  let d := d.lockReads n true
  if d.sess n = 7 ∧ d.get (Reg.OUT_CFG_LOCK n) = 1 then (d.modOut n fun o => { o with lockOk := true }).startInjection n else d

def lockTimeout (n : Nat) (d : Dev) : Dev :=
  if d.sess n = 7 ∧ !(d.out n).lockOk then (d.endSession n 6 2 true).raiseOut n Reg.OUT_EVCAUSE_LOCK else d

/-- Insulation thresholds in kΩ × 10: 500 Ω/V and 100 Ω/V of VMAX in 0.1 V (R288). -/
def Dev.isoWarnAt (d : Dev) (n : Nat) : Nat := 500 * d.get (Reg.OUT_RATING_VMAX n)
def Dev.isoFaultAt (d : Dev) (n : Nat) : Nat := 100 * d.get (Reg.OUT_RATING_VMAX n)

/-- Insulation has passed, the own course is Parked, sense is compared with the metering voltage (R285, R291). -/
def cableCheckComplete (n : Nat) (d : Dev) : Dev :=
  let o := d.out n
  if d.sess n = 7 ∧ o.lockOk ∧ o.isoPassed ∧ d.get (Reg.INK_COURSE_STATE n) = 0 then
    let apart := decide (10 * (d.get Reg.STR_SENSECFG_TOL : Int) < (o.senseV - o.meterV).natAbs) || d.bit Reg.STR_SENSE_LOST n
    let d := if apart then (d.senseFallback n).raiseOut n Reg.OUT_EVCAUSE_SENSE else d
    let d := (d.modOut n fun o => { o with ccDone := true }).say n 1 [1]
    -- a TYPE 3 outlet runs on without messages (R276)
    if d.get (Reg.OUT_CFG_TYPE n) = 3 then d.goto n 8 0 1 else d
  else d

/-! ### Precharge -/

/-- Both feedback inputs confirm closing (R294): PRECHARGE frames begin toward V_t, in 25 mV units; a soft start is attempted (R296). -/
def contactorsClosed (n : Nat) (d : Dev) : Dev :=
  let o := d.out n
  if d.sess n = 8 ∧ o.contReq then
    let d := (d.setBit Reg.SAF_FBSTAT_BITS (2 * n) true).setBit Reg.SAF_FBSTAT_BITS (2 * n + 1) true
    let d := if o.preActive then d else d.setSat (Reg.OUT_RETRY_SOFT n) (d.get (Reg.OUT_RETRY_SOFT n) + 1)
    let d := d.modOut n fun o => { o with closed := true, preActive := true, preTarget := 4 * o.vt }
    -- R89: the frames bring the course out of BLOCK
    (d.modCourse n fun c => { c with blocked := false }).setBit Reg.STR_BLOCKSTAT_HELD n false
  else d

/-- Every 10 ms: V_t less the sense voltage is added to the target, which is clamped to V_t ± 20 V (R294). -/
def prechargeCorrection (n : Nat) (d : Dev) : Dev :=
  let o := d.out n
  if d.sess n = 8 ∧ o.preActive then
    let t : Int := o.preTarget + 4 * ((o.vt : Int) - o.senseV)
    d.modOut n fun o => { o with preTarget := (clampI (4 * ((o.vt : Int) - 200)) (4 * ((o.vt : Int) + 200)) t).toNat }
  else d

/-- Sense has not passed 10 % of V_t 50 ms after the first PRECHARGE frame (R295, R296). -/
def softStartFailure (n : Nat) (d : Dev) : Dev :=
  let o := d.out n
  if d.sess n = 8 ∧ o.preActive ∧ 10 * o.senseV ≤ (o.vt : Int) then
    let tries := d.get (Reg.OUT_RETRY_SOFT n)
    let d := (d.outputsOff n).modOut n fun o => { o with preActive := false, softWait := decide (tries < 2), closed := false }
    let d := d.raiseOut n Reg.OUT_EVCAUSE_SOFTSTART
    if tries < 2 then d else d.goto n 15 8 1
  else d

/-- 2 s after the first failure the soft start is repeated at half the limit (R296). -/
def softStartRetry (n : Nat) (d : Dev) : Dev :=
  if d.sess n = 8 ∧ (d.out n).softWait then d.modOut n fun o => { o with softWait := false, softHalf := true } else d

/-- Sense has stayed within V_t ± 10 V for DWELL (R297). -/
def prechargeComplete (n : Nat) (d : Dev) : Dev :=
  let o := d.out n
  if d.sess n = 8 ∧ o.preActive ∧ (o.senseV - o.vt).natAbs ≤ 100 then
    let d := (d.modOut n fun o => { o with preDone := true }).say n 2 [1]
    if d.get (Reg.OUT_CFG_TYPE n) = 3 then d.goto n 9 0 1 else d
  else d

/-! ### Delivery -/

def powerDeliveryStart (n : Nat) (d : Dev) : Dev :=
  if d.sess n = 8 then if (d.out n).preDone then d.goto n 9 0 1 else d.say n 3 [0] else d

/-- The advertised values of a response (R303): maximum current, maximum power, maximum voltage, present values. While the
outlet discharges the maximum current is that of R306. -/
def Dev.advertise (d : Dev) (n : Nat) : Dev :=
  let o := d.out n
  let lim := if d.bit Reg.STR_SENSE_FALLBACK n then o.limit / 2 else o.limit
  let all := ((d.arcStrings n).filter d.healthy).length
  let cap := stringCap (d.get Reg.INK_CELLCFG_IMAX) (d.get Reg.INK_CELLCFG_PMAX) (d.regV n).toNat * all / 10
  let imax := if d.get (Reg.OUT_SESS_DISCHG n) = 1 then min (d.get (Reg.OUT_BPT_IDIS n)) (min (d.get (Reg.CAB_CEIL_CEIL n)) cap)
    else min lim (d.get (Reg.OUT_RATING_IMAX n))
  let d := (d.setSat (Reg.OUT_ADV_IMAX n) imax).set (Reg.OUT_ADV_KW n) (d.get (Reg.INK_GRANT_KW n))
  d.say n 4 [imax, d.get (Reg.INK_GRANT_KW n), d.get (Reg.OUT_RATING_VMAX n), ofSigned 32 (d.regV n),
    ofSigned 32 o.senseI]

/-- A current request in 0.1 A and a target voltage in 0.1 V (R300); negative in a bidirectional session (R306). -/
def currentDemand (n : Nat) (i : Int) (v : Nat) (d : Dev) : Dev :=
  if d.sess n = 9 ∧ (0 ≤ i ∨ d.get (Reg.OUT_SESS_PROTO n) = 4) then
    (d.modOut n fun o => { o with demand := some (i, v) }).advertise n
  else d

/-- ISO 15118-20 standby and resume (R278, R304). -/
def Dev.iso20 (d : Dev) (n : Nat) : Bool := decide (3 ≤ d.get (Reg.OUT_SESS_PROTO n))

def standbyRequest (n : Nat) (d : Dev) : Dev := if d.sess n = 9 ∧ d.iso20 n then d.goto n 10 0 1 else d

def resumeRequest (n : Nat) (d : Dev) : Dev := if d.sess n = 10 ∧ d.iso20 n then d.goto n 9 0 1 else d

/-- A vehicle stop: last orders from DELIVERY and PAUSE, the end of a session in CABLECHECK and PRECHARGE (R278); in RUNDOWN the
stop request that R309 waits for. -/
def vehicleStop (n : Nat) (d : Dev) : Dev :=
  (if 7 ≤ d.sess n then d.endSession n 1 3 else d).modOut n fun o => { o with stopReq := true }

def outCmdStop (n : Nat) (d : Dev) : Dev :=
  (d.endSession n 2 3).modOut n fun o => { o with stopReq := o.stopReq || decide (d.get (Reg.OUT_CFG_TYPE n) = 3) }

/-- DISABLE: STOP in a live state with DISABLED in place of ENDED; ENDED and LOCKOUT go to DISABLED (R278, R320). -/
def outCmdDisable (n : Nat) (d : Dev) : Dev :=
  let st := d.sess n
  if st = 14 ∨ st = 15 then d.goto n 0 0 3
  else if sessLive st then (d.endSession n 2 3).modOut n fun o => { o with disableAfter := true }
  else d

def outCmdEnable (n : Nat) (d : Dev) : Dev := if d.sess n = 0 then d.goto n 1 0 1 else d

/-- A dummy-load run: in Commission, on a TYPE 3 outlet (R276). A refused write records code 3. -/
def outCmdDummyrun (n : Nat) (d : Dev) : Dev :=
  if d.mode = .commission ∧ d.get (Reg.OUT_CFG_TYPE n) = 3 then
    if d.sess n = 1 ∨ d.sess n = 14 then
      let d := d.modOut n fun o => { o with vt := d.get (Reg.OUT_DUMMYSP_V n), accepted := true, stopReq := false }
      let d := (d.set (Reg.OUT_EVMAX_VMAX n) (d.get (Reg.OUT_RATING_VMAX n))).set (Reg.OUT_EVMAX_IMAX n) (d.get (Reg.OUT_RATING_IMAX n))
      let d := d.set (Reg.OUT_RETRY_SOFT n) 0
      d.goto n 7 0 1
    else d
  else (d.set Reg.SYS_REFUSE_CODE (if d.mode = .commission then 6 else 3)).set Reg.SYS_REFUSE_ADDR ((Reg.OUT_CMD_DUMMYRUN n).key / 32)

def grantZeroTimeout (n : Nat) (d : Dev) : Dev :=
  if d.sess n = 9 ∧ d.get (Reg.INK_GRANT_KW n) = 0 ∧ (d.out n).grantW = 0 then
    d.raiseOut n Reg.OUT_EVCAUSE_GRANT0
  else d

/-- Arc capacity 0 for 1 s in DELIVERY: a transient fault; the spec gives it no end cause, so that is free (R313). -/
def arcCapacityZero (n : Nat) (d : Dev) : Dev :=
  if d.sess n = 9 ∧ d.activeStrings n = [] then
    let (k, d) := d.free
    d.endSession n (Config.freeNat k) 2 true
  else d

/-! ### Run-down, weld detection, unlock -/

/-- The vehicle has sent its stop request, or the session has ended without one: no vehicle, its link failed, or it is gone (R309). -/
def Dev.stopIn (d : Dev) (n : Nat) : Bool :=
  let o := d.out n
  o.stopReq || o.linkGone || decide (d.get (Reg.OUT_CFG_TYPE n) = 3) || decide (o.conn = some false)

/-- 2 A or less for 10 ms, and the stop request is in or the session ended without one (R309). -/
def rundownComplete (n : Nat) (d : Dev) : Dev :=
  if d.sess n = 11 ∧ (d.out n).senseI.natAbs ≤ 20 ∧ d.stopIn n then d.goto n 12 0 1 else d

/-- Still above 2 A after RUNDOWN + 100 ms: BLOCK, the event, and run-down counts as complete (R309). -/
def rundownOverrun (n : Nat) (d : Dev) : Dev :=
  if d.sess n = 11 ∧ 20 < (d.out n).senseI.natAbs then
    let d := d.blockArc n
    (d.raiseOut n Reg.OUT_EVCAUSE_RUNDOWN).goto n 12 0 1
  else d

/-- Both feedback inputs read open: the opening instant (R310, R444), from which plausibility is not judged (R660). -/
def contactorsOpened (n : Nat) (d : Dev) : Dev :=
  let d := (d.setBit Reg.SAF_FBSTAT_BITS (2 * n) false).setBit Reg.SAF_FBSTAT_BITS (2 * n + 1) false
  let d := ((d.modSafOut n fun x => { x with openAt := some d.now }).showLock n).senseGone n 2
  if d.sess n = 12 then d.modOut n fun o => { o with opened := true, closed := false } else d

/-- The end of weld detection (R309, R446): the hold of the arc ends, its courses return to the Innkeeper (R137), and the
outlet's own course stays in BLOCK while a latch of the outlet stands. -/
def Dev.weldDone (d : Dev) (n st cause rank : Nat) : Dev :=
  let d := if d.arcHeld n then
      let d := d.setBit Reg.STR_BLOCKSTAT_HELD n false
      let d := (d.arcCourses n).foldl (fun d c =>
        (d.modCourse c fun x => { x with frozenMove := true }).set (Reg.INK_COURSE_STATE c) 4) d
      if d.outletLatched n then
        d.modSafOut n fun x => { x with walled := true }
      else d
    else d
  d.goto n st cause rank

/-- The sense voltage 2 s after the opening instant, in 0.1 V (R310, R312, R446). -/
def weldVoltageCheck (n v2s : Nat) (d : Dev) : Dev :=
  if d.sess n ≠ 12 ∨ !(d.out n).opened then d
  else
    let d := d.setSat (Reg.OUT_WELD_V2S n) v2s
    if 600 < v2s then
      let d := (d.set (Reg.OUT_WELD_RESULT n) 2).raiseOut n Reg.OUT_EVCAUSE_WELD
      let was := d.get (Reg.SAF_OSTAT_LATCH n)
      -- a weld raises SF4
      let d := if was.testBit 3 then d
        else ((((d.set (Reg.SAF_OSTAT_LATCH n) (was + 8)).set (Reg.SAF_OSTAT_ACT n) (was + 8)).setBit
          Reg.SAF_STATUS_OUTSAFE n true).raise 81 n).blockArc n
      d.weldDone n 15 0 4
    else
      let d := d.set (Reg.OUT_WELD_RESULT n) 1
      if d.bit (Reg.SAF_OSTAT_LATCH n) 3 then d.weldDone n 15 0 4 else d.weldDone n 13 0 1

/-- Unlock is confirmed: ENDED (R312). -/
def unlockComplete (n : Nat) (d : Dev) : Dev :=
  let d := d.lockReads n false
  if d.sess n = 13 then d.goto n 14 0 1 else d

def unlockTimeout (n : Nat) (d : Dev) : Dev :=
  if d.sess n = 13 then (d.raiseOut n Reg.OUT_EVCAUSE_LOCK).goto n 14 0 1 else d

/-! ### Retries -/

/-- The 3 s wait of a pending retry is over: it is performed at the next control-period boundary, unless its counter is frozen by then, for
which it waits (R314, R318, R375). -/
def retryDue (n : Nat) (d : Dev) : Dev :=
  if d.sess n = 14 ∧ d.get (Reg.OUT_RETRY_PENDING n) = 1 then d.modOut n fun o => { o with retryOwed := true } else d

/-- The oldest standing retry of an outlet leaves its counter after 10 minutes of counter time (R315). -/
def Dev.expireOut (d : Dev) (n : Nat) : Dev :=
  if d.get (Reg.OUT_RETRY_FROZEN n) = 1 then d
  else d.outRetries n ((d.out n).retries.drop 1)

/-- The oldest standing retry of a string leaves its counter after 1 hour of counter time (R316). -/
def Dev.expireStr (d : Dev) (s : Nat) : Dev :=
  if d.get (Reg.OUT_STRCNT_FROZEN s) = 1 then d
  else d.strRetries s ((d.str s).retries.drop 1)

/-- `k` below 16 names an outlet's counter, from 16 on string k − 16's. -/
def retryExpiry (k : Nat) (d : Dev) : Dev := if k < 16 then d.expireOut k else d.expireStr (k - 16)

/-- Counter time of every counter that is not frozen advances (R315, R316, R318). -/
def Dev.tickCounters (d : Dev) (ns : Nat) : Dev :=
  let d := forAll 16 d fun d n =>
    let o := d.out n
    if o.retries = [] ∨ d.get (Reg.OUT_RETRY_FROZEN n) = 1 then d
    else (d.modOut n fun o => { o with clock := o.clock + ns }).set (Reg.OUT_RETRY_NEXT n) (nextExpiry 600 (o.clock + ns) o.retries)
  forAll 64 d fun d s =>
    let x := d.str s
    if x.retries = [] ∨ d.get (Reg.OUT_STRCNT_FROZEN s) = 1 then d
    else (d.modStr s fun x => { x with clock := x.clock + ns }).set (Reg.OUT_STRCNT_NEXT s) (nextExpiry 3600 (x.clock + ns) x.retries)

/-- A power slot's eighth poisoned evaluation (R258): a string slot faults its string; an outlet slot's session ends through
last orders with end cause 16; a thermal slot holds its output. -/
def slotOutOfService (i : Nat) (d : Dev) : Dev :=
  if d.get (Reg.TUN_SSTAT_POISONCNT i) < 8 then d
  else if i < 16 then (d.slotOut i).endSession i 16 2 true
  else if i < 80 then (d.slotOut i).faultString (i - 16)
  else d

end Sys2Proof.Machine
end

