-- ==== Sys2Proof/Machine/Pigeonholes.lean ====
section
/-! DEFINITION. Pigeonholes: POST, TAKE, ACK, DONE and FLUSH, wakes, and epochs (R577, R579 to R581). -/

namespace Sys2Proof.Machine

/-- The key an agent's epoch is kept under: its code, or 32 + address for a fabric peer. -/
def epochKey (agent addr : Nat) : Nat := if agent = 12 then 32 + addr else agent

/-- An agent's present epoch. -/
def Dev.epochNow (d : Dev) (agent addr : Nat) : Nat :=
  if agent < 3 then d.get (Reg.HST_EPOCH_EPOCH agent) else tget 0 d.epochs (epochKey agent addr)

/-- The flags a change of an agent's epoch sets (R581). -/
def Dev.epochFlags (d : Dev) (agent addr : Nat) : Dev :=
  forAll 32 d fun d h =>
    let st := d.get (Reg.PGH_STAT_STATE h)
    let d := if d.get (Reg.PGH_CFG_RCV h) = agent ∧ (st = 1 ∨ st = 2) then d.set (Reg.PGH_STAT_RCV_EPOCH_CHANGED h) 1 else d
    if d.get (Reg.PGH_STAT_SNDAGENT h) = agent ∧ st = 3 ∧ (agent ≠ 12 ∨ d.get (Reg.PGH_STAT_SNDADDR h) = addr) then
      d.set (Reg.PGH_STAT_STALE h) 1
    else d

/-- Learns an agent's epoch (R577, R581). -/
def Dev.setEpoch (d : Dev) (agent addr v : Nat) : Dev :=
  if d.epochNow agent addr = v % 65536 then d
  else
    let d := if agent < 3 then d.set (Reg.HST_EPOCH_EPOCH agent) v
      else { d with epochs := tput 0 d.epochs (epochKey agent addr) (v % 65536) }
    d.epochFlags agent addr

/-- A wake of the receiver or of the recorded sender (R580). -/
def Dev.pghWake (d : Dev) (agent h : Nat) : Dev :=
  if agent < 3 then d.raise (120 + h / 4) h else if agent < 11 then d.emit (.wake agent) else d

/-- Records what an agent's last operation gave (PGH_RESULT). -/
def Dev.pghAnswer (d : Dev) (agent code : Nat) : Dev := { d with pghResult := tput 0 d.pghResult agent code }

/-- The payload a host port has staged. -/
def Dev.staged (d : Dev) (port len : Nat) : List Byte :=
  ((List.range 64).flatMap fun w => leBytes 4 (tget 0 d.stage (64 * port + w))).take len

/-- POST (R579). A host port's payload is its staging area; another agent brings its own. -/
def pghPost (agent h len : Nat) (payload : List Byte) (addr epoch : Nat) (d : Dev) : Dev :=
  let d := if agent = 11 ∨ agent = 12 then d.setEpoch agent addr epoch else d
  if 256 < len then d.pghAnswer agent 4
  else if d.get (Reg.PGH_STAT_STATE h) ≠ 0 then d.pghAnswer agent 1
  else
    let bytes := if agent < 3 then d.staged agent len else (payload ++ List.replicate 256 0#8).take len
    let d := d.pghFill h agent addr (d.epochNow agent addr) bytes
    (d.pghAnswer agent 0).pghWake (d.get (Reg.PGH_CFG_RCV h)) h

/-- The answer where both the state and the agent are wrong: the spec does not say which code, so it is free. -/
def Dev.pghRefuse (d : Dev) (agent : Nat) (wrongState wrongAgent : Bool) : Dev :=
  if wrongState ∧ wrongAgent then
    let (k, d) := d.free
    d.pghAnswer agent (2 + Config.freeNat k % 2)
  else d.pghAnswer agent (if wrongState then 2 else 3)

/-- TAKE (R579). -/
def pghTake (agent h : Nat) (d : Dev) : Dev :=
  let ws := decide (d.get (Reg.PGH_STAT_STATE h) ≠ 1)
  let wa := decide (d.get (Reg.PGH_CFG_RCV h) ≠ agent)
  if ws ∨ wa then d.pghRefuse agent ws wa else (d.set (Reg.PGH_STAT_STATE h) 2).pghAnswer agent 0

/-- ACK with a return code (R579 to R581). A remote sender gets the code in a PGH frame. -/
def pghAck (agent h code : Nat) (d : Dev) : Dev :=
  let st := d.get (Reg.PGH_STAT_STATE h)
  let ws := decide (st ≠ 1 ∧ st ≠ 2)
  let wa := decide (d.get (Reg.PGH_CFG_RCV h) ≠ agent)
  if ws ∨ wa then d.pghRefuse agent ws wa
  else
    let snd := d.get (Reg.PGH_STAT_SNDAGENT h)
    let addr := d.get (Reg.PGH_STAT_SNDADDR h)
    let stale := decide (snd ≠ 13 ∧ d.epochNow snd addr ≠ d.get (Reg.PGH_EPOCH_SND h))
    let d := ((d.set (Reg.PGH_STAT_STATE h) 3).set (Reg.PGH_ACKCODE_CODE h) code).set (Reg.PGH_STAT_STALE h) (flag stale)
    let d := (d.pghAnswer agent 0).pghWake snd h
    if snd = 12 then d.emit (.fabric addr 6 [3, h, code % 65536]) else if snd = 11 then d.emit (.twin 6 [3, h, code % 65536]) else d

/-- DONE by the recorded sender, or, for a remote sender, the link's acknowledgement of the frame that carried the return code (R579). -/
def pghDone (agent h : Nat) (d : Dev) : Dev :=
  let ws := decide (d.get (Reg.PGH_STAT_STATE h) ≠ 3)
  let wa := decide (d.get (Reg.PGH_STAT_SNDAGENT h) ≠ agent)
  if ws ∨ wa then d.pghRefuse agent ws wa else (d.set (Reg.PGH_STAT_STATE h) 0).pghAnswer agent 0

/-- FLUSH by a host port, from any state (R579). -/
def pghFlush (agent h : Nat) (d : Dev) : Dev :=
  if agent < 3 then (d.set (Reg.PGH_STAT_STATE h) 0).pghAnswer agent 0 else d.pghAnswer agent 3

/-- PGH_PEND as host port p reads it: POSTED to it, or ACKED for it (R580). -/
def Dev.pghPend (d : Dev) (p : Nat) : Nat :=
  (List.range 32).foldl (fun acc h =>
    let st := d.get (Reg.PGH_STAT_STATE h)
    if (st = 1 ∧ d.get (Reg.PGH_CFG_RCV h) = p) ∨ (st = 3 ∧ d.get (Reg.PGH_STAT_SNDAGENT h) = p) then acc + 2 ^ h else acc) 0

end Sys2Proof.Machine
end

