-- ==== Sys2Proof/Machine/Link.lean ====
section
/-! DEFINITION. The vehicle links: PLC reception, retransmission and blanking, beacons, SLAC across outlets, 10BASE-T1S,
session messages, relays through the host, identities (R323 to R357). -/

namespace Sys2Proof.Machine

def Dev.link (d : Dev) (n : Nat) : LinkCtx := tget {} d.links.links n
def Dev.modLink (d : Dev) (n : Nat) (f : LinkCtx → LinkCtx) : Dev :=
  { d with links := { d.links with links := tput {} d.links.links n (f (d.link n)) } }
def Dev.modLinks (d : Dev) (f : LinksCtx → LinksCtx) : Dev := { d with links := f d.links }

/-- A pilot or CE state change wakes the outlet's interface (R175, R323). -/
def Dev.wakeLink (d : Dev) (n : Nat) : Dev :=
  if d.get (Reg.VLK_LINK_LSTATE n) ≠ 0 then d
  else if d.get (Reg.OUT_CFG_TYPE n) = 1 then d.set (Reg.VLK_LINK_LSTATE n) 1
  else if d.get (Reg.OUT_CFG_TYPE n) = 2 then d.set (Reg.VLK_LINK_LSTATE n) 4
  else d

/-! ### Reception (R328, R332 to R335) -/

/-- Blanking of received samples: history of unblanked samples, samples still to blank, blanked flags in order (R332). A
sample is blanked when its square times the number of samples in the history exceeds k² times their sum of squares. -/
def blankStep (k : Nat) (acc : List Int × Nat × List Bool) (x : Int) : List Int × Nat × List Bool :=
  let (hist, after, out) := acc
  let sq := hist.foldl (fun a y => a + y.natAbs ^ 2) 0
  if k ^ 2 * sq < hist.length * x.natAbs ^ 2 then (hist, 8, out ++ [true])
  else if after ≠ 0 then (hist, after - 1, out ++ [true])
  else ((x :: hist).take 3072, 0, out ++ [false])

/-- The blanked samples of a run of samples, with the channel after it. -/
def blankRun (k : Nat) (hist : List Int) (after : Nat) (xs : List (BitVec 12)) : List Int × Nat × Nat :=
  let (h, a, out) := (xs.map BitVec.toInt).foldl (blankStep k) (hist, after, [])
  (h, a, (out.filter id).length)

/-- A frame's symbols: the channel after it, blanked samples in all, and which symbols are erased (R333). -/
def blankFrame (k : Nat) : List PlcSymbol → List Int → Nat → List Int × Nat × Nat × List Bool
  | [], h, a => (h, a, 0, [])
  | s :: rest, h, a =>
    let (h, a, g) := blankRun k h a s.guard
    let (h, a, w) := blankRun k h a s.window
    let (h, a, n, er) := blankFrame k rest h a
    (h, a, g + w + n, decide (384 < w) :: er)

/-- R334: the block surely decodes. ROBO 1 is Mini-ROBO: two erasures in five; else one in four; 10 dB is 40 quarters. -/
def blockDecodes (robo : Nat) (snr : List Nat) (erased : List Bool) (b : PlcBlock) : Bool :=
  let er := (b.syms.filter fun i => erased.getD i false).length
  let reach := if robo = 1 then decide (5 * er ≤ 2 * b.syms.length) else decide (4 * er ≤ b.syms.length)
  let loud := b.syms.all fun i => erased.getD i false || decide (40 ≤ snr.getD i 0)
  (reach && loud) || b.crcOk

/-- A received PLC frame: its frame control reserves the channel (R327); blanked, erased and decoded block by block; the selective
acknowledgement names the blocks that failed (R332 to R335). -/
def plcFrameReceived (n : Nat) (head : PlcHead) (symbols : List PlcSymbol) (blocks : List PlcBlock) (d : Dev) : Dev :=
  if !d.plcOn n then d
  else
    let robo := head.robo.val
    let d := (d.tbRun 4).macHear n head.reserved (resolvedPriority head.prs0 head.prs1)
    let x := d.link n
    let (h, a, blanked, erased) := blankFrame (d.get Reg.VLK_NOISECFG_K) symbols x.hist x.after
    let snr := symbols.map (·.snr)
    let bad := blocks.map fun b => !blockDecodes robo snr erased b
    let d := d.modLink n fun x => { x with hist := h, after := a, blankSec := x.blankSec + blanked }
    let d := (d.addSat (Reg.VLK_BLANK_COUNT n) blanked).addSat (Reg.VLK_ERASE_COUNT n) (erased.filter id).length
    let d := d.addSat (Reg.VLK_PBERR_COUNT n) (bad.filter id).length
    let d := d.set (Reg.VLK_LINK_ROBO n) robo
    let d := if symbols = [] then d
      else d.setSat (Reg.VLK_LINK_SNR n) (quot (snr.foldl (· + ·) 0 : Nat) snr.length).toNat
    d.say n 12 (bad.map flag)

/-- A unicast frame is to be sent again: up to RETRY times, each counted, each after the longer backoff that a failed attempt draws; then
it is dropped (R327, R328). `fresh` says that this is the frame's first failure. -/
def plcRetransmission (n : Nat) (fresh : Bool) (d : Dev) : Dev :=
  if !d.plcOn n then d
  else
    let tries := if fresh then 0 else (d.link n).tries
    if tries < d.get Reg.VLK_MACCFG_RETRY then
      let d := (d.addSat (Reg.VLK_RETRY_COUNT n) 1).modLink n fun x => { x with tries := tries + 1 }
      (d.macDraw n (d.plcPriority n 13) (min 3 (tries + 1))).say n 13 [tries + 1]
    else d.modLink n fun x => { x with tries := 0 }

/-- Each second: EV098 for an outlet whose blanked samples exceed EVTRATE × 1,000 (R335). -/
def blankRateCheck (d : Dev) : Dev :=
  forAll 16 d fun d n =>
    let b := (d.link n).blankSec
    if b = 0 then d
    else
      let d := d.modLink n fun x => { x with blankSec := 0 }
      if 1000 * d.get Reg.VLK_NOISECFG_EVTRATE < b then d.raiseVlk 98 n else d

/-! ### Beacons (R329 to R331) -/

/-- EV097, with the beacon bit of every CCS outlet's EVCAUSE (R357). -/
def Dev.beaconEvent (d : Dev) : Dev :=
  (forAll 16 d fun d n =>
    if d.get (Reg.OUT_CFG_TYPE n) = 1 then d.setBit (Reg.VLK_LINK_EVCAUSE n) 1 true else d).raise 97 0

/-- Two cycles of the nominal frequency in 10 µs. -/
def Dev.beaconNominal (d : Dev) : Nat := if d.get Reg.VLK_BCNCFG_NOMHZ = 1 then 3333 else 4000

/-- The beacons have moved to within 10 µs of their place: LOCKED (R331). -/
def Dev.beaconSettle (d : Dev) : Dev :=
  if d.get Reg.VLK_BCNSTAT_STATE = 2 ∧ d.links.beaconErr.natAbs ≤ 10 then (d.set Reg.VLK_BCNSTAT_STATE 0).beaconEvent else d

/-- An accepted crossing of the beacons' source, with the time since its predecessor in ns (R329 to R331, R336). -/
def Dev.beaconCrossing (d : Dev) (feed phase : Nat) (positive : Bool) (ns : Nat) : Dev :=
  if d.get Reg.VLK_BCNCFG_FEED ≠ feed ∨ d.get Reg.VLK_BCNCFG_PHASE ≠ phase then d
  else
    let f := if d.get Reg.VLK_BCNCFG_NOMHZ = 1 then 60 else 50
    let good := decide (950000000 ≤ 2 * f * ns ∧ 2 * f * ns ≤ 1050000000)
    (d.set Reg.VLK_BCNSTAT_MISSED 0).modLinks fun l =>
      { l with beaconGood := if good then l.beaconGood + 1 else 0, beaconPos := l.beaconPos + (if positive then 1 else 0) }

/-- A beacon starts on every CCS outlet. -/
def Dev.sayBeacon (d : Dev) : Dev :=
  (forAll 16 d fun d n => if d.plcOn n then d.say n 14 [d.get Reg.VLK_BCNCFG_OFFSET] else d).modLinks fun l => { l with beaconPos := 0 }

/-- A beacon is due. `cycles` is the length of two cycles of the source in ns. While LOCKED it starts after every second positive-going
crossing and at no other time; in FALLBACK the period is nominal; in RELOCK the beacon moves by at most 100 µs toward its place. -/
def beacon (cycles : Nat) (d : Dev) : Dev :=
  match d.get Reg.VLK_BCNSTAT_STATE with
  | 1 => d.sayBeacon.set Reg.VLK_BCNSTAT_PERIOD d.beaconNominal
  | 2 =>
    let e := d.links.beaconErr
    let m : Int := max (-100) (min 100 e)
    let d := d.sayBeacon.modLinks fun l => { l with beaconErr := e - m }
    (d.setSat Reg.VLK_BCNSTAT_PERIOD (((cycles / 1000 : Nat) + m).toNat / 10)).beaconSettle
  | _ => if d.links.beaconPos < 2 then d else d.sayBeacon.setSat Reg.VLK_BCNSTAT_PERIOD (cycles / 10000)

/-- The third expected half-cycle in succession without a crossing (R330). -/
def beaconFallback (d : Dev) : Dev :=
  let d := (d.setSat Reg.VLK_BCNSTAT_MISSED (max 3 (d.get Reg.VLK_BCNSTAT_MISSED + 1))).modLinks fun l => { l with beaconGood := 0 }
  if d.get Reg.VLK_BCNSTAT_STATE = 1 then d else (d.set Reg.VLK_BCNSTAT_STATE 1).beaconEvent

/-- Eight good half-cycles have arrived: RELOCK, with the beacons' distance from their place in µs (R331). -/
def beaconRelock (err : Int) (d : Dev) : Dev :=
  if d.get Reg.VLK_BCNSTAT_STATE = 1 ∧ 8 ≤ d.links.beaconGood then
    ((d.set Reg.VLK_BCNSTAT_STATE 2).modLinks fun l => { l with beaconErr := err }).beaconSettle
  else d

/-! ### SLAC (R337 to R341) -/

def LinksCtx.run (l : LinksCtx) (id : Nat) : Option SlacRun := l.runs.find? fun r => r.id = id

def LinksCtx.putRun (l : LinksCtx) (r : SlacRun) : LinksCtx :=
  { l with runs := (l.runs.filter fun x => x.id ≠ r.id) ++ [r], slacCount := l.slacCount + 1 }

/-- CM_SLAC_PARM.REQ on an outlet in LINK is answered; the run's sounds are collected from then on (R337). A run whose
sounding has ended begins afresh (R339). -/
def slacParmReq (n id : Nat) (d : Dev) : Dev :=
  if d.sess n = 3 ∧ d.plcOn n then
    let old := d.links.run id
    let r : SlacRun := match old with
      | some r => if r.stop.isNone then { r with answered := r.answered ++ [n] }
          else { id := id, answered := [n], start := d.links.slacCount }
      | none => { id := id, answered := [n], start := d.links.slacCount }
    ((d.modLinks fun l => l.putRun r).set (Reg.VLK_LINK_LSTATE n) 2).say n 15 [id]
  else d

/-- Mean attenuations: outlet, sum over sounds and groups in dB, number of values, sounds. -/
def slacMeans (sounds : List (List (List Nat))) : List (Nat × Nat × Nat × Nat) :=
  (sounds.zip (List.range sounds.length)).map fun p =>
    (p.2, (p.1.map fun g => g.foldl (· + ·) 0).foldl (· + ·) 0, (p.1.map List.length).foldl (· + ·) 0, p.1.length)

/-- The mean of the first lies at least `m` dB below that of the second. -/
def slacBelow (m : Nat) (a b : Nat × Nat × Nat × Nat) : Bool :=
  decide (a.2.1 * b.2.2.1 + m * a.2.2.1 * b.2.2.1 ≤ b.2.1 * a.2.2.1)

/-- The least of a list by mean attenuation; the lower outlet where two are equal. -/
def slacLeast : List (Nat × Nat × Nat × Nat) → Option (Nat × Nat × Nat × Nat)
  | [] => none
  | a :: rest => match slacLeast rest with
    | none => some a
    | some b => if slacBelow 0 a b then some a else some b

/-- Tenths of a dB. -/
def slacTenths (a : Nat × Nat × Nat × Nat) : Int := quot (10 * a.2.1) a.2.2.1

/-- An outlet has won a run that was sounded at the same time as one that began at `start` (R341). -/
def LinksCtx.taken (l : LinksCtx) (n id start : Nat) : Bool :=
  l.runs.any fun r => decide (r.id ≠ id ∧ r.winner = some n) && match r.stop with
    | some e => decide (start ≤ e)
    | none => false

/-- A run's sounding ends: sixteen outlets' sounds, each a list of attenuations per group in dB (R337 to R341). -/
def slacSoundingEnd (id : Nat) (sounds : List (List (List Nat))) (d : Dev) : Dev :=
  match d.links.run id with
  | none => d
  | some r =>
    if r.stop.isSome then d
    else
      let comp := (slacMeans sounds).filter fun a =>
        decide (a.1 < 16) && d.plcOn a.1 && decide (d.get Reg.VLK_SLACCFG_MINSOUNDS ≤ a.2.2.2) && decide (a.2.2.1 ≠ 0)
      let least := slacLeast comp
      let second := match least with
        | some w => slacLeast (comp.filter fun a => a.1 ≠ w.1)
        | none => none
      let d := comp.foldl (fun d a =>
        let d := (d.setSat (Reg.VLK_ATTEN_MEAN a.1) (slacTenths a).toNat).setSat (Reg.VLK_ATTEN_SOUNDS a.1) a.2.2.2
        match least, second with
        | some w, some s => (d.set (Reg.VLK_ATTEN_RUNNER a.1) s.1).setSat (Reg.VLK_ATTEN_GAP a.1) (slacTenths s - slacTenths w).toNat
        | _, _ => (d.set (Reg.VLK_ATTEN_RUNNER a.1) 31).set (Reg.VLK_ATTEN_GAP a.1) 0) d
      let winner := match least with
        | some w =>
          if d.sess w.1 = 3 ∧ (comp.all fun a => decide (a.1 = w.1) || (slacBelow (d.get Reg.VLK_SLACCFG_MARGIN) w a &&
              decide (w.2.1 * a.2.2.1 < a.2.1 * w.2.2.1))) ∧ !d.links.taken w.1 id r.start then some w.1 else none
        | none => none
      let d := d.modLinks fun l => l.putRun { r with stop := some l.slacCount, winner := winner }
      match winner with
      | some n => d.say n 16 [id]
      | none =>
        let d := (d.addSat Reg.VLK_AMBIG_COUNT 1)
        (r.answered.foldl (fun d n => d.setBit (Reg.VLK_LINK_EVCAUSE n) 0 true) d).raise 96 (r.answered.headD 0)

def LinksCtx.wins (l : LinksCtx) (n id : Nat) : Bool := l.runs.any fun r => decide (r.id = id ∧ r.winner = some n)

/-- CM_SLAC_MATCH.REQ is accepted on the run's winner only; once the vehicle has joined under the new NMK the match is
confirmed and the outlet goes to SETUP (R278, R340). -/
def slacMatchReq (n id : Nat) (joined : Bool) (d : Dev) : Dev :=
  if d.links.wins n id ∧ d.sess n = 3 then
    let (k, d) := d.free
    let d := (d.modLink n fun x => { x with nmk := Config.freeNat k }).say n 17 [id, Config.freeNat k]
    if joined then ((d.setBit Reg.VLK_STATUS_MATCHED n true).set (Reg.VLK_LINK_LSTATE n) 3).goto n 4 0 1 else d
  else d

/-- CM_VALIDATE.REQ on the winner: the pilot toggles counted on its line are answered (R340). -/
def slacValidateReq (n id toggles : Nat) (d : Dev) : Dev :=
  if d.links.wins n id then d.say n 18 [id, toggles] else d

/-! ### 10BASE-T1S (R342, R343) -/

/-- The first valid frame brings the link up and the outlet to SETUP; the device holds the link down while a retry is pending
(R314). -/
def t1sLinkUp (n : Nat) (d : Dev) : Dev :=
  if d.get (Reg.OUT_CFG_TYPE n) = 2 ∧ d.get (Reg.VLK_LINK_LSTATE n) ≠ 0 ∧ d.get (Reg.OUT_RETRY_PENDING n) = 0 then
    let d := ((d.tbRun 5).setBit Reg.VLK_STATUS_T1SUP n true).set (Reg.VLK_LINK_LSTATE n) 5
    if d.sess n = 3 then d.goto n 4 0 1 else d
  else d

/-- No valid frame for LINKTMO, or jabber: down; in a live state that ends the session as a vehicle-link error. -/
def t1sLinkDown (n : Nat) (jabber : Bool) (d : Dev) : Dev :=
  if d.get (Reg.OUT_CFG_TYPE n) = 2 ∧ d.get (Reg.VLK_LINK_LSTATE n) = 5 then
    let d := (d.setBit Reg.VLK_STATUS_T1SUP n false).set (Reg.VLK_LINK_LSTATE n) 4
    let d := if jabber then d.addSat (Reg.VLK_T1SSTAT_JABBER n) 1 else d
    let d := if jabber ∨ d.live n then d.raiseVlk 102 n else d
    if d.live n then d.linkFails n else d
  else d

/-! ### Relays (R353 to R356) -/

/-- The start of outlet n's relay buffer in the host window (R353). -/
def relayBase (n : Nat) : Nat := 0x18000 + 0x2800 * n

/-- The physical bank behind the host window. -/
def Dev.hostWin (d : Dev) : Nat := d.get Reg.MEM_HOSTWIN_BANK

/-- What the vehicle gets for a relay's result, and what a STATUS relay authorises (R355, R356). -/
def Dev.relayResult (d : Dev) (n kind code : Nat) : Dev :=
  if kind = 3 then
    if d.sess n ≠ 5 then d
    else if code = 0 ∨ (code ≠ 3 ∧ d.get Reg.VLK_TLSCFG_UNKNOWN = 1) then d.goto n 6 0 1
    else d.goto n 14 4 1
  else
    let bytes := if code = 0 then d.sramBytes d.hostWin (relayBase n + 0x800) (d.get (Reg.VLK_RELAY_RSPLEN n)) else []
    (d.say n 20 (kind :: code :: bytes.map BitVec.toNat)).checkpoint n

/-- Posts a relay whose request is in its buffer; while the pigeonhole is taken it waits (R354). -/
def Dev.relayPost (d : Dev) (n : Nat) : Dev :=
  let h := d.get Reg.VLK_RELAYCFG_PGH
  if d.get (Reg.PGH_STAT_STATE h) ≠ 0 then d.modLink n fun x => { x with waits := true }
  else
    let agent := 3 + d.get (Reg.OUT_SESS_STEWARD n) % 8
    let msg := [BitVec.ofNat 8 n, BitVec.ofNat 8 (d.get (Reg.VLK_RELAY_KIND n))] ++ leBytes 2 (d.get (Reg.OUT_SESSNUM_NUM n))
    (pghPost agent h 4 msg 0 0 d).modLink n fun x => { x with waits := false }

/-- Begins a relay: the request goes to the buffer (at most 2 KiB) and the pigeonhole; without relays enabled the backend
does not answer. -/
def Dev.relayStart (d : Dev) (n kind : Nat) (req : List Byte) : Dev :=
  if d.get Reg.VLK_RELAYCFG_EN = 0 then d.relayResult n kind 2
  else
    let req := req.take 2048
    let d := d.putSram d.hostWin (relayBase n) req
    let d := ((d.set (Reg.VLK_RELAY_KIND n) kind).set (Reg.VLK_RELAY_STATE n) 1).set (Reg.VLK_RELAY_REQLEN n) req.length
    (d.modLink n fun x => { x with req := req }).relayPost n

/-- The next relay that waits for the pigeonhole. -/
def Dev.relayNext (d : Dev) : Dev :=
  match (List.range 16).find? fun n => (d.link n).waits with
  | some n => d.relayPost n
  | none => d

/-- The host's acknowledgement of the relay pigeonhole: stale, of another session or with too long a response it counts as
code 2 (R355); the steward sends DONE. -/
def relayAnswer (d : Dev) : Dev :=
  let h := d.get Reg.VLK_RELAYCFG_PGH
  let snd := d.get (Reg.PGH_STAT_SNDAGENT h)
  if d.get (Reg.PGH_STAT_STATE h) ≠ 3 ∨ snd < 3 ∨ 10 < snd then d
  else
    let w := d.get (Reg.PGH_DATA_DATA h 0)
    let n := w % 16
    let kind := w / 256 % 256
    let d' := (pghDone snd h d)
    if d.get (Reg.VLK_RELAY_STATE n) ≠ 1 then d'.relayNext
    else
      let bad := decide (w / 65536 % 65536 ≠ d.get (Reg.OUT_SESSNUM_NUM n) % 65536) ||
        decide (d.get (Reg.PGH_STAT_STALE h) = 1) || decide (8192 < d.get (Reg.VLK_RELAY_RSPLEN n))
      let d' := d'.set (Reg.VLK_RELAY_STATE n) 2
      let d' := if bad then d'.raiseVlk 100 n else d'
      (d'.relayResult n kind (if bad then 2 else d.get (Reg.PGH_ACKCODE_CODE h))).relayNext

/-- No acknowledgement by MARGIN before the vehicle's timeout: code 2 and EV100 (R355). -/
def relayTimeout (n : Nat) (d : Dev) : Dev :=
  if d.get (Reg.VLK_RELAY_STATE n) ≠ 1 then d
  else
    let d := (d.set (Reg.VLK_RELAY_STATE n) 3).raiseVlk 100 n
    (d.modLink n fun x => { x with waits := false }).relayResult n (d.get (Reg.VLK_RELAY_KIND n)) 2

/-- Roots of a kind: 0 V2G, 1 mobility operators (R282, R351). -/
def Dev.rootsOf (d : Dev) (kind : Nat) : List (List Byte) := (d.roots.filter fun r => r.2.1 = kind).map (·.2.2)

/-- Every certificate of a chain is within its validity period, which is not checked while the time is unknown (R352). -/
def Dev.inDate (d : Dev) (chain : List Byte) : Bool :=
  !d.timeKnown || (decide (Config.chainStart chain ≤ d.rtc) && decide (d.rtc < Config.chainEnd chain))

/-- The protocol of a session, or the one its TLS version tells before service selection (R344, R348). -/
def Dev.protoNow (d : Dev) (n : Nat) : Nat :=
  if d.get (Reg.OUT_SESS_PROTO n) ≠ 0 then d.get (Reg.OUT_SESS_PROTO n)
  else if d.get (Reg.VLK_LINK_TLSVER n) = 2 then 3 else if d.get (Reg.VLK_LINK_TLSVER n) = 1 then 2 else 0

/-- Plug & Charge, under the ISO 15118 protocols: the contract chain verifies under a mobility-operator root and is in date, and no
revocation is reported (R282, R344, R352, R356). While the time is unknown the device offers none (R352). -/
def contractAuthorisation (n : Nat) (chain : List Byte) (d : Dev) : Dev :=
  if d.sess n = 5 ∧ d.get (Reg.OUT_CFG_PNC n) = 1 ∧ 2 ≤ d.get (Reg.OUT_SESS_PROTO n) ∧ d.timeKnown ∧ d.inDate chain ∧
      Config.chainVerifies chain (d.rootsOf 1) then
    if d.get Reg.VLK_TLSCFG_REVCHK = 1 then d.relayStart n 3 chain else d.goto n 6 0 1
  else d

/-! ### Session messages (R344 to R348) -/

def Dev.idSlot (d : Dev) (i : Nat) : IdSlot := tget {} d.box.ids i

/-- Fabric time in ns of a time in seconds since 1970, by the present clocks. -/
def Dev.fabricOf (d : Dev) (sec : Nat) : Nat := d.time + 1000000000 * (sec - d.rtc)

/-- The response to a message from parameter discovery to the pause carries the values of R303. -/
def Dev.respond (d : Dev) (n : Nat) : Dev := if 6 ≤ d.sess n ∧ d.sess n ≤ 10 then d.advertise n else d

/-- The one schedule that ISO 15118 offers in parameter discovery: its power in kW, lasting 86,400 s (R345). -/
def Dev.offerSchedule (d : Dev) (n : Nat) : Dev :=
  if d.sess n = 6 ∧ 2 ≤ d.get (Reg.OUT_SESS_PROTO n) then d.say n 23 [d.get (Reg.INK_OUTLIM_KW n), 86400] else d

/-- A TLS handshake on an outlet (R348): the version of a protocol that the outlet offers or its session has, that version's suite and
curve, and an identity installed in the slot that VLK_OUTCFG names. -/
def Dev.handshakeOk (d : Dev) (n : Nat) (h : Handshake) : Bool :=
  let p := d.get (Reg.OUT_SESS_PROTO n)
  let slot := d.get (if h.v13 then Reg.VLK_OUTCFG_ID20 n else Reg.VLK_OUTCFG_ID2 n)
  let protos := if h.v13 then [3, 4, 5] else [2]
  h.ok && (protos.any fun q => d.offered n q && (decide (p = 0) || decide (p = q))) && (d.idSlot slot).chain.isSome &&
  if h.v13 then decide (h.suite = .aes256GcmSha384) && decide (h.curve = .secp521r1)
  else decide (h.suite = .iso2) && decide (h.curve = .p256)

/-- A certificate installation is relayed under both ISO 15118 protocols, an update under ISO 15118-2 only (R344). -/
def Dev.relays (d : Dev) (n : Nat) (update : Bool) : Bool :=
  decide (d.protoNow n = 2) || (decide (3 ≤ d.protoNow n) && !update)

/-- A session protocol message from the vehicle, with its source address (R347). -/
def v2gMessage (n : Nat) (src : Nat) (m : V2g) (d : Dev) : Dev :=
  if !d.inSession n then d
  else
    let known := d.evccid n
    if known ≠ 0 ∧ known ≠ src then d
    else
      let d := if known = 0 ∧ d.sess n = 4 then d.set64 (Reg.VLK_EVID_LO_ID n) (Reg.VLK_EVID_HI_ID n) src else d
      match m with
      | .tls h =>
        let ok := d.handshakeOk n h
        let slot := d.get (if h.v13 then Reg.VLK_OUTCFG_ID20 n else Reg.VLK_OUTCFG_ID2 n)
        let d := (d.set (Reg.VLK_TLS_SLOT n) slot).set (Reg.VLK_TLS_ALERT n) (if ok then 0 else h.alert.toNat)
        if ok then d.set (Reg.VLK_LINK_TLSVER n) (if h.v13 then 2 else 1)
        else ((d.set (Reg.VLK_LINK_TLSVER n) 0).raiseVlk 99 n).linkFails n
      | .profile es =>
        (d.modOut n fun o => { o with schedule := es.map fun e => { at_ := e.2, amount := e.1 : Trigger } }).respond n
      | .departure dynamic sec wh =>
        let d := (d.set (Reg.VLK_DEPART_VALUE n) sec.toNat).set (Reg.VLK_ENERGY_VALUE n) wh.toNat
        let t : Trigger := { at_ := d.fabricOf sec.toNat, amount := 3600 * wh.toNat, base := d.netCount n }
        let d := d.modOut n fun o => { o with depart := if sec.toNat = 0 ∨ wh.toNat = 0 then none else some t }
        let d := d.respond n
        if dynamic then d else d.offerSchedule n
      | .weldingDetection => if d.sess n = 12 then d.say n 24 [ofSigned 32 (d.out n).senseV] else d
      | .certificate upd req => if d.relays n upd then d.relayStart n (if upd then 2 else 1) req else d.say n 21 [if upd then 2 else 1]
      | .unsupported svc => d.say n 21 [svc]
      | .other => d.respond n

/-! ### Identities (R349 to R352) -/

/-- A host command that the mode refuses: code 3 in SYS_REFUSE (R564). -/
def Dev.refuseMode (d : Dev) (f : Fld) : Dev :=
  (d.set Reg.SYS_REFUSE_CODE 3).set Reg.SYS_REFUSE_ADDR (f.key / 32)

def Dev.setIdSlot (d : Dev) (i : Nat) (x : IdSlot) : Dev := { d with box := { d.box with ids := tput {} d.box.ids i x } }

/-- Identity commands act in Commission and Idle only (VLK_IDCMD.OP). -/
def Dev.idMode (d : Dev) : Bool := d.mode = .commission || d.mode = .idle

/-- GENERATE: a new key pair in the slot, without a chain. A Decommissioned device holds no keys (R103). -/
def vlkIdcmdGenerate (i curve : Nat) (d : Dev) : Dev :=
  if !d.idMode then d.refuseMode Reg.VLK_IDCMD_OP
  else if d.lifecycle = 3 then (d.set Reg.SYS_REFUSE_CODE 10).set Reg.SYS_REFUSE_ADDR (Reg.VLK_IDCMD_OP.key / 32)
  else
    let (k, d) := d.free
    let d := d.setIdSlot i { key := some (Config.newSecret k), curve := curve, chain := none }
    ((d.set (Reg.VLK_IDSTAT_STATE i) 1).set (Reg.VLK_IDSTAT_CURVE i) curve).set (Reg.VLK_IDSTAT_DAYS i) 0

/-- Whole days until a chain's leaf expires; 0 when it has. -/
def Dev.chainDays (d : Dev) (chain : List Byte) : Nat := (Config.chainExpiry chain - d.rtc) / 86400

/-- The leaf of a chain has expired (R352). -/
def Dev.leafGone (d : Dev) (chain : List Byte) : Bool := d.timeKnown && decide (Config.chainExpiry chain ≤ d.rtc)

/-- What VLK_IDSTAT shows of a slot: nothing, a key, or an installed chain that is in date or has expired (R349, R350, R352). -/
def Dev.showId (d : Dev) (i : Nat) : Dev :=
  let x := d.idSlot i
  let d := d.set (Reg.VLK_IDSTAT_CURVE i) x.curve
  match x.chain with
  | none => (d.set (Reg.VLK_IDSTAT_STATE i) (flag x.key.isSome)).set (Reg.VLK_IDSTAT_DAYS i) 0
  | some c =>
    let gone := d.leafGone c || (d.timeKnown && decide (Config.chainEnd c ≤ d.rtc))
    (d.set (Reg.VLK_IDSTAT_STATE i) (if gone then 5 else 2)).setSat (Reg.VLK_IDSTAT_DAYS i) (if gone then 0 else d.chainDays c)

/-- VLK_ROOTSTAT: the root entries of the image whose certificate is valid at the present time; none while the time is unknown
(R351, R352). -/
def Dev.showRoots (d : Dev) : Dev :=
  d.set Reg.VLK_ROOTSTAT_VALID <| (List.range 16).foldl (fun v r =>
    if d.timeKnown ∧ (d.roots.any fun e => decide (e.1 = r) && Config.chainVerifies e.2.2 [e.2.2] && d.inDate e.2.2) then v + 2 ^ r
    else v) 0

/-- The identities and roots as Boot shows them (R349, R351). -/
def Dev.showIds (d : Dev) : Dev := (forAll 4 d Dev.showId).showRoots

/-- INSTALL: the chain of LEN bytes in the host window, or the refusal in STATE; a chain whose leaf alone has expired is held as expired
(R350, R352). -/
def vlkIdcmdInstall (i len : Nat) (d : Dev) : Dev :=
  if !d.idMode then d.refuseMode Reg.VLK_IDCMD_OP
  else if len = 0 ∨ 8192 < len then (d.set Reg.SYS_REFUSE_CODE 5).set Reg.SYS_REFUSE_ADDR (Reg.VLK_IDCMD_LEN.key / 32)
  else
    let chain := d.sramBytes d.hostWin 0 len
    let x := d.idSlot i
    let fits := match x.key with
      | some k => Config.chainNamesKey chain (Config.publicKey k)
      | none => false
    if !fits then d.set (Reg.VLK_IDSTAT_STATE i) 3
    else if !Config.chainVerifies chain (d.roots.map (·.2.2)) ∨ (!d.inDate chain ∧ !d.leafGone chain) then d.set (Reg.VLK_IDSTAT_STATE i) 4
    else (d.setIdSlot i { x with chain := some chain }).showId i

/-- ERASE empties a slot. -/
def Dev.eraseId (d : Dev) (i : Nat) : Dev :=
  (((d.setIdSlot i {}).set (Reg.VLK_IDSTAT_STATE i) 0).set (Reg.VLK_IDSTAT_CURVE i) 0).set (Reg.VLK_IDSTAT_DAYS i) 0

def vlkIdcmdErase (i : Nat) (d : Dev) : Dev := if !d.idMode then d.refuseMode Reg.VLK_IDCMD_OP else d.eraseId i

/-- An installed leaf expires within 30 days. -/
def Dev.nearExpiry (d : Dev) : Bool :=
  (List.range 4).any fun i => match (d.idSlot i).chain with
    | some c => decide (d.chainDays c < 30)
    | none => false

/-- EV101 with the time bit of every outlet's EVCAUSE that uses an identity (R357). -/
def Dev.expiryEvent (d : Dev) : Dev :=
  (forAll 16 d fun d n =>
    let ty := d.get (Reg.OUT_CFG_TYPE n)
    if ty = 1 ∨ ty = 2 then d.setBit (Reg.VLK_LINK_EVCAUSE n) 5 true else d).raise 101 0

/-- The daily check of identities and roots against the real-time clock; an unknown time raises EV101 (R351, R352). The
event is raised at most once a day for expiry (R588). -/
def identityExpiryCheck (d : Dev) : Dev :=
  if !d.timeKnown then d.showRoots.expiryEvent
  else
    let d := forAll 4 d fun d i => if (d.idSlot i).chain.isSome then d.showId i else d
    let d := d.showRoots
    let today := d.rtc / 86400
    if d.nearExpiry ∧ d.links.lastDay ≠ some today then (d.modLinks fun l => { l with lastDay := some today }).expiryEvent else d

end Sys2Proof.Machine
end

