-- ==== Sys2Proof/Machine/Thermal.lean ====
section
/-! DEFINITION. Cable cooling and the die: PT1000 and flow inputs, the cable model, ceilings, outlet and string thermal
latches, run-on, the rate regime and the compensations (R358 to R387, R658, R659). Mode changes by the die stand in Modes. -/

namespace Sys2Proof.Machine

def Dev.modTherm (d : Dev) (f : ThermCtx → ThermCtx) : Dev := { d with therm := f d.therm }
def Dev.setCable (d : Dev) (n : Nat) (x : CableCtx) : Dev := d.modTherm fun t => { t with cables := tput {} t.cables n x }

/-! ### Inputs (R358 to R362, R658) -/

def Dev.rtd (d : Dev) (n k : Nat) : Int := d.getI (Reg.CAB_RTD_TEMP n k)
def Dev.rtdBad (d : Dev) (n k : Nat) : Bool := d.bit (Reg.CAB_STAT_SENSFLT n) k

/-- The highest of an outlet's unfaulted readings. -/
def Dev.hottest (d : Dev) (n : Nat) : Option Int :=
  match ((List.range 4).filter fun k => !d.rtdBad n k).map fun k => d.rtd n k with
  | [] => none
  | t :: ts => some (ts.foldl max t)

/-- 0.01 °C as 1/65,536 K, floored (R659). -/
def q16 (t : Int) : Int := t * 65536 / 100

/-- Starts an outlet's model at the highest unfaulted reading (R365). -/
def Dev.startModel (d : Dev) (n : Nat) : Dev :=
  match d.hottest n with
  | none => d
  | some t => d.setCable n { d.cable n with tc := q16 t, tk := q16 t, hot := q16 t, started := true }

/-- Every 1 ms: 64 readings in 0.01 °C, outlet by outlet (R358); a model that could not start starts (R365). -/
def rtdConversion (readings : List (BitVec 16)) (d : Dev) : Dev :=
  let d := (readings.zip (List.range 64)).foldl (fun d p => d.set (Reg.CAB_RTD_TEMP (p.2 / 4) (p.2 % 4)) p.1.toNat) d
  let d := if d.duplex ∧ d.drives then d.emit (.twin 1 [33, d.period, d.therm.frac]) else d
  if d.mode = .boot ∨ d.mode = .selftest then d
  else forAll 16 d fun d n => if d.get (Reg.OUT_CFG_TYPE n) ≠ 0 ∧ !(d.cable n).started then d.startModel n else d

/-- An input's fault sets after 10 ms outside −50 °C to +200 °C and clears after 1 s inside (R361). -/
def rtdFault (n k : Nat) (faulted : Bool) (d : Dev) : Dev :=
  let out := decide (d.rtd n k < -5000 ∨ 20000 < d.rtd n k)
  if d.rtdBad n k = faulted ∨ out ≠ faulted then d
  else (d.setBit (Reg.CAB_STAT_SENSFLT n) k faulted).raise 68 n

/-- An outlet has a flow input when its TYPE is not 0 and its cable is cooled (R360). -/
def Dev.hasFlow (d : Dev) (n : Nat) : Bool :=
  decide (d.get (Reg.OUT_CFG_TYPE n) ≠ 0) && decide (d.get (Reg.CAB_TGEOM_COOLED (d.cabType n)) = 1)

/-- Every 250 ms: edges of the last 250 ms on the sixteen GPIO lines; the flow is that of the last 1 s (R359). -/
def flowUpdate (edges : List Nat) (d : Dev) : Dev :=
  let d := forAll 16 d fun d g =>
    d.modTherm fun t => { t with edges := tput [] t.edges g ((edges.getD g 0 :: tget [] t.edges g).take 4) }
  forAll 16 d fun d n =>
    let k := d.get (Reg.CAB_FLOWCFG_KFACT n)
    if d.hasFlow n ∧ k ≠ 0 then
      let e := (tget [] d.therm.edges (d.get (Reg.CAB_FLOWCFG_GPIO n))).foldl (· + ·) 0
      d.setSat (Reg.CAB_STAT_FLOW n) (quot (e * 6000 : Nat) k).toNat
    else d

/-- A flow fault sets after 2 s of its three conditions, and clears after 2 s at or above FMIN (R361). -/
def flowFault (n : Nat) (faulted : Bool) (d : Dev) : Dev :=
  let low := decide (d.get (Reg.CAB_STAT_FLOW n) < 100 * d.get (Reg.CAB_FLOWCFG_FMIN n))
  let driven := decide (1000 * d.get (Reg.CAB_FLOWCFG_MINDUTY n) ≤ d.thermalDuty (80 + n))
  let now := d.get (Reg.CAB_STAT_FLOWFLT n) = 1
  if !d.hasFlow n ∨ now = faulted then d
  else if (faulted ∧ low ∧ driven ∧ d.cooling n) ∨ (!faulted ∧ !low) then
    (d.set (Reg.CAB_STAT_FLOWFLT n) (flag faulted)).raise 68 n
  else d

/-! ### The cable model (R364, R659) -/

/-- The supply reading or its stand-in, in 0.01 °C; none when both coolant inputs are faulted (R362). -/
def Dev.supply (d : Dev) (n : Nat) : Option Int :=
  if !d.rtdBad n 0 then some (d.rtd n 0) else if !d.rtdBad n 1 then some (d.rtd n 1) else none

/-- Flow in L/s × 2³², truncated (R364, R659); 0 under a flow fault (R362). -/
def Dev.flowQ (d : Dev) (n : Nat) : Int :=
  if d.get (Reg.CAB_STAT_FLOWFLT n) = 1 then 0 else ((d.get (Reg.CAB_STAT_FLOW n) : Int) * 2 ^ 32).tdiv 6000

/-- g in 0.1 W/K × 2³². -/
def Dev.cabG (d : Dev) (n : Nat) : Int :=
  let t := d.cabType n
  if d.get (Reg.CAB_TGEOM_COOLED t) = 1 then 20 * d.flowQ n * d.get (Reg.CAB_TCOOL_CVOL t)
  else (d.get (Reg.CAB_TCOOL_G0 t) : Int) * 2 ^ 32

/-- Rck in K/W × 2³², truncated. -/
def Dev.cabRck (d : Dev) (n : Nat) : Int :=
  let t := d.cabType n
  ((d.get (Reg.CAB_TRCK_RCK t) : Int) * 2 ^ 32).tdiv (1000 * d.get (Reg.CAB_TGEOM_LEN t))

/-- The mean of the squares of the last eight current samples, in A² × 2³², truncated. -/
def Dev.cabI2 (d : Dev) (n : Nat) : Int :=
  ((tget [] d.tally.curs n).foldl (fun a y => a + y * y) 0).tdiv 8000000

/-- hot = tk + KHS × (tc − tk), floored. -/
def Dev.cabHot (d : Dev) (n : Nat) (tc tk : Int) : Int := tk + d.get (Reg.CAB_TGEOM_KHS (d.cabType n)) * (tc - tk) / 256

/-- One millisecond of an outlet's model (R364 with the arithmetic of R659). -/
def Dev.cableStep (d : Dev) (n : Nat) : Dev :=
  let x := d.cable n
  match d.supply n with
  | none => d
  | some ts =>
    let t := d.cabType n
    let len : Int := d.get (Reg.CAB_TGEOM_LEN t)
    let i2 := d.cabI2 n
    -- q = i2 × r over 10¹⁵ × 2⁴⁸; h in W × 2³²
    let h := ((x.tc - x.tk) * 2 ^ 48).tdiv (d.cabRck n)
    let qh := i2 * d.cabR n x.tc - h * (10 ^ 15 * 2 ^ 16)
    -- tc step in K × 2³²: (q − h) × 0.001 / Cc with Cc = CC × LEN / 100
    let dtc := (qh * 2 ^ 32).tdiv (10 ^ 16 * 2 ^ 48 * (d.get (Reg.CAB_TCAP_CC t) * len))
    -- (h − g × (tk − ts)) over 10 × 2³² × 6,553,600
    let hg := h * (10 * 6553600) - d.cabG n * (x.tk * 100 - ts * 65536)
    let dtk := (hg * 2 ^ 32).tdiv (10 * (10 * 2 ^ 32 * 6553600) * (d.get (Reg.CAB_TCAP_CK t) * len))
    let tc := (x.tc * 65536 + dtc) / 65536
    let tk := (x.tk * 65536 + dtk) / 65536
    d.setCable n { x with tc := tc, tk := tk, hot := d.cabHot n tc tk }

/-- The report of the model in 0.01 °C. -/
def Dev.reportCable (d : Dev) (n : Nat) : Dev :=
  (d.setI (Reg.CAB_TEMP_HOTSPOT n) (quot (100 * (d.cable n).hot) 65536)).setI (Reg.CAB_TEMP_COOLANT n)
    (quot (100 * (d.cable n).tk) 65536)

/-- Every 1 ms, in ascending outlet number (R364). -/
def cableModelUpdate (d : Dev) : Dev :=
  forAll 16 d fun d n =>
    if d.get (Reg.OUT_CFG_TYPE n) ≠ 0 ∧ (d.cable n).started then (d.cableStep n).reportCable n else d

/-! ### The ceiling (R367 to R370) -/

/-- 3 × 3 matrices as rows, entries with 192 fractional bits. -/
def matMul (a b : List (List Int)) : List (List Int) :=
  a.map fun r => (List.range 3).map fun j =>
    ((r.zip b).map fun p => p.1 * p.2.getD j 0).foldl (· + ·) 0 / 2 ^ 192

def matAdd (a b : List (List Int)) : List (List Int) := (a.zip b).map fun p => (p.1.zip p.2).map fun q => q.1 + q.2

def matOne : List (List Int) := [[2 ^ 192, 0, 0], [0, 2 ^ 192, 0], [0, 0, 2 ^ 192]]

/-- 1 + m + m²/2 + … to sixteen terms, by Horner. -/
def matTaylor (m : List (List Int)) : Nat → Nat → List (List Int)
  | 0, _ => matOne
  | k + 1, j => matAdd matOne ((matMul m (matTaylor m k (j + 1))).map fun r => r.map fun v => v.tdiv (j + 1))

/-- Squares a matrix a number of times. -/
def matSquare : Nat → List (List Int) → List (List Int)
  | 0, m => m
  | k + 1, m => matSquare k (matMul m m)

/-- The exact 0.5 s transition of the linear model: state (tc − ts, tk − ts) and constant heating of 1 W, computed far
beyond the 32 fractional bits that its terms are cut to (R367, R659). Its entries are rates per second. -/
def Dev.transition (d : Dev) (n : Nat) : List (List Int) :=
  let t := d.cabType n
  let len : Int := d.get (Reg.CAB_TGEOM_LEN t)
  let cc : Int := d.get (Reg.CAB_TCAP_CC t) * len
  let ck : Int := d.get (Reg.CAB_TCAP_CK t) * len
  let rck := d.cabRck n
  -- 1 / (Cc × Rck), Cc = cc / 100, scaled by 2¹⁹² and by 0.5 / 2²⁴
  let sc : Int := 2 ^ 167
  let a := (100 * 2 ^ 32 * sc).tdiv (cc * rck)
  let b := (100 * 2 ^ 32 * sc).tdiv (ck * rck)
  let g := (d.cabG n * 10 * sc).tdiv (2 ^ 32 * ck)
  let w := (100 * sc).tdiv cc
  let m := matSquare 24 (matTaylor [[-a, a, w], [b, -b - g, 0], [0, 0, 0]] 16 0)
  m.map fun r => r.map fun v => v.tdiv (2 ^ 160)

/-- One 0.5 s step of a vector (K × 2³²) with heating of `w` W, each term truncated. -/
def transStep (m : List (List Int)) (w : Int) (v : Int × Int) : Int × Int :=
  let e := fun i j => (m.getD i []).getD j 0
  ((e 0 0 * v.1).tdiv (2 ^ 32) + (e 0 1 * v.2).tdiv (2 ^ 32) + w * e 0 2,
   (e 1 0 * v.1).tdiv (2 ^ 32) + (e 1 1 * v.2).tdiv (2 ^ 32) + w * e 1 2)

/-- The largest integer whose square does not exceed a number below 2^(2 × bits). -/
def isqrt (bits v : Nat) : Nat := bisect (fun r => decide (r * r ≤ v)) bits 0

/-- The least (TLIM − a_k) / (b_k × r_L) over the horizon, in A² × 2³²; none when some a_k reaches TLIM. TLIM and ts in
K × 2³²; r_L in Ω × 10¹⁵ × 2¹⁶; KHS in 1/256. -/
def horizon (m : List (List Int)) (khs tlim ts rl : Int) : Nat → Int × Int → Int × Int → Option Int → Option (Option Int)
  | 0, _, _, best => some best
  | k + 1, free, forced, best =>
    let free := transStep m 0 free
    let forced := transStep m 1 forced
    let a := ts + free.2 + (khs * (free.1 - free.2)).tdiv 256
    let b := forced.2 + (khs * (forced.1 - forced.2)).tdiv 256
    if tlim ≤ a then none
    else
      let best := if b * rl ≤ 0 then best
        else
          let x := ((tlim - a) * (10 ^ 15 * 2 ^ 16) * 2 ^ 32).tdiv (b * rl)
          some (match best with | none => x | some y => min x y)
      horizon m khs tlim ts rl k free forced best

/-- The cable ceiling in A × 2³² (R367); none stands for no limit. -/
def Dev.cableCeiling (d : Dev) (n : Nat) : Option Int :=
  let x := d.cable n
  let tlim : Int := d.get (Reg.CAB_OCFG_TLIM n)
  match d.supply n with
  | none => some 0
  | some ts =>
    if !x.started ∨ tlim * 65536 ≤ x.hot then some 0
    else
      let tsq := (ts * 2 ^ 32).tdiv 100
      let free := (x.tc * 65536 - tsq, x.tk * 65536 - tsq)
      match horizon (d.transition n) (d.get (Reg.CAB_TGEOM_KHS (d.cabType n))) (tlim * 2 ^ 32) tsq
          (d.cabR n (tlim * 65536)) 120 free (0, 0) none with
      | none => some 0
      | some none => none
      | some (some v) => some (isqrt 64 (v.toNat * 2 ^ 32))

/-- The higher of the contact readings that are not faulted, in 0.01 °C (R368, R658). -/
def Dev.contact (d : Dev) (n : Nat) : Option Int :=
  match d.rtdBad n 2, d.rtdBad n 3 with
  | false, false => some (max (d.rtd n 2) (d.rtd n 3))
  | false, true => some (d.rtd n 2)
  | true, false => some (d.rtd n 3)
  | true, true => none

/-- The contact ceiling in 0.1 A (R368), floored as R369 floors it: IMAX itself up to CLIM − BAND; 0 with both contacts faulted
(R362). -/
def Dev.contactCeiling (d : Dev) (n : Nat) : Nat :=
  let imax := d.get (Reg.OUT_RATING_IMAX n)
  let clim : Int := 100 * d.get (Reg.CAB_OCFG_CLIM n)
  let band : Int := 100 * d.get (Reg.CAB_OCFG2_BAND n)
  match d.contact n with
  | none => 0
  | some c =>
    if c ≤ clim - band then imax
    else if clim ≤ c then 0
    else imax * isqrt 64 ((((clim - c) * 2 ^ 32).tdiv band).toNat * 2 ^ 32) / 2 ^ 32

/-- An amount in A × 2³² floored to 0.1 A. -/
def tenths (v : Int) : Nat := (v * 10 / 2 ^ 32).toNat

/-- An outlet's thermal ceiling in 0.1 A with its source (R362, R369, R371). -/
def Dev.ceiling (d : Dev) (n : Nat) : Nat × Nat :=
  let imax := d.get (Reg.OUT_RATING_IMAX n)
  let blindCoolant := d.rtdBad n 0 && d.rtdBad n 1
  let blindContact := d.rtdBad n 2 && d.rtdBad n 3
  if d.get (Reg.CAB_STAT_LATCH n) = 1 then (0, 3)
  else if blindCoolant ∨ blindContact ∨ !(d.cable n).started then (0, 4)
  else
    let cable := match d.cableCeiling n with
      | none => imax
      | some v => tenths v
    let contact := d.contactCeiling n
    let halved := d.rtdBad n 2 || d.rtdBad n 3
    let plain := min cable (min contact imax)
    let v := min (if halved then cable / 2 else cable) (min contact imax)
    (v, if v < plain then 4 else if imax ≤ v then 0 else if cable ≤ contact then 1 else 2)

/-- Sets an outlet's ceiling; EV069 when that of a live outlet falls to 0 (R369, R370, R394). -/
def Dev.setCeiling (d : Dev) (n v src : Nat) : Dev :=
  let fell := decide (v = 0 ∧ d.get (Reg.CAB_CEIL_CEIL n) ≠ 0) && d.live n
  let d := ((d.setSat (Reg.CAB_CEIL_CEIL n) v).set (Reg.CAB_CEIL_SRC n) src).setBit Reg.CAB_STATUS_LIMITING n
    (decide (v < d.get (Reg.OUT_RATING_IMAX n)))
  if fell then d.raise 69 n else d

/-- Every 100 ms (R367). -/
def ceilingCompute (d : Dev) : Dev :=
  forAll 16 d fun d n =>
    if d.get (Reg.OUT_CFG_TYPE n) = 0 then d
    else
      let (v, src) := d.ceiling n
      d.setCeiling n v src

/-! ### Latches and run-on (R371 to R379) -/

/-- The outlet's retry counter is frozen while a thermal latch covers the outlet (R318). -/
def Dev.latchOutlet (d : Dev) (n : Nat) : Dev :=
  if d.get (Reg.CAB_STAT_LATCH n) = 1 then d
  else
    let d := ((d.set (Reg.CAB_STAT_LATCH n) 1).setBit Reg.CAB_STATUS_LATCH n true).set (Reg.OUT_RETRY_FROZEN n) 1
    (d.setCeiling n 0 3).raise 67 n

/-- The device thermal latch covers every outlet and every string: their retry counters freeze, and go on with its release
but where a latch of their own stands (R318, R374). -/
def Dev.freezeAll (d : Dev) : Dev :=
  forAll 64 (forAll 16 d fun d n => d.set (Reg.OUT_RETRY_FROZEN n) 1) fun d s => d.set (Reg.OUT_STRCNT_FROZEN s) 1

/-- The device thermal latch stands: a shutdown record is not released (R374). -/
def Dev.deviceLatch (d : Dev) : Bool := decide (d.get Reg.THM_SHUT1_VALID = 1) && decide (d.get Reg.THM_SHUT1_RELEASED = 0)

def Dev.unfreezeAll (d : Dev) : Dev :=
  forAll 64 (forAll 16 d fun d n => d.set (Reg.OUT_RETRY_FROZEN n) (d.get (Reg.CAB_STAT_LATCH n))) fun d s =>
    d.set (Reg.OUT_STRCNT_FROZEN s) (flag (d.strFrozen s))

/-- 100 ms above a limit by TRIPM (R371, R658). -/
def outletThermalLatch (n : Nat) (d : Dev) : Dev :=
  let m := d.get (Reg.CAB_OCFG2_TRIPM n)
  let hot := (d.cable n).started && decide (((d.get (Reg.CAB_OCFG_TLIM n) + m : Nat) : Int) * 65536 < (d.cable n).hot)
  let touch : Bool := match d.contact n with
    | some c => decide (100 * ((d.get (Reg.CAB_OCFG_CLIM n) + m : Nat) : Int) < c)
    | none => false
  if hot ∨ touch then d.latchOutlet n else d

/-- SF6 acts on the outlet (SAF_OSTAT.ACT). -/
def Dev.sf6Acts (d : Dev) (n : Nat) : Bool := d.bit (Reg.SAF_OSTAT_ACT n) 5

/-- 10 s of cool, valid conditions release the latch (R372, R658). -/
def outletLatchRelease (n : Nat) (d : Dev) : Dev :=
  let h : Int := d.get (Reg.CAB_OCFG2_HYST n)
  let cool := decide ((d.cable n).hot < ((d.get (Reg.CAB_OCFG_TLIM n) : Int) - h) * 65536)
  let touch : Bool := match d.contact n with
    | some c => decide (c < 100 * ((d.get (Reg.CAB_OCFG_CLIM n) : Int) - h))
    | none => false
  if d.get (Reg.CAB_STAT_LATCH n) = 1 ∧ cool ∧ touch ∧ !d.rtdBad n 0 ∧ !d.rtdBad n 1 ∧ !d.sf6Acts n then
    let d := ((d.set (Reg.CAB_STAT_LATCH n) 0).setBit Reg.CAB_STATUS_LATCH n false).set (Reg.OUT_RETRY_FROZEN n) (flag d.deviceLatch)
    d.raise 67 n
  else d

/-- Three frames at or above TRIP or with OT, on an active or shed string, which leaves its arc at the next control-period boundary
(R143, R373). -/
def stringThermalLatch (s : Nat) (d : Dev) : Dev :=
  let st := d.inkState s
  if 3 ≤ (d.str s).hotRun ∧ 1 ≤ st ∧ st ≤ 3 then
    let arc := d.courseArc (s / 4)
    let d := d.setBit2 Reg.THM_STRLATCH_LO_LATCH Reg.THM_STRLATCH_HI_LATCH s true
    let d := (d.set (Reg.OUT_STRCNT_FROZEN s) 1).modStr s fun x => { x with thermHold := false }
    ((d.countHealthy).markArc arc).raise 70 s
  else d

/-- 60 s below REL without OT: HOLD frames follow until the cell is STOPPED, then readmission (R373). -/
def stringLatchRelease (s : Nat) (d : Dev) : Dev :=
  let f := (d.str s).up
  if d.strFrozen s ∧ toSigned 12 f.temp < 10 * (d.get Reg.THM_STRLIM_REL : Int) ∧ !f.overTemp ∧
      d.get (Reg.STR_STRSTAT_FAULT s) = 0 then
    let d := (d.setBit2 Reg.THM_STRLATCH_LO_LATCH Reg.THM_STRLATCH_HI_LATCH s false).set (Reg.OUT_STRCNT_FROZEN s) (flag d.deviceLatch)
    (d.modStr s fun x => { x with thermHold := true }).raise 70 s
  else d

/-- Run-on ends below RUNON, after 10 minutes, or when the outlet is live again (R378). -/
def runonEnd (n : Nat) (byTime : Bool) (d : Dev) : Dev :=
  if d.get (Reg.CAB_STAT_RUNON n) = 0 then d
  else if byTime then (d.set (Reg.CAB_STAT_RUNON n) 0).raise 71 n
  else if d.live n ∨ (d.cable n).hot < (d.get (Reg.CAB_OCFG2_RUNON n) : Int) * 65536 then d.set (Reg.CAB_STAT_RUNON n) 0
  else d

/-- The end of Selftest: every model starts, and run-on for every outlet that is warm or unknown (R365, R379). -/
def Dev.startCables (d : Dev) : Dev :=
  forAll 16 d fun d n =>
    if d.get (Reg.OUT_CFG_TYPE n) = 0 then d
    else
      let d := (d.setCable n {}).startModel n
      let x := d.cable n
      if !x.started then (d.setCeiling n 0 4).startRunon n
      else
        let d := d.reportCable n
        if (d.get (Reg.CAB_OCFG2_RUNON n) : Int) * 65536 ≤ x.hot then d.startRunon n else d

/-- Coolant and heater set-points at a control-period boundary (R376, R377). -/
def Dev.thermalSps (d : Dev) : Dev :=
  forAll 16 d fun d n =>
    let sp := d.getI (if d.cooling n then Reg.CAB_COOLSP_SPLIVE n else Reg.CAB_COOLSP_SPIDLE n)
    (d.runSet (Reg.TUN_SP_SP (80 + n)) (ofSigned 32 sp)).runSet (Reg.TUN_SP_SP (96 + n))
      (ofSigned 32 (d.getI (Reg.CAB_HEATCFG_SP n)))

/-! ### The die (R381 to R387) -/

/-- The die regime of each mode (R63): 0 rate of rise, 1 absolute levels, 2 trip only, 3 none. -/
def Mode.regime : Mode → Nat
  | .boot | .selftest | .commission | .recovery => 1
  | .standby | .idle | .serve | .island | .safeHold => 0
  | .thermal => 2
  | .lastGasp | .off => 3

/-- Sets the throttle fraction (1/10,240,000); EV065 when it falls below 1 or returns to 1. -/
def Dev.setFrac (d : Dev) (v : Nat) : Dev :=
  let was := d.get Reg.THM_STATUS_FRAC
  let d := (d.modTherm fun t => { t with frac := v }).set Reg.THM_STATUS_FRAC (quot v 10000).toNat
  let now := d.get Reg.THM_STATUS_FRAC
  if (was = 1024) ≠ (now = 1024) then d.raise 65 0 else d

/-- A change of regime resets the fraction and the rate history (R387); under a diode fault the fraction stays held at 0.5 (R382). -/
def Dev.regimeStart (d : Dev) : Dev :=
  let d := d.modTherm fun t => { t with sum := 0, n := 0, blocks := [] }
  ((d.set Reg.THM_STATUS_WARN 0).set Reg.THM_STATUS_THROT 0).setFrac (if d.get Reg.THM_STATUS_DIODEFLT = 1 then 5120000 else 10240000)

/-- The regime of a new mode. -/
def Dev.setRegime (d : Dev) (m : Mode) : Dev :=
  if d.get Reg.THM_STATUS_REGIME = m.regime then d else (d.set Reg.THM_STATUS_REGIME m.regime).regimeStart

/-- 1 s of good conversions clears the diode fault (R382). -/
def diodeFaultClear (d : Dev) : Dev :=
  if d.get Reg.THM_STATUS_DIODEFLT = 1 ∧ 1000 ≤ d.therm.goodRun then
    let d := d.set Reg.THM_STATUS_DIODEFLT 0
    let d := match d.therm.lastConv with
      | some t => d.setI Reg.THM_DIODE_TEMP t
      | none => d
    d.regimeStart
  else d

/-- The mean of the last 1 s less that of the second before, in 0.01 K/s; none before 2 s of history (R383, R387). -/
def Dev.dieRate (d : Dev) : Option Int :=
  let b := d.therm.blocks
  let add := fun (l : List (Int × Nat)) => l.foldl (fun a p => (a.1 + p.1, a.2 + p.2)) ((0, 0) : Int × Nat)
  let (s1, n1) := add (b.take 10)
  let (s0, n0) := add ((b.drop 10).take 10)
  if b.length < 20 ∨ n1 = 0 ∨ n0 = 0 then none
  else some (quot (100 * (s1 * n0 - s0 * n1)) (16 * n0 * n1))

/-- The throttle target at a rate in 0.01 K/s, in 1/10,240,000 (R384). -/
def Dev.throttleTarget (d : Dev) (rate : Int) : Int :=
  let excess := rate - 10 * d.get Reg.THM_RATECFG_THRRATE
  if excess ≤ 0 then 10240000 else max 0 (10240000 - 1024 * d.get Reg.THM_RATECFG_KR * excess)

/-- Every 100 ms of the rate regime (R383, R384). -/
def rateUpdate (d : Dev) : Dev :=
  if d.get Reg.THM_STATUS_REGIME ≠ 0 ∨ d.get Reg.THM_STATUS_DIODEFLT = 1 then d
  else
    let d := d.modTherm fun t => { t with sum := 0, n := 0, blocks := ((t.sum, t.n) :: t.blocks).take 20 }
    match d.dieRate with
    | none => d
    | some r =>
      let d := d.setI Reg.THM_DIODE_RATE r
      let d := if r < 10 * d.get Reg.THM_RATECFG_WARNRATE then d.set Reg.THM_STATUS_WARN 0 else d
      let target := (d.throttleTarget r).toNat
      d.setFrac (if target ≤ d.therm.frac then target else min target (d.therm.frac + 51200))

/-- A rate at or above WARNRATE throughout WARNTIME (R383). -/
def dieWarning (d : Dev) : Dev :=
  if d.get Reg.THM_STATUS_REGIME = 0 ∧ d.get Reg.THM_STATUS_WARN = 0 ∧
      10 * (d.get Reg.THM_RATECFG_WARNRATE : Int) ≤ d.getI Reg.THM_DIODE_RATE then
    (d.set Reg.THM_STATUS_WARN 1).raise 64 0
  else d

/-- The warning and throttle levels against a reading in 1/16 K (R385). -/
def Dev.levelFlags (d : Dev) (t : Int) : Dev :=
  let lvl := fun f => 16 * (d.get f : Int)
  let hy := lvl Reg.THM_ABSCFG_HYST
  let d := if lvl Reg.THM_ABSCFG_WARN ≤ t then
      if d.get Reg.THM_STATUS_WARN = 1 then d else (d.set Reg.THM_STATUS_WARN 1).raise 64 0
    else if t < lvl Reg.THM_ABSCFG_WARN - hy then d.set Reg.THM_STATUS_WARN 0 else d
  if lvl Reg.THM_ABSCFG_THROT ≤ t then d.set Reg.THM_STATUS_THROT 1
  else if t < lvl Reg.THM_ABSCFG_THROT - hy then d.set Reg.THM_STATUS_THROT 0 else d

/-- The absolute levels, with the throttle fraction that THROT sets (R385), without the shutdown. -/
def Dev.absoluteLevels (d : Dev) (t : Int) : Dev :=
  let lvl := fun f => 16 * (d.get f : Int)
  let d := d.levelFlags t
  if d.get Reg.THM_STATUS_THROT = 1 then
    let span := lvl Reg.THM_ABSCFG_SHUT - lvl Reg.THM_ABSCFG_THROT
    let f := if span ≤ 0 then 0 else quot ((lvl Reg.THM_ABSCFG_SHUT - t) * 10240000) span.toNat
    d.setFrac (max 0 (min 10240000 f)).toNat
  else d.setFrac 10240000

/-- Once per second: K2 × (T − TURN)² in 0.01 ppm; held under a diode fault (R381, R382). -/
def rtcCompensation (d : Dev) : Dev :=
  if d.get Reg.THM_STATUS_DIODEFLT = 1 then d
  else
    -- T − TURN in K/80
    let x := 5 * d.getI Reg.THM_DIODE_TEMP - 8 * d.getI Reg.THM_RTCCOMP_TURN
    d.setI Reg.TB_COMP_RTC_PPM (quot (d.getI Reg.THM_RTCCOMP_K2 * (x * x)) 640000)

end Sys2Proof.Machine
end

