-- ==== Sys2Proof/Machine/Island.lean ====
section
/-! DEFINITION. The safety island's functions: demands and latches, the release sequence, inputs, outputs, safe
connections and diagnostics (R432 to R463). Entering and leaving Safe hold stands in Modes. -/

namespace Sys2Proof.Machine

/-! ### Safe states (R443 to R447) -/

/-- The magnitude of the metering current input's last sample of an outlet, in whole mA: samples carry 16 fractional bits (R399, R445). -/
def Dev.currentMa (d : Dev) (n : Nat) : Nat := ((tget [] d.tally.curs n).headD 0).natAbs / 65536

/-- The release sequence of R445 begins on an outlet whose outputs are on; with less than 5 A at the trigger, so also with none, it
is over at once. -/
def Dev.release (d : Dev) (n ma : Nat) : Dev :=
  if !d.soutOn n then d
  else if ma < 5000 then d.outputsOff n
  else d.modSafOut n fun x => { x with releasing := some (x.releasing.getD ma) }

/-- The current is at or below 10 % of its magnitude at the trigger, or below 5 A, or 1.0 ms has passed since the BLOCK
demand (R445). `ma`: the current magnitude in mA. -/
def safeOutputRelease (n ma : Nat) (elapsed : Bool) (d : Dev) : Dev :=
  match (d.safOut n).releasing with
  | none => d
  | some t => if elapsed ∨ 10 * ma ≤ t ∨ ma < 5000 then d.outputsOff n else d

/-- The session of an outlet on which a safety function or Safe hold acts (R278, R313, R320). -/
def Dev.stopSafe (d : Dev) (n cause rank : Nat) : Dev :=
  let st := d.sess n
  if 8 ≤ st ∧ st ≤ 11 then d.goto n 12 cause rank
  else if st = 7 then d.goto n (if (d.out n).commanded then 12 else 14) cause rank
  else d

/-- The outlet safe state (R443): BLOCK on the arc, then the release; the session goes to weld detection. `ma`: the current
at the trigger. -/
def Dev.safeState (d : Dev) (n ma : Nat) : Dev :=
  (((d.setBit Reg.SAF_STATUS_OUTSAFE n true).blockArc n).release n ma).stopSafe n 10 6

/-- SF4 Walls the outlet's own course and locks the outlet out (R443). -/
def Dev.sf4Extra (d : Dev) (n : Nat) : Dev :=
  let d := (courseStrings n).foldl Dev.blockString d
  let d := (d.modSafOut n fun x => { x with walled := true }).set (Reg.INK_COURSE_STATE n) 4
  let st := d.sess n
  if (1 ≤ st ∧ st ≤ 7) ∨ st = 13 ∨ st = 14 then d.goto n 15 10 6 else d

/-- Reports a lodger's demand to the keyholder (R456). -/
def Dev.reportDemand (d : Dev) (body : List Nat) : Dev := if d.duplex ∧ !d.drives then d.emit (.twin 20 body) else d

/-- SF(k + 1) acts on an outlet: its latch, EV081 when it is new, the outlet safe state, and its extra action. -/
def Dev.actAt (d : Dev) (n k ma : Nat) : Dev :=
  let was := d.bit (Reg.SAF_OSTAT_LATCH n) k
  let d := (d.setBit (Reg.SAF_OSTAT_LATCH n) k true).setBit (Reg.SAF_OSTAT_ACT n) k true
  let d := d.safeState n ma
  let d := if was then d else (d.raise 81 n).reportDemand [1, n, k]
  let d := if k = 3 then d.sf4Extra n else d
  if k = 5 then d.latchOutlet n else d

/-- The same with the current the island reads. -/
def Dev.act (d : Dev) (n k : Nat) : Dev := d.actAt n k (d.currentMa n)

/-- A device-wide demand: BLOCK on every arc, release of every output, end of every session (R58, R443). -/
def Dev.demandAll (d : Dev) : Dev :=
  let d := d.blockAll
  let d := d.set Reg.SAF_STATUS_OUTSAFE 0xFFFF
  forAll 16 d fun d n =>
    let d := d.release n (d.currentMa n)
    if 3 ≤ d.sess n ∧ d.sess n ≤ 6 then d.goto n 14 11 5 else d.stopSafe n 11 5

/-- A device-wide cause by its DEVCAUSE bit; EV080 for SF1, EV085 for the period check (R469). -/
def Dev.demand (d : Dev) (bit : Nat) : Dev :=
  let was := d.bit Reg.SAF_STATUS_DEVCAUSE bit
  let d := (d.setBit Reg.SAF_STATUS_DEVCAUSE bit true).modSaf fun x => { x with trig := withBit x.trig bit true }
  let d := d.demandAll
  if was then d
  else
    let d := if bit < 2 then d.raise 80 0 else if bit = 5 then d.raise 85 0 else d
    d.reportDemand [0, bit]

/-- A device-wide demand whose condition stands or has ended, for the causes of bits 2 to 5 (R88). -/
def Dev.condition (d : Dev) (bit : Nat) (stands : Bool) : Dev :=
  let d := d.modSaf fun x => { x with active := withBit x.active bit stands }
  if stands then d.demand bit else d

/-! ### Safe inputs (R433 to R437) -/

/-- The input whose configuration an input takes: the even one of its pair. -/
def Dev.sinHome (d : Dev) (i : Nat) : Nat :=
  if i % 2 = 1 ∧ d.get (Reg.SAF_SINCFG_PAIR (i - 1)) = 1 then i - 1 else i

def Dev.sinRole (d : Dev) (i : Nat) : Nat := d.get (Reg.SAF_SINCFG_ROLE (d.sinHome i))
def Dev.sinMask (d : Dev) (i : Nat) : Nat := d.get (Reg.SAF_SINCFG_OUTMASK (d.sinHome i))

/-- A fault of an input has been absent for 1 s (R437). -/
def Dev.sinFaultGone (d : Dev) (i : Nat) : Bool :=
  !d.saf.testBad.testBit i && !d.saf.discBad.testBit i &&
  (!d.bit Reg.SAF_SINSTAT_FAULT i || decide (tget 0 d.saf.goodAt i + 1000000000 ≤ d.now))

/-- An input is in demand, or is treated so for a fault (R437, R453). -/
def Dev.sinDemands (d : Dev) (i : Nat) : Bool :=
  d.saf.demand.testBit i || !d.sinFaultGone i || d.saf.compIn.testBit i

/-- An input acts in its role (R433). -/
def Dev.sinAct (d : Dev) (i : Nat) : Dev :=
  match d.sinRole i with
  | 1 => d.demand 0
  | 2 => forAll 16 d fun d n => if (d.sinMask i).testBit n then d.act n 5 else d
  | _ => d

/-- A safe input has been open for the filter F, or reads closed again. -/
def safeInputDemand (i : Nat) (isOpen : Bool) (d : Dev) : Dev :=
  let d := (d.setBit Reg.SAF_SINSTAT_STATE i (!isOpen)).modSaf fun x => { x with demand := withBit x.demand i isOpen }
  if isOpen then d.sinAct i else d

/-- Sets or ends a fault of an input; EV082 when its fault bit rises. -/
def Dev.sinFault (d : Dev) (i : Nat) (disc bad : Bool) : Dev :=
  let was := if disc then d.saf.discBad.testBit i else d.saf.testBad.testBit i
  let d := d.modSaf fun x => if disc then { x with discBad := withBit x.discBad i bad } else { x with testBad := withBit x.testBad i bad }
  if bad then
    let d := if d.bit Reg.SAF_SINSTAT_FAULT i then d else (d.setBit Reg.SAF_SINSTAT_FAULT i true).raise 82 0
    d.sinAct i
  else if was then d.modSaf fun x => { x with goodAt := tput 0 x.goodAt i d.now } else d

/-- Paired inputs 2k and 2k + 1 have differed for longer than DISC, or agree again (R434). -/
def pairDiscrepancy (k : Nat) (differ : Bool) (d : Dev) : Dev :=
  if d.get (Reg.SAF_SINCFG_PAIR (2 * k)) ≠ 1 then d
  else (d.sinFault (2 * k) true differ).sinFault (2 * k + 1) true differ

/-- A pulse of test-pulse output `k`: `bad` are the inputs that failed a check of R435. Only the keyholder drives the
outputs (R454), and each island judges its own inputs. -/
def testPulse (k bad : Nat) (d : Dev) : Dev :=
  forAll 16 d fun d i =>
    if d.get (Reg.SAF_SINCFG_TP i) = k + 1 ∧ d.sinRole i ≠ 0 then d.sinFault i false (bad.testBit i) else d

/-! ### Safe outputs and contactors (R438 to R440) -/

/-- A diagnostic fault of safe output `j`: release of both outputs of its outlet, the latch, EV083 (R439). -/
def Dev.soutFault (d : Dev) (j : Nat) : Dev :=
  let n := j / 2
  let was := d.bit Reg.SAF_SOUTFLT_BITS j
  let d := (d.setBit Reg.SAF_SOUTFLT_BITS j true).set (Reg.SAF_OSTAT_DIAG n) 1
  let d := d.safeState n (d.currentMa n)
  if was then d else d.raise 83 n

/-- The OFF test of an output that is on; skipped while it is being released or a function acts on its outlet (R438, R439),
and run by the keyholder alone (R455). -/
def outputOffTest (j : Nat) (fell : Bool) (d : Dev) : Dev :=
  let n := j / 2
  if !d.bit Reg.SAF_SOUTSTAT_BITS j ∨ !d.drives ∨ (d.safOut n).releasing.isSome ∨ d.get (Reg.SAF_OSTAT_ACT n) ≠ 0 ∨ fell then d
  else d.soutFault j

/-- The read-back of an output disagrees with its state for 1 ms, or agrees again (R439). -/
def outputDiagnosticFault (j : Nat) (readsOn : Bool) (d : Dev) : Dev :=
  let on := (d.out (j / 2)).contReq
  if readsOn = on then d.setBit Reg.SAF_SOUTSTAT_BITS j readsOn
  else (d.soutFault j).setBit Reg.SAF_SOUTSTAT_BITS j readsOn

/-- An enable line that stops toggling for 50 µs switches its output off (R17). -/
def enableLineTimeout (j : Nat) (d : Dev) : Dev := d.setBit Reg.SAF_SOUTSTAT_BITS j false

/-- The edge counts of the enable lines, read back every 1 ms: a failure releases the outputs concerned (R453). -/
def enableLineCheck (j : Nat) (ok : Bool) (d : Dev) : Dev :=
  if ok then d else ((d.blockArc (j / 2)).release (j / 2) (d.currentMa (j / 2))).raise 85 (j / 2)

/-- Feedback does not read closed within 50 ms of the switch-on: release, NOCLOSE, a transient fault (R293, R440). -/
def contactorCloseTimeout (n : Nat) (d : Dev) : Dev :=
  let o := d.out n
  if d.sess n = 8 ∧ o.contReq ∧ !o.closed then
    let d := d.endSession n 17 2 true
    (d.set (Reg.SAF_OSTAT_NOCLOSE n) 1).outputsOff n
  else d

/-- A feedback input reads open for 5 ms while its output has been confirmed on (R440). -/
def contactorDiscrepancy (j : Nat) (d : Dev) : Dev :=
  if d.wireOn j ∧ (d.out (j / 2)).closed then
    (d.setBit Reg.SAF_FBSTAT_BITS j false).act (j / 2) 3
  else d

/-- A feedback input reads closed 100 ms after its output was released, or for 100 ms while it is off (R310, R440). -/
def contactorWeld (j : Nat) (d : Dev) : Dev :=
  let n := j / 2
  if d.wireOn j then d
  else
    let d := (d.setBit Reg.SAF_FBSTAT_BITS j true).act n 3
    let d := d.raiseOut n Reg.OUT_EVCAUSE_WELD
    if d.sess n = 12 then (d.set (Reg.OUT_WELD_RESULT n) 3).weldDone n 15 0 4 else d

/-- A module's own driver sources more than 10 mA for 1 ms while commanded off (R455). -/
def stuckOnFault (j : Nat) (d : Dev) : Dev :=
  if (d.out (j / 2)).contReq ∧ d.drives then d
  else (d.soutFault j).modSaf fun x => { x with stuckOn := withBit x.stuckOn j true }

/-! ### The functions of an outlet (R443) -/

/-- The insulation resistance in kΩ that a cycle measures (R287): the averages of the two halves differ by what 2 × 50 V drive through
the network of R640, two coupling resistors of 2 MΩ side by side and the measuring resistor of 20 kΩ, and the insulation (log 121). No
difference reads as the register's limit. -/
def IsoReading.kohm (r : IsoReading) : Nat :=
  let np := r.pos.length
  let nn := r.neg.length
  let diff : Int := r.pos.foldl (· + ·) (0 : Int) * (nn : Int) - r.neg.foldl (· + ·) (0 : Int) * (np : Int)
  if np = 0 ∨ nn = 0 then 0
  else if diff ≤ 0 then 16777215
  else (quot (2000000000 * (np * nn : Nat)) diff.toNat).toNat - 1020

/-- The end of a 250 ms cycle (R287 to R290). The first two cycles of CABLECHECK, before the bus has settled, are measured and not judged
(R290); a fault that two cycles declare is a demand of SF2 (R289). -/
def insulationCycle (n : Nat) (m : IsoReading) (d : Dev) : Dev :=
  let st := d.sess n
  if !sessServing st ∨ (st = 7 ∧ !(d.out n).lockOk) then d
  else
    let kohm := m.kohm
    let r := 10000 * kohm
    let d := (d.setSat (Reg.OUT_ISO_KOHM n) kohm).startInjection n
    let o := d.out n
    if st = 7 ∧ o.isoCycles < 2 then
      (d.modOut n fun o => { o with isoCycles := o.isoCycles + 1 }).set (Reg.OUT_ISO_STATUS n) 1
    else
    let o := { o with
      isoCycles := o.isoCycles + 1,
      isoFault := if r < d.isoFaultAt n then o.isoFault + 1 else 0,
      isoWarn := if r < d.isoWarnAt n then o.isoWarn + 1 else 0,
      isoClear := if 11 * d.isoWarnAt n < 10 * r then o.isoClear + 1 else 0 }
    let d := d.setOut n o
    let d :=
      if 2 ≤ o.isoWarn ∧ d.get (Reg.OUT_SESS_ISOWARN n) = 0 then
        (d.set (Reg.OUT_SESS_ISOWARN n) 1).raiseOut n Reg.OUT_EVCAUSE_ISOWARN
      else if 4 ≤ o.isoClear then d.set (Reg.OUT_SESS_ISOWARN n) 0 else d
    let fault := decide (2 ≤ o.isoFault)
    let d := d.set (Reg.OUT_ISO_STATUS n)
      (if fault then 3 else if d.get (Reg.OUT_SESS_ISOWARN n) = 1 then 2 else 1)
    if st = 7 ∧ o.isoCycles ≤ 6 then
      if r < d.isoFaultAt n then
        (((d.set (Reg.OUT_ISO_STATUS n) 3).outputsOff n).goto n 15 7 1).raiseOut n Reg.OUT_EVCAUSE_ISOFAULT
      else if o.isoCycles = 6 then d.modOut n fun o => { o with isoPassed := true } else d
    else if o.isoFault = 2 then (d.raiseOut n Reg.OUT_EVCAUSE_ISOFAULT).act n 1
    else d

/-- SF2: the monitor's demand, or no cycle result for 1.0 s while live. -/
def sf2 (n : Nat) (missing : Bool) (d : Dev) : Dev :=
  if (missing ∧ d.live n) ∨ (!missing ∧ d.get (Reg.OUT_ISO_STATUS n) = 3) then d.act n 1 else d

/-- SF3: unlocked feedback for 20 ms while the voltage reads 60 V or more, on a live outlet with a lock. -/
def sf3 (n : Nat) (d : Dev) : Dev :=
  let d := d.showLock n
  if d.live n ∧ d.lockHeld n then d.act n 2 else d

/-- SF5: the outlet voltage in 0.1 V above VLIM × (1 + OVM). -/
def sf5 (n v : Nat) (d : Dev) : Dev :=
  if d.get (Reg.SAF_OLIM_VLIM n) * (1000 + d.get (Reg.SAF_OCFG_OVM n)) < 1000 * v then d.act n 4 else d

/-- SF6: input 1 (coolant return), 2 or 3 (contacts) of an outlet at `temp` in 0.01 °C, or its excitation lost (R654). -/
def sf6 (n k : Nat) (temp : Int) (lost : Bool) (d : Dev) : Dev :=
  let level : Int := 100 * (if k = 1 then d.get (Reg.SAF_OTEMP_TCOOL n) else d.get (Reg.SAF_OTEMP_TCONT n))
  if 1 ≤ k ∧ (lost ∨ level ≤ temp) then
    (d.modSaf fun x => { x with hot := withBit x.hot n true }).act n 5
  else d

/-- SF7: while live, the pilot's positive level in mV above 10.5 V or below 1.5 V on a CCS outlet; CE disconnected or at
fault on a megawatt-class one. OUT_SESS.CONN reads what is read: not connected above 10.5 V, else an error (R279). -/
def sf7 (n level : Nat) (ceFault : Bool) (d : Dev) : Dev :=
  let bad : Bool := match d.get (Reg.OUT_CFG_TYPE n) with
    | 1 => decide (10500 < level ∨ level < 1500)
    | 2 => ceFault
    | _ => false
  let d := if bad then d.set (Reg.OUT_SESS_CONN n) (if d.get (Reg.OUT_CFG_TYPE n) = 1 ∧ 10500 < level then 0 else 3) else d
  if d.live n ∧ bad then d.act n 6 else d

/-- SF8: the outlet current magnitude in 0.1 A above ILIM × (1 + OCM), or above 3,300 A (R441, R443). -/
def sf8 (n cur : Nat) (d : Dev) : Dev :=
  if d.islandLimit n * (100 + d.get (Reg.SAF_OCFG_OCM n)) < 100 * cur ∨ 33000 < cur then d.actAt n 7 (100 * cur) else d

/-- 50 ms of the not-connected state (R279, R280, R315). -/
def disconnectionDetected (n : Nat) (d : Dev) : Dev :=
  let ty := d.get (Reg.OUT_CFG_TYPE n)
  if ty ≠ 1 ∧ ty ≠ 2 then d
  else
    let d := ((d.set (Reg.OUT_SESS_CONN n) 0).set (Reg.OUT_RETRY_PENDING n) 0).modOut n fun o => { o with conn := some false }
    let st := d.sess n
    if d.live n then d.act n 6
    else if (2 ≤ st ∧ st ≤ 6) ∨ st = 14 ∨ st = 15 then
      d.goto n 1 (if 2 ≤ st ∧ st ≤ 6 then 12 else 0) 3
    else if st = 7 then d.endSession n 12 3
    else d

/-- The precharge request with its target V_t in 0.1 V (R278, R285, R293); one that comes too early is answered as not
ready, and its target is kept (R149). -/
def prechargeRequest (n vt : Nat) (d : Dev) : Dev :=
  if d.sess n = 7 then
    let d := d.modOut n fun o => { o with vt := vt }
    if (d.out n).ccDone then d.goto n 8 0 1 else d.say n 3 [0]
  else d

/-- A cross-check mismatch holds the outlet's safe state (R39, R442). -/
def Dev.crossMismatch (d : Dev) (n : Nat) : Dev :=
  let was := d.get (Reg.SAF_OSTAT_XCHK n) = 1
  let d := (d.addSat Reg.SAF_XCHECK_COUNT 1).set Reg.SAF_XCHECK_LASTPER d.period
  let d := (d.set (Reg.SAF_OSTAT_XCHK n) 1).safeState n (d.currentMa n)
  if was then d else d.raise 85 n

/-- The cross-check of an outlet: its current command in 0.01 A against the island's limit, and its safety-function state. -/
def Dev.crossCheck (d : Dev) (mismatch : Nat) : Dev :=
  forAll 16 d fun d n =>
    if mismatch.testBit n ∨ (d.live n ∧ 10 * d.islandLimit n < (d.getI (Reg.TUN_OUT_VALUE n)).natAbs) then d.crossMismatch n else d

/-- The island reads a latched cause as inactive while the outlet is not live: SF5, SF6, SF8 (k = 4, 5, 7), or the
cross-check (k = 0), (R442, R443). -/
def safetyCauseInactive (n k : Nat) (d : Dev) : Dev :=
  if d.live n then d
  else match k with
  | 0 => if d.get (Reg.SAF_OSTAT_XCHK n) = 0 then d else (d.set (Reg.SAF_OSTAT_XCHK n) 0).leaveSafe n
  | 5 =>
    let held := (List.range 16).any fun i => decide (d.sinRole i = 2) && (d.sinMask i).testBit n && d.sinDemands i
    if held ∨ d.saf.compOut.testBit (8 * n + 5) then d
    else
      let d := d.modSaf fun x => { x with hot := withBit x.hot n false }
      let d := forAll 16 d fun d i =>
        if d.sinRole i = 2 ∧ (d.sinMask i).testBit n then d.setBit Reg.SAF_SINSTAT_FAULT i false else d
      d.clearLatch n 0x20
  | 4 => if d.saf.compOut.testBit (8 * n + 4) then d else d.clearLatch n 0x10
  | 7 => if d.saf.compOut.testBit (8 * n + 7) then d else d.clearLatch n 0x80
  | _ => d

/-! ### Clearing (R448, R449) -/

/-- A write of SAF_OUTCLR (R449). -/
def safOutclr (code mask : Nat) (d : Dev) : Dev :=
  if code ≠ 0xC35A then d
  else forAll 16 d fun d n =>
    if !mask.testBit n ∨ d.live n then d
    else
      let d := if d.get (Reg.SAF_OSTAT_DIAG n) = 1 ∧ !d.soutOn n then
          let d := (d.setBit Reg.SAF_SOUTFLT_BITS (2 * n) false).setBit Reg.SAF_SOUTFLT_BITS (2 * n + 1) false
          let d := d.modSaf fun x => { x with stuckOn := withBit (withBit x.stuckOn (2 * n) false) (2 * n + 1) false }
          (d.set (Reg.SAF_OSTAT_DIAG n) 0).leaveSafe n
        else d
      if d.fbClosed n then d else d.clearLatch n 0x08

/-- A write of SAF_ACK.CODE (R69, R448): accepted in Safe hold; refused with code 3 outside it; RESULT 3 for another
code. -/
def safAck (code : Nat) (d : Dev) : Dev :=
  if d.mode = .lastGasp then d
  else if d.mode ≠ .safeHold then ((d.set Reg.SAF_ACK_RESULT 3).refuseMode Reg.SAF_ACK_CODE).raise 86 0
  else if code ≠ 0xC35A then (d.set Reg.SAF_ACK_RESULT 3).raise 86 0
  else (d.modSaf fun x => { x with ack := true }).raise 86 0

/-! ### Safe connections (R458 to R462) -/

/-- The fields of a safe frame (R458). -/
structure SafeFrame where
  conn : Nat
  seq : Nat
  wd : Nat
  len : Nat
  flags : Nat
  payload : List Byte

/-- Reads a 48-byte frame; whether its CRC checks stands apart. -/
def safeFields (b : List Byte) : SafeFrame :=
  let f := fun o n => ofLe ((b.drop o).take n)
  { conn := f 0 4, seq := f 4 2, wd := f 6 2, len := f 8 1, flags := f 9 1, payload := (b.drop 12).take 32 }

def safeCrcOk (b : List Byte) : Bool := b.length = 48 && decide (crc32Safe (b.take 44) = ofLe (b.drop 44))

/-- The 48 bytes of a frame (R458). -/
def safeEncode (conn seq wd flags : Nat) (payload : List Byte) : List Byte :=
  let body := leBytes 4 conn ++ leBytes 2 seq ++ leBytes 2 wd ++ leBytes 1 payload.length ++ leBytes 1 flags ++
    leBytes 2 0 ++ payload ++ List.replicate (32 - payload.length) 0#8
  body ++ leBytes 4 (crc32Safe body)

/-- A frame of a receive connection is accepted (R460, R461). -/
def Dev.safeAccept (d : Dev) (k seq : Nat) (payload : List Byte) : Dev :=
  let stop := !(payload.headD 0#8).getLsbD 0
  let d := d.modSafConn k fun x => { x with started := true, lastSeq := seq, copy := none, stop := stop }
  let d := d.set (Reg.SAF_CONNSTAT_STATE k) 2
  if stop then d.demand 1 else d

/-- A frame whose fields have passed: its window, and in dual-network mode its twin (R460). -/
def Dev.safeSequence (d : Dev) (k carrier : Nat) (f : SafeFrame) : Dev :=
  let x := d.safConn k
  let ahead := (f.seq + 65536 - x.lastSeq) % 65536
  if x.started ∧ (ahead = 0 ∨ 8 < ahead) then (d.addSat (Reg.SAF_CONNSTAT_SEQERR k) 1).raise 84 0
  else if d.get (Reg.SAF_CONNCFG_MODE k) = 1 then d.safeAccept k f.seq f.payload
  else
    let hold := fun (d : Dev) => d.modSafConn k fun x => { x with copy := some (carrier, f.seq, f.payload, d.now) }
    let refuse := fun (d : Dev) => (d.addSat (Reg.SAF_CONNSTAT_DUALERR k) 1).raise 84 0
    match x.copy with
    | none => hold d
    | some (c, q, p, t) =>
      if q ≠ f.seq then hold (refuse d)
      else if c = carrier then d
      else if p = f.payload ∧ d.now ≤ t + 1000000 * d.get (Reg.SAF_CONNTIM_SKEW k) then d.safeAccept k f.seq f.payload
      else (refuse d).modSafConn k fun x => { x with copy := none }

/-- A safe frame on a carrier: 0 and 1 Ethernet, 2 to 5 CAN, 6 fabric. -/
def safeFrameReceived (carrier : Nat) (bytes : List Byte) (d : Dev) : Dev :=
  let f := safeFields bytes
  forAll 16 d fun d k =>
    let mode := d.get (Reg.SAF_CONNCFG_MODE k)
    if (mode = 1 ∨ mode = 2) ∧ d.get (Reg.SAF_CONNCFG_DIR k) = 0 ∧ d.get (Reg.SAF_CONNSTAT_STATE k) ≠ 0 ∧
        d.get (Reg.SAF_CONNID_ID k) = f.conn ∧
        (d.get (Reg.SAF_CONNCFG_CARA k) = carrier ∨ (mode = 2 ∧ d.get (Reg.SAF_CONNCFG_CARB k) = carrier)) then
      if safeCrcOk bytes ∧ f.wd = d.get (Reg.SAF_CONNTIM_WD k) ∧ f.len ≤ 32 then d.safeSequence k carrier f
      else (d.addSat (Reg.SAF_CONNSTAT_FMTERR k) 1).raise 84 0
    else d

/-- WD has passed without an accepted frame (R461). -/
def safeConnectionWatchdog (k : Nat) (d : Dev) : Dev :=
  if d.get (Reg.SAF_CONNCFG_DIR k) = 0 ∧ d.get (Reg.SAF_CONNSTAT_STATE k) = 2 then
    ((d.set (Reg.SAF_CONNSTAT_STATE k) 3).raise 84 0).demand 1
  else d

/-- A connection has waited 10 s for its first frame (R461). -/
def safeConnectionWait (k : Nat) (d : Dev) : Dev :=
  if d.get (Reg.SAF_CONNCFG_DIR k) = 0 ∧ d.get (Reg.SAF_CONNSTAT_STATE k) = 1 then d.raise 84 0 else d

/-- The payload of a send connection (R462). -/
def Dev.safePayload (d : Dev) : List Byte :=
  let calm := !((List.range 16).any fun i => decide (d.sinRole i = 1) && d.sinDemands i)
  leBytes 1 (flag calm + 2 * flag (decide (d.mode ≠ .safeHold))) ++ leBytes 1 0 ++
  leBytes 2 (outletBits fun n => !d.bit Reg.SAF_STATUS_OUTSAFE n) ++ leBytes 2 (d.get Reg.SAF_SINSTAT_STATE) ++
  leBytes 2 (d.get Reg.FAB_CFG_STATION)

/-- A safe frame leaves on carrier A (0) or B (1) of its connection: a CAN port takes it among the device's own frames (R616), with
the identifier of its SAFECONN entry; the newest of an identifier takes the place of one that still waits. -/
def Dev.sendSafe (d : Dev) (k b : Nat) (bytes : List Byte) : Dev :=
  let car := d.get (if b = 0 then Reg.SAF_CONNCFG_CARA k else Reg.SAF_CONNCFG_CARB k)
  if 2 ≤ car ∧ car ≤ 5 then
    match d.tab.conns.find? fun c => c.conn = k ∧ c.carrier = b with
    | none => d
    | some c =>
      let f : CanFrame := { id := c.addr % 2 ^ 29, ide := c.addr.testBit 30, fdf := true, dlc := 14, data := bytes }
      d.modCan (car - 2) fun p => { p with own := (p.own.filter fun x => x.id ≠ f.id ∨ x.ide ≠ f.ide) ++ [f] }
  else d.emit (.safeFrame k bytes)

/-- A send connection sends, never more often than once per millisecond (R462); its first SEQ is free. -/
def safeFrameSend (k : Nat) (d : Dev) : Dev :=
  let x := d.safConn k
  let mode := d.get (Reg.SAF_CONNCFG_MODE k)
  let late : Bool := match x.sentAt with | some t => decide (t + 1000000 ≤ d.now) | none => true
  if (mode = 1 ∨ mode = 2) ∧ d.get (Reg.SAF_CONNCFG_DIR k) = 1 ∧ late then
    let (q, d) := if x.started then ((x.sentSeq + 1) % 65536, d) else
      let (c, d) := d.free
      (Config.freeNat c % 65536, d)
    let p := d.safePayload
    let d := d.modSafConn k fun x => { x with started := true, sentSeq := q, sent := p, sentAt := some d.now }
    let frame := safeEncode (d.get (Reg.SAF_CONNID_ID k)) q (d.get (Reg.SAF_CONNTIM_WD k))
    let d := d.sendSafe k 0 (frame 0 p)
    if mode = 2 then d.sendSafe k 1 (frame 1 p) else d
  else d

/-- The states of the connections after Boot or a commit that changes them (R460, R461). -/
def Dev.startConn (d : Dev) (k : Nat) : Dev :=
  let mode := d.get (Reg.SAF_CONNCFG_MODE k)
  let st := if mode = 0 then 0 else if d.get (Reg.SAF_CONNCFG_DIR k) = 0 then 1 else 2
  (d.set (Reg.SAF_CONNSTAT_STATE k) st).modSafConn k fun _ => {}

/-- Some receive connection demands stop (R461). -/
def Dev.connDemands (d : Dev) : Bool :=
  (List.range 16).any fun k => decide (d.get (Reg.SAF_CONNCFG_DIR k) = 0) &&
    (decide (d.get (Reg.SAF_CONNSTAT_STATE k) = 3) ||
     (decide (d.get (Reg.SAF_CONNSTAT_STATE k) = 2) && (d.safConn k).stop))

/-! ### Diagnostics and duplex (R453 to R456, R23, R30, R32) -/

/-- An injected comparator test: a failure is an island diagnostic failure and acts as the function served (R453). -/
def comparatorTest (t : CompTarget) (pass : Bool) (d : Dev) : Dev :=
  match t with
  | .outlet n k =>
    let d := d.modSaf fun x => { x with compOut := withBit x.compOut (8 * n.val + k.val) (!pass) }
    if pass then d else (d.raise 85 n.val).act n.val k.val
  | .input i =>
    let d := d.modSaf fun x => { x with compIn := withBit x.compIn i.val (!pass) }
    if pass ∨ d.sinRole i.val = 0 then d else (d.raise 85 0).demand 0

/-- The island's ROM signature (R453): a failure leads to Safe hold; no DEVCAUSE bit is its own. -/
def islandRomCheck (pass : Bool) (d : Dev) : Dev :=
  let was := d.saf.romBad
  let d := d.modSaf fun x => { x with romBad := !pass, romLatch := x.romLatch || !pass }
  if pass then d else if was then d.demandAll else (d.raise 85 0).demandAll

/-- The core rail has stood below 0.47 V for 2 µs (R23); the cause stands until the rail reads at or above 0.47 V (R88). -/
def coreRailUndervoltage (d : Dev) : Dev := d.condition 2 true

/-- The timebases that TB0 or its PLLs drive, and so lose their reference with it: TB0, TB1 and TB3 to TB8. -/
def tb0Bases : List Nat := [0, 1, 3, 4, 5, 6, 7, 8]

/-- Loss of TB0, or its return (R30, R32): the faults of the timebases that it is the reference of, and the demand. -/
def tb0Loss (lost : Bool) (d : Dev) : Dev :=
  let d := tb0Bases.foldl (fun d n => if lost then d.timebaseFault n else d.setBit Reg.TB_STATUS_FAULT n false) d
  d.condition 3 lost

/-- Every 1 ms: TB10 and TB11 in Hz against TB0, after the correction of TB10 (R32). -/
def timebaseCheck (f10 f11 : Nat) (d : Dev) : Dev :=
  let d := d.setSat Reg.TB_TB10_MEAS_FREQ f10
  let off10 := decide (800000 < ((f10 : Int) - 16000000).natAbs)
  let off11 := decide (100000 < ((f11 : Int) - 2000000).natAbs)
  let d := if off10 then d.timebaseFault 10 else d.setBit Reg.TB_STATUS_FAULT 10 false
  let d := if off11 then d.timebaseFault 11 else d.setBit Reg.TB_STATUS_FAULT 11 false
  d.condition 4 (off10 || off11)

/-- The keyholder's island acts on a demand of the lodger's as on its own (R456). -/
def lodgerSafetyDemand (x : SafeDemand) (d : Dev) : Dev :=
  if !d.duplex ∨ !d.drives then d
  else match x with
  | .device b => d.demand b.val
  | .outlet n k => d.act n.val k.val

/-- A demand seen by one island only for longer than 10 ms: EV087 on both modules (R456). -/
def duplexSafetyDisagreement (d : Dev) : Dev := if d.duplex then (d.raise 87 0).emit (.twin 21 []) else d

end Sys2Proof.Machine
end

