-- ==== Sys2Proof/Machine/Arcs.lean ====
section
/-! DEFINITION. The Innkeeper's arithmetic: capacities, the shaping of arcs, grants, feeds, ties and run-down
(R104 to R145). Power in W, voltage in 0.1 V, current in 0.1 A. -/

namespace Sys2Proof.Machine

/-! ### The ring and capacities -/

/-- The tie between courses t and t + 1 modulo 16 has number t (the ring). The two ties of a course. -/
def courseTies (c : Nat) : List Nat := [(c + 15) % 16, c]

def Dev.tieClosed (d : Dev) (t : Nat) : Bool := d.bit Reg.INK_TIESTATE_CLOSED t
def Dev.tieShut (d : Dev) (t : Nat) : Bool := d.bit Reg.INK_TIESTUCK_SHUT t
def Dev.tieOpenStuck (d : Dev) (t : Nat) : Bool := d.bit Reg.INK_TIESTUCK_OPEN t
def Dev.tieCfg (d : Dev) (t : Nat) : Option TieCfg := d.tab.ties.find? fun x => x.tie = t

/-- A tie an arc may cross: it has a TIES entry and is not stuck open (R111, R557). -/
def Dev.tieUsable (d : Dev) (t : Nat) : Bool := (d.tieCfg t).isSome && !d.tieOpenStuck t

def Dev.coursesOpen (d : Dev) (c : Nat) : Bool := (courseTies c).all fun t => !d.tieClosed t

/-- A string's power at a voltage, in 0.01 W: min(IMAX, PMAX / V) × V. -/
def Dev.strPower (d : Dev) (v : Nat) : Nat :=
  min (d.get Reg.INK_CELLCFG_IMAX * v) (1000 * d.get Reg.INK_CELLCFG_PMAX)

/-- The capacity of a set of courses at a voltage, in W. -/
def Dev.capacity (d : Dev) (cs : List Nat) (v : Nat) : Nat :=
  (cs.map fun c => (d.healthyOf c).length).foldl (· + ·) 0 * d.strPower v / 100

/-- The courses of an arc around anchor `n` with `cw` clockwise and `ccw` counter-clockwise. -/
def arcSpan (n cw ccw : Nat) : List Nat := (List.range (ccw + cw + 1)).map fun i => (n + 16 - ccw + i) % 16

/-- The smallest number of courses whose capacity covers a power, adding them in the order of R124. -/
def Dev.needFrom (d : Dev) (n g v : Nat) : Nat → Nat → Nat
  | 0, _ => 16
  | fuel + 1, k =>
    if g ≤ d.capacity (arcSpan n ((k + 1) / 2) (k / 2)) v then k + 1 else d.needFrom n g v fuel (k + 1)

def Dev.need (d : Dev) (n g v : Nat) : Nat := d.needFrom n g v 15 0

/-- How many of the courses next to the anchor in one direction belong to a set. -/
def runLength (p : Nat → Bool) : Nat → Nat → Nat
  | 0, _ => 0
  | fuel + 1, k => if p k then 1 + runLength p fuel (k + 1) else 0

/-- An arc during shaping: anchor, courses clockwise and counter-clockwise, and need. -/
structure Shape where
  n : Nat
  cw : Nat
  ccw : Nat
  need : Nat
deriving DecidableEq, Repr

def Shape.count (x : Shape) : Nat := x.cw + x.ccw + 1
def Shape.courses (x : Shape) : List Nat := arcSpan x.n x.cw x.ccw

/-- A course that belongs to outlet n's inked arc: a member, or one whose join goes on without a pencil (R124, R127); no arc
crosses a tie stuck open (R111). -/
def Dev.inArc (d : Dev) (n c : Nat) : Bool :=
  let m := d.course c
  !d.tieOpenStuck (if (c + 16 - n) % 16 ≤ 8 then (c + 15) % 16 else c) &&
  ((decide (d.get (Reg.INK_COURSE_STATE c) = 1) && decide (d.get (Reg.INK_COURSE_ARC c) = n)) ||
  (decide (4 ≤ m.step ∧ m.step ≤ 6) && !m.pencil && !m.loose && !m.again && !m.frozenMove && decide (m.arc = n)))

/-- An outlet's present arc, or its own course alone (R124). -/
def Dev.presentArc (d : Dev) (n need : Nat) : Shape :=
  let cw := runLength (fun k => d.inArc n ((n + 1 + k) % 16)) 8 0
  { n := n, cw := cw, ccw := runLength (fun k => d.inArc n ((n + 15 - k) % 16)) (min 7 (15 - cw)) 0, need := need }

/-- Courses that ties stuck closed bind to a live outlet's own course, clockwise and counter-clockwise, up to the course of
another live outlet (R111). -/
def Dev.boundCw (d : Dev) (n : Nat) : Nat := runLength (fun k => d.tieShut ((n + k) % 16) && !d.live ((n + 1 + k) % 16)) 8 0
def Dev.boundCcw (d : Dev) (n : Nat) : Nat := runLength (fun k => d.tieShut ((n + 15 - k) % 16) && !d.live ((n + 15 - k) % 16)) 7 0
def Dev.boundTo (d : Dev) (n : Nat) : List Nat := arcSpan n (d.boundCw n) (d.boundCcw n)

/-- A course that must leave another outlet's arc: its own outlet is in cable check (R285), or a tie stuck closed binds it to a
course outside what such ties bind to the anchor (R111). -/
def Dev.mustLeave (d : Dev) (n c : Nat) : Bool :=
  !(d.boundTo n).contains c && (decide (d.sess c = 7) || (courseTies c).any fun t => d.tieShut t)

/-- The release step (R125): an end course while more than need + 1 are held, the longer end first, clockwise on a tie; and
ends up to a course that must leave. A course that a stuck tie binds to the anchor leaves only with it (R111). -/
def Dev.releaseEnds (d : Dev) : Nat → Shape → Shape
  | 0, x => x
  | fuel + 1, x =>
    let cwBad := (List.range x.cw).any fun k => d.mustLeave x.n ((x.n + 1 + k) % 16)
    let ccwBad := (List.range x.ccw).any fun k => d.mustLeave x.n ((x.n + 15 - k) % 16)
    let cwMay := decide (d.boundCw x.n < x.cw)
    let ccwMay := decide (d.boundCcw x.n < x.ccw)
    if cwBad then d.releaseEnds fuel { x with cw := x.cw - 1 }
    else if ccwBad then d.releaseEnds fuel { x with ccw := x.ccw - 1 }
    else if x.need + 1 < x.count then
      if cwMay ∧ (x.ccw ≤ x.cw ∨ !ccwMay) then d.releaseEnds fuel { x with cw := x.cw - 1 }
      else if ccwMay then d.releaseEnds fuel { x with ccw := x.ccw - 1 }
      else x
    else x

/-- A course may serve outlet n's arc in the direction of its current: every string of it reports bit 0 of page 5 where the outlet
discharges (R307). -/
def Dev.courseServes (d : Dev) (n c : Nat) : Bool :=
  decide (d.get (Reg.OUT_SESS_DISCHG n) = 0) ||
    ((courseStrings c).filter d.present).all fun s => (tget 0 (d.str s).pages 5).testBit 0

/-- The outlet's own course can anchor a pencilled arc while the outlet is not live. -/
def Dev.ownFree (d : Dev) (n : Nat) : Bool :=
  decide (d.get (Reg.INK_COURSE_STATE n) = 0) && !d.live n && !d.outletLatched n && !((courseTies n).any fun t => d.tieShut t)

/-- The course's own outlet leaves it to others: it is neither live nor in cable check (R124, R285), holds no latch (R446), and no
tie of the course is stuck closed (R111). -/
def Dev.ownerYields (d : Dev) (c : Nat) : Bool :=
  decide (d.sess c < 7 ∨ 12 < d.sess c) && !d.outletLatched c && !((courseTies c).any fun t => d.tieShut t)

/-- A course an arc may take (R124): Parked, and its owner yields. -/
def Dev.courseFree (d : Dev) (c : Nat) : Bool := decide (d.get (Reg.INK_COURSE_STATE c) = 0) && d.ownerYields c

/-- A course held or moving under outlet n's pencil. -/
def Dev.pencilHeld (d : Dev) (n c : Nat) : Bool :=
  let m := d.course c
  m.pencil && decide (4 ≤ m.step) && !m.loose && !m.frozenMove && decide (m.arc = n)

/-- A course that outlet n's arc may take: free, or `held` under its own pencil, as long as the course's own outlet yields it and
its strings serve the direction of the current (R124, R148, R151, R285, R307). -/
def Dev.takeable (d : Dev) (held : Bool) (n c : Nat) : Bool :=
  (d.courseFree c || (held && d.pencilHeld n c && d.ownerYields c)) && d.courseServes n c

/-- One try to grow an arc: the neighbour on the side with fewer courses first, not across the open tie of R108 nor a tie it
may not cross. -/
def Dev.growOne (d : Dev) (free : Nat → Nat → Bool) (taken : List Nat) (x : Shape) : Option (Shape × Nat) :=
  let cwC := (x.n + x.cw + 1) % 16
  let ccwC := (x.n + 15 - x.ccw) % 16
  let cwOk := decide (x.cw < 8 ∧ x.count < 16) && d.tieUsable ((x.n + x.cw) % 16) && free x.n cwC && !taken.contains cwC
  let ccwOk := decide (x.ccw < 7 ∧ x.count < 16) && d.tieUsable ccwC && free x.n ccwC && !taken.contains ccwC
  let viaCw := ({ x with cw := x.cw + 1 }, cwC)
  let viaCcw := ({ x with ccw := x.ccw + 1 }, ccwC)
  if x.cw ≤ x.ccw then (if cwOk then some viaCw else if ccwOk then some viaCcw else none)
  else (if ccwOk then some viaCcw else if cwOk then some viaCw else none)

/-- One pass over the outlets in allocation order. -/
def Dev.growPass (d : Dev) (free : Nat → Nat → Bool) : List Shape → List Nat → List Shape × List Nat × Bool
  | [], taken => ([], taken, false)
  | x :: xs, taken =>
    match (if x.count < x.need then d.growOne free taken x else none) with
    | some (y, c) =>
      let (ys, t, _) := d.growPass free xs (c :: taken)
      (y :: ys, t, true)
    | none =>
      let (ys, t, p) := d.growPass free xs taken
      (x :: ys, t, p)

/-- Passes until none makes progress; sixteen courses bound them (R124). -/
def Dev.grow (d : Dev) (free : Nat → Nat → Bool) : Nat → List Shape → List Nat → List Shape
  | 0, xs, _ => xs
  | fuel + 1, xs, taken =>
    let (ys, t, p) := d.growPass free xs taken
    if p then d.grow free fuel ys t else ys

/-! ### Run-down (R144, R145, R195) -/

/-- Run-down rates of the RAMP codes in 0.1 A/s. -/
def rampRates : List Nat :=
  [2500, 3500, 5000, 7000, 10000, 14000, 20000, 28000, 40000, 56000, 80000, 112000, 160000, 224000, 320000, 450000]

/-- The run-down bound Q in W for a number of active strings on one code: RUNDOWN × rate × V (R144). -/
def Dev.rundownBound (d : Dev) (n strs code v : Nat) : Nat :=
  let sum := strs * rampRates.getD code 0
  let fall := d.get (Reg.TUN_FALL_RATE n)
  let rate := if fall = 0 then sum else min fall sum
  d.get (Reg.INK_OUTCFG_RUNDOWN n) * rate * v / 100000

/-- The slowest code whose bound reaches the power, or the fastest (R145). -/
def Dev.rampFor (d : Dev) (n strs e v : Nat) : Nat → Nat → Nat
  | 0, code => code
  | fuel + 1, code => if e ≤ d.rundownBound n strs code v then code else d.rampFor n strs e v fuel (code + 1)

/-! ### Grants (R118 to R120) -/

/-- One live outlet's values of a round. -/
structure Claim where
  n : Nat := 0
  v : Nat := 0
  dem : Nat := 0
  capped : Bool := false
  ceil : Nat := 0
  lim : Nat := 0
  q : Nat := 0
  e : Nat := 0
  f : Nat := 0
  cls : Nat := 0
  ramp : Nat := 0
  /-- The outlet discharges: its strings return power (R306, R307). -/
  disch : Bool := false
deriving DecidableEq, Repr

/-- Allocation order: ascending class, then outlet number. -/
def allocOrder (cs : List Claim) : List Claim := (List.range 4).flatMap fun k => cs.filter fun c => c.cls = k

/-- The values of an outlet (R119, R306): a discharging outlet's E uses IDIS in place of its configured maximum. Under sense fallback
the ceiling is halved (R226), an odd number of 0.1 A rounded down: the model's choice (log 110). -/
def Dev.claim (d : Dev) (n : Nat) : Claim :=
  let v := (d.regV n).toNat
  let req := d.getI (Reg.OUT_DEMAND_IREQ n)
  let raw := req.natAbs * v / 100
  let dem := match (d.out n).maxW with
    | some m => min raw m
    | none => raw
  let ceilA := d.get (Reg.CAB_CEIL_CEIL n)
  let ceilA := if req < 0 then min ceilA (d.get (Reg.OUT_BPT_IDIS n)) else ceilA
  let ceilA := if d.bit Reg.STR_SENSE_FALLBACK n then ceilA / 2 else ceilA
  let ceil := ceilA * v / 100
  let lim := min (1000 * d.get (Reg.INK_OUTLIM_KW n)) (300 * v)
  let strs := (d.activeStrings n).length
  let strs := if strs = 0 then (d.healthyOf n).length else strs
  let e0 := min dem (min ceil lim)
  let code := d.rampFor n strs e0 v 15 0
  let q := d.rundownBound n strs code v
  let e := min e0 q
  { n := n, v := v, dem := dem, capped := decide (dem < raw), ceil := ceil, lim := lim, q := q, e := e,
    f := min (10000 * d.get (Reg.INK_OUTCFG_FLOOR n)) e, cls := d.get (Reg.INK_OUTCFG_CLASS n), ramp := code,
    disch := decide (req < 0) }

/-- A table of watts by outlet number. -/
abbrev Watts := Tbl Nat

def total (g : Watts) : Nat := (g.map (·.2)).foldl (· + ·) 0

/-- Gives the watts left by flooring, one each, in order, never above a cap. -/
def spreadLeft (cap : Nat → Nat) : List Nat → Nat → Watts → Watts
  | [], _, g => g
  | n :: ns, left, g =>
    if left = 0 then g
    else if tget 0 g n < cap n then spreadLeft cap ns (left - 1) (tput 0 g n (tget 0 g n + 1))
    else spreadLeft cap ns left g

/-- Shares an amount in proportion to wants, floored to 1 W, the watts left one each in order (R119). -/
def shareProp (amount : Nat) (wants : List (Nat × Nat)) (cap : Nat → Nat) (g : Watts) : Watts :=
  let sum := (wants.map (·.2)).foldl (· + ·) 0
  if sum = 0 then g
  else
    let g' := wants.foldl (fun g w => tput 0 g w.1 (tget 0 g w.1 + w.2 * amount / sum)) g
    spreadLeft cap (wants.map (·.1)) (amount - (total g' - total g)) g'

/-- Classes in order: in full while they fit, else in proportion, and then nothing more. -/
def byClass (b : Nat) (want : Claim → Nat → Nat) (cs : List Claim) : List Nat → Watts → Watts
  | [], g => g
  | k :: ks, g =>
    let mine := cs.filter fun c => c.cls = k
    let wants := mine.map fun c => (c.n, want c (tget 0 g c.n))
    let sum := (wants.map (·.2)).foldl (· + ·) 0
    let left := b - total g
    if sum ≤ left then byClass b want cs ks (wants.foldl (fun g w => tput 0 g w.1 (tget 0 g w.1 + w.2)) g)
    else shareProp left wants (fun n => ((mine.find? fun c => c.n = n).map (·.e)).getD 0) g

/-- The grants of R119 for a station budget. -/
def grantsFor (b : Nat) (cs : List Claim) : Watts :=
  let cs := allocOrder cs
  let floors := byClass b (fun c _ => c.f) cs [0, 1, 2, 3] []
  if (cs.map (·.f)).foldl (· + ·) 0 ≤ b then byClass b (fun c g => c.e - g) cs [0, 1, 2, 3] floors else floors

/-! ### Limits of geometry, feeds and ties (R109, R121, R126, R128) -/

/-- The strings that share an arc's current, those of a course at step 6 of an inked join among them. -/
def Dev.sharing (d : Dev) (n : Nat) : List Nat :=
  (d.arcStrings n).filter fun s =>
    let m := d.course (s / 4)
    d.inkState s = 1 || d.inkState s = 2 || (d.inkState s = 6 && m.step = 6 && !m.pencil && !m.again && !m.loose)

/-- Current shares by string. -/
abbrev Shares := List (Nat × Nat)

def sharesSum (t : Shares) : Nat := (t.map (·.2)).foldl (· + ·) 0

/-- The current shares that a grant may meet while its round is in force: the weights in force, where a weight ramp leads (R653), the
shares of R139 to R141 among the arc's strings, and those after the strings `shed` are shed (R158). Where no string of the arc
carries current yet, those of all the healthy strings of its members. -/
def Dev.shareTables (d : Dev) (n : Nat) (mem shed : List Nat) : List Shares :=
  let now := d.sharing n
  let ss := if now = [] then mem.flatMap d.healthyOf else now
  [now.map fun s => (s, d.weight s), (d.out n).rampTo, shareOut (d.rawWeights ss),
    shareOut (d.rawWeights (ss.filter fun s => !shed.contains s))].filter fun t => sharesSum t ≠ 0

/-- The largest share, in 1/65,536, that a set of strings takes in any of the tables. -/
def topShare (ts : List Shares) (p : Nat → Bool) : Nat :=
  (ts.map fun t => (sharesSum (t.filter fun x => p x.1) * 65536 + sharesSum t - 1) / sharesSum t).foldl max 0

/-- The largest grant at which no closed tie of the arc carries more than IRATE (R109): the ties next to the anchor carry the most;
none where the arc is the anchor's course alone. -/
def Dev.tieBound (d : Dev) (n v : Nat) (ts : List Shares) : Option Nat :=
  let cw := topShare ts fun s => decide (1 ≤ (s / 4 + 16 - n) % 16 ∧ (s / 4 + 16 - n) % 16 ≤ 8)
  let ccw := topShare ts fun s => decide (9 ≤ (s / 4 + 16 - n) % 16)
  let bound := fun s => d.get Reg.INK_TIECFG_IRATE * v * 65536 / (10 * s)
  match cw, ccw with
  | 0, 0 => none
  | s, 0 | 0, s => some (bound s)
  | s, t => some (min (bound s) (bound t))

/-- What a grant means to the feeds: its outlet's share tables, and whether its strings return power (R128, R166). -/
structure Draw where
  tables : List Shares := []
  disch : Bool := false
deriving DecidableEq, Repr

/-- The largest share of an outlet's current that the strings of a feed's courses take. -/
def Dev.feedPart (d : Dev) (f : Nat) (w : Draw) : Nat := topShare w.tables fun s => d.get (Reg.INK_COURSECFG_FEED (s / 4)) = f

/-- Watts that the strings of a feed's courses draw for a grant; power they return in a discharge counts for no draw. -/
def Dev.onFeed (d : Dev) (f g : Nat) (w : Draw) : Nat := if w.disch then 0 else (g * d.feedPart f w + 65535) / 65536

/-- One feed's check (R128): grants fall in reverse allocation order until the draw fits. `order` is reversed. -/
def Dev.feedCut (d : Dev) (f share : Nat) (draws : Nat → Draw) : List Nat → Watts → Watts
  | [], g => g
  | n :: ns, g =>
    let draw := (g.map fun p => d.onFeed f p.2 (draws p.1)).foldl (· + ·) 0
    let mine := if (draws n).disch then 0 else d.feedPart f (draws n)
    if draw ≤ share then g
    else if mine = 0 then d.feedCut f share draws ns g
    else d.feedCut f share draws ns (tput 0 g n (tget 0 g n - ((draw - share) * 65536 + mine - 1) / mine))

/-- The code of the constraint that set a grant: the lowest that gives it (R121). `arcCap`: the capacity of the member
courses; `budget`: the grant of R119; `tie`, `feed`: what those left; `stuck`: the hold of R111. -/
def limiterOf (c : Claim) (g budget arcCap : Nat) (tie : Option Nat) (feed : Nat) (stuck : Bool) : Nat :=
  if g = c.dem then (if c.capped then 1 else 0)
  else if g = c.ceil then 2
  else if g = c.lim then 3
  else if g = c.q then 4
  else if g = budget ∧ budget < c.e then 5
  else if g = arcCap then 6
  else if g = feed ∧ !stuck ∧ tie ≠ some g then 7
  else if stuck then 8
  else 9

end Sys2Proof.Machine
end

