-- ==== Sys2Proof/Machine/Moves.lean ====
section
/-! DEFINITION. Course moves: leaving, joining, ties, aborts and stuck ties, the weight ramp, and what becomes of a course
frozen by BLOCK (R110, R111, R129 to R137, R153, R653). -/

namespace Sys2Proof.Machine

/-! ### Strings of a course that moves -/

/-- The strings of a course that are idle, active, shedding, shed or in a move take a state; faulted and latched ones keep
theirs. -/
def Dev.courseState (d : Dev) (c st : Nat) : Dev :=
  (courseStrings c).foldl (fun d s =>
    if d.present s ∧ (d.inkState s < 4 ∨ d.inkState s = 6) then d.set (Reg.INK_STRING_STATE s) st else d) d

/-- The strings of a course carry no share. -/
def Dev.courseUnshare (d : Dev) (c : Nat) : Dev :=
  (courseStrings c).foldl (fun d s => (d.setWeight s 0).set (Reg.INK_STRING_PHASE s) 0) d

/-- A course becomes Parked (R105). -/
def Dev.park (d : Dev) (c : Nat) : Dev :=
  let d := ((d.courseState c 0).courseUnshare c).modCourse c fun x => { blocked := x.blocked }
  (d.set (Reg.INK_COURSE_STATE c) 0).set (Reg.INK_COURSE_ARC c) 31

/-- A course is Walled by a stuck tie (R111, R134). -/
def Dev.wallStuck (d : Dev) (c tie : Nat) : Dev :=
  let d := ((d.courseState c 0).courseUnshare c).modCourse c fun x => { blocked := x.blocked, stuckWall := true, tie := tie }
  (d.set (Reg.INK_COURSE_STATE c) 4).set (Reg.INK_COURSE_ARC c) 31

/-- A course that has left its arc and whose ties read open, but for those stuck closed: Parked, or Walled by such a tie (R111). -/
def Dev.settleLeft (d : Dev) (c : Nat) : Dev :=
  match (courseTies c).find? d.tieShut with
  | some t => d.wallStuck c t
  | none => d.park c

/-- Every tie of the course that is not stuck closed reads open. -/
def Dev.hasLeft (d : Dev) (c : Nat) : Bool := (courseTies c).all fun t => !d.tieClosed t || d.tieShut t

/-- A course becomes a Member of an outlet's arc; its strings are active where the arc carries current. -/
def Dev.join (d : Dev) (c n : Nat) : Dev :=
  let d := d.modCourse c fun x => { blocked := x.blocked }
  let d := (d.set (Reg.INK_COURSE_STATE c) 1).set (Reg.INK_COURSE_ARC c) n
  d.courseState c (if 9 ≤ d.sess n ∧ d.sess n ≤ 11 then 1 else 0)

/-- The tie between a course and the rest of an arc anchored at `n` (R129). -/
def innerTie (n c : Nat) : Nat := if (c + 16 - n) % 16 ≤ 8 then (c + 15) % 16 else c

/-! ### Ties -/

/-- Ties in motion. -/
def Dev.tiesMoving (d : Dev) : Nat := popCount 16 (d.get Reg.INK_TIESTATE_MOVING)

/-- Commands a tie (R104): it is in motion until feedback confirms. -/
def Dev.driveTie (d : Dev) (t : Nat) (close : Bool) : Dev :=
  let d := { d with tieCmd := withBit d.tieCmd t close }
  let d := d.setBit Reg.INK_TIESTATE_MOVING t (d.tieClosed t != close)
  match d.tieCfg t with
  | some x => if d.drives then d.driveAux x.chan close else d
  | none => d

/-! ### Weights (R141, R653) -/

/-- Step k of N of a linear move of weights, floored, the units left one each in ascending string number. -/
def rampWeights (from_ to_ : Tbl Nat) (k n : Nat) : List (Nat × Nat) :=
  let raw := to_.map fun p => (p.1, (tget 0 from_ p.1 * (n - k) + p.2 * k) / n)
  let left := 65536 - (raw.map (·.2)).foldl (· + ·) 0
  (raw.zip (List.range raw.length)).map fun p : (Nat × Nat) × Nat => (p.1.1, p.1.2 + flag (decide (p.2 < left)))

def Dev.setWeights (d : Dev) (ws : List (Nat × Nat)) : Dev :=
  ws.foldl (fun d p => d.setWeight p.1 p.2) d

/-- The phases of an arc's strings, in ascending number (R142). -/
def Dev.setPhases (d : Dev) (ss : List Nat) : Dev :=
  (ss.zip (List.range ss.length)).foldl (fun d p => d.set (Reg.INK_STRING_PHASE p.1) (phaseOf p.2 ss.length)) d

/-- Step 6 begins: the phases of the enlarged arc, and the ramp of its weights from those in force (R653). A shed window that is
open returns to these phases if it is aborted. -/
def Dev.startRamp (d : Dev) (n : Nat) : Dev :=
  let ss := d.sharing n
  let o := d.out n
  let from_ := ss.map fun s => (s, if o.shedStart.isSome then tget 0 o.shedWas s else d.weight s)
  let d := d.setPhases ss
  d.modOut n fun o => { o with
    rampStart := some d.period, rampFrom := from_, rampTo := shareOut (d.rawWeights ss),
    shedWas := if o.shedStart.isSome then from_ else [],
    shedWasPhase := if o.shedStart.isSome then ss.map fun s => (s, d.get (Reg.INK_STRING_PHASE s)) else [] }

/-- TUP in control periods, at least one. -/
def Dev.rampLen (d : Dev) : Nat := max 1 (1000 * d.get Reg.INK_MOVECFG_TUP / max 1 d.periodUs)

/-- The weights of a ramp at a control-period boundary; an open shed window falls from them. -/
def Dev.rampStep (d : Dev) (n : Nat) : Dev :=
  let o := d.out n
  match o.rampStart with
  | none => d
  | some p =>
    let len := d.rampLen
    let k := min len (d.period - p)
    let ws := rampWeights o.rampFrom o.rampTo k len
    let d := (d.setWeights ws).modOut n fun o => { o with shedWas := if o.shedStart.isSome then ws else o.shedWas }
    if k = len then d.modOut n fun o => { o with rampStart := none, rampFrom := [], rampTo := [] } else d

/-- The weights of some strings by a table, normalised as R141 gives; where the table gives them none, `other`. -/
def keepShares (ss : List Nat) (t : Tbl Nat) (other : Shares) : Shares :=
  let kept := ss.map fun s => (s, tget 0 t s)
  if sharesSum kept = 0 then other else shareOut kept

/-- Weights and phases among the strings that share the arc (R139 to R143). A weight ramp or a shed window in progress goes on,
between the values that these strings have. -/
def Dev.reshareArc (d : Dev) (n : Nat) : Dev :=
  let ss := d.sharing n
  let o := d.out n
  if o.rampStart = none ∧ o.shedStart = none then d.setShares ss
  else
    let target := shareOut (d.rawWeights ss)
    let d := d.setPhases ss
    d.modOut n fun o => { o with
      rampFrom := if o.rampStart.isSome then keepShares ss o.rampFrom target else [],
      rampTo := if o.rampStart.isSome then target else [],
      shedWas := if o.shedStart.isSome then target else [],
      shedWasPhase := if o.shedStart.isSome then ss.map fun s => (s, d.get (Reg.INK_STRING_PHASE s)) else [] }

/-- Weights and phases at once (R139 to R142, R161); a ramp in progress ends. -/
def Dev.shareNow (d : Dev) (n : Nat) : Dev :=
  let d := d.modOut n fun o => { o with rampStart := none, rampFrom := [], rampTo := [] }
  d.setShares (d.sharing n)

/-! ### Starting and ending moves -/

/-- A leave begins: at step 1 with last orders, or at step 2 where the current is already zero; `loose` belongs to no arc
(R129, R131, R132, R153). -/
def Dev.startLeave (d : Dev) (c n : Nat) (loose : Bool) : Dev :=
  let d := (d.courseState c 6).modCourse c fun x =>
    { step := if loose then 2 else 1, arc := n, tie := innerTie n c, loose := loose, blocked := x.blocked }
  let d := d.set (Reg.INK_COURSE_STATE c) 3
  if loose then (d.courseUnshare c).set (Reg.INK_COURSE_ARC c) 31 else d.reshare n

/-- A course that leaves with no tie closed is Parked at once (R129, R137). -/
def Dev.leaveOrPark (d : Dev) (c n : Nat) : Dev := if d.hasLeft c then d.settleLeft c else d.startLeave c n true

/-- A join from parked begins at step 4, under an inked or a pencilled grant (R131, R150); R89's hold of the course ends.
`future` are the strings of the arc to be, for the phases that the PRECHARGE frames carry. -/
def Dev.startJoin (d : Dev) (c n : Nat) (pencil : Bool) (future : List Nat) : Dev :=
  let d := (d.courseState c 6).modCourse c fun _ =>
    { step := 4, arc := n, tie := innerTie n c, pencil := pencil, move := d.period }
  let d := (d.set (Reg.INK_COURSE_STATE c) 2).set (Reg.INK_COURSE_ARC c) 31
  (future.zip (List.range future.length)).foldl (fun d p =>
    if p.1 / 4 = c then d.set (Reg.INK_STRING_PHASE p.1) (phaseOf p.2 future.length) else d) d

/-- The courses beyond a course, away from its anchor, that belong to the same arc (R109). -/
def Dev.beyond (d : Dev) (n c : Nat) : List Nat :=
  let cw := (c + 16 - n) % 16
  (d.arcCourses n).filter fun x =>
    let k := (x + 16 - n) % 16
    if cw ≤ 8 then decide (cw ≤ k ∧ k ≤ 8) else decide (9 ≤ k ∧ k ≤ cw)

/-- The current in mA through the tie a leaving course opens, summed over the strings on its far side; none when an up frame
of theirs is missing (R109, R132). A course that belongs to no arc counts its own strings. -/
def Dev.tieCurrent (d : Dev) (c : Nat) : Option Int :=
  let m := d.course c
  let ss := ((if m.loose then [c] else d.beyond m.arc c).flatMap courseStrings).filter d.present
  if ss.any fun s => decide (d.get (Reg.STR_STRSTAT_LOST s) ≠ 0) then none
  else some ((ss.map fun s => upQuantity (d.str s).up 1).foldl (· + ·) 0)

def Dev.underOneAmp (d : Dev) (c : Nat) : Bool :=
  match d.tieCurrent c with
  | some i => decide (i.natAbs < 1000)
  | none => false

/-- Opens the ties of a leaving course that are closed, as many as MAXTIES leaves; its step 3 begins when all are
commanded (R129, R131). A course whose ties read open already has left; a tie stuck closed is commanded open already (R110). -/
def Dev.openTies (d : Dev) (c : Nat) : Dev :=
  let m := d.course c
  let own := (if m.loose then courseTies c else [m.tie]).filter fun t => !d.tieShut t
  let ts := own.filter fun t => d.tieClosed t && !d.bit Reg.INK_TIESTATE_MOVING t
  if own.all fun t => !d.tieClosed t && !d.bit Reg.INK_TIESTATE_MOVING t then
    (own.foldl (fun d t => d.driveTie t false) d).settleLeft c
  else if d.tiesMoving + ts.length ≤ d.get Reg.INK_MOVECFG2_MAXTIES then
    (ts.foldl (fun d t => d.driveTie t false) d).modCourse c fun x => { x with step := 3 }
  else d

/-- TDOWN has elapsed (R131 step 1). -/
def moveTdownElapsed (c : Nat) (d : Dev) : Dev :=
  let m := d.course c
  if m.step = 1 ∧ !m.frozenMove then d.modCourse c fun x => { x with step := 2 } else d

/-- The tie current has stayed below 1 A for TCHECK (R131 step 2): the tie is commanded open. -/
def moveTcheckPassed (c : Nat) (d : Dev) : Dev :=
  let m := d.course c
  if m.step = 2 ∧ !m.frozenMove ∧ !m.again ∧ d.underOneAmp c then d.openTies c else d

/-- The reading has stayed at or above 1 A for 5 ms (R132). -/
def moveCheckAbort (c : Nat) (d : Dev) : Dev :=
  let m := d.course c
  if m.step = 2 ∧ !m.frozenMove ∧ !m.again ∧ !d.underOneAmp c then
    if m.loose then (d.modCourse c fun x => { x with step := 6, again := true }).raise 9 0
    else ((d.join c m.arc).reshareArc m.arc).raise 9 0
  else d

/-- Whether the ties between a course and its anchor are all closed. -/
def Dev.linked (d : Dev) (n c : Nat) : Bool :=
  let cw := (c + 16 - n) % 16
  if cw ≤ 8 then (List.range cw).all fun k => d.tieClosed ((n + k) % 16)
  else (List.range (16 - cw)).all fun k => d.tieClosed ((n + 15 - k) % 16)

/-- The courses that join together with a course: of its arc, its direction and its move, not yet at step 6 (R130). -/
def Dev.joinGroup (d : Dev) (c : Nat) : List Nat :=
  let m := d.course c
  let side := fun x => decide ((x + 16 - m.arc) % 16 ≤ 8)
  (List.range 16).filter fun x =>
    let y := d.course x
    decide (y.step = 4 ∨ y.step = 5) && decide (y.arc = m.arc) && decide (y.move = m.move) && !y.loose && !y.frozenMove &&
    side x = side c

/-- Courses that join together go to step 6 when the ties of all of them, and those between them and the anchor, read closed; inked
ones take up their shares (R130, R131, R136). A course whose move was reversed during its stroke leaves once the stroke is
complete (R153). -/
def Dev.finishJoins (d : Dev) (n : Nat) : Dev :=
  let d := (List.range 16).foldl (fun d c =>
    let m := d.course c
    if m.step = 5 ∧ m.arc = n ∧ m.loose ∧ !m.frozenMove ∧ d.tieClosed m.tie ∧ !d.bit Reg.INK_TIESTATE_MOVING m.tie then
      d.startLeave c n true else d) d
  let ready := (List.range 16).filter fun c =>
    let m := d.course c
    decide (m.step = 5) && decide (m.arc = n) && !m.loose && !m.frozenMove &&
    (d.joinGroup c).all fun x => decide ((d.course x).step = 5) && d.tieClosed (d.course x).tie && d.linked n x
  let d := ready.foldl (fun d c => d.modCourse c fun x => { x with step := 6 }) d
  if ready.any fun c => !(d.course c).pencil then d.startRamp n else d

/-- Feedback confirms the commanded state of a tie (R104, R131). -/
def tieFeedbackConfirmed (t : Nat) (closed : Bool) (d : Dev) : Dev :=
  let d := match d.tieCfg t with
    | some x => if x.can then d else d.lineReads x.line (closed != decide (x.polarity = 1))
    | none => d
  if (d.tieCfg t).isNone then d
  else if !d.bit Reg.INK_TIESTATE_MOVING t ∨ d.tieCmd.testBit t ≠ closed then d.setBit Reg.INK_TIESTATE_CLOSED t closed
  else
    let d := (d.setBit Reg.INK_TIESTATE_CLOSED t closed).setBit Reg.INK_TIESTATE_MOVING t false
    if closed then
      forAll 16 d fun d n => if (List.range 16).any fun c => (d.course c).step = 5 ∧ (d.course c).arc = n then d.finishJoins n else d
    else
      [t, (t + 1) % 16].foldl (fun d c =>
        let m := d.course c
        if m.step = 3 ∧ !m.frozenMove ∧ (if m.loose then d.hasLeft c else decide (m.tie = t)) then d.settleLeft c else d) d

/-- A move is reversed (R153): a stroke in progress is completed first. -/
def Dev.reversePencil (d : Dev) (c : Nat) : Dev :=
  let m := d.course c
  if m.step = 4 then d.park c
  else if m.step = 5 ∧ d.bit Reg.INK_TIESTATE_MOVING m.tie then d.modCourse c fun x => { x with loose := true, pencil := false }
  else if m.step = 5 ∨ m.step = 6 then d.startLeave c m.arc true
  else d

/-- The way of a course to an anchor crosses a tie. -/
def usesTie (n x t : Nat) : Bool :=
  let cw := (x + 16 - n) % 16
  if cw ≤ 8 then decide ((t + 16 - n) % 16 < cw) else decide ((t + 16 - x) % 16 < 16 - cw)

/-- The joins that need a tie which will not close are aborted (R110, R130, R133): the courses of one move join together. -/
def Dev.abortJoins (d : Dev) (t : Nat) : Dev :=
  (List.range 16).foldl (fun d x =>
    let m := d.course x
    if 4 ≤ m.step ∧ m.step ≤ 6 ∧ !m.loose ∧ !m.again ∧ !m.frozenMove ∧ m.arc < 16 ∧ usesTie m.arc x t then
      let e := d.reversePencil x
      if m.step = 6 ∧ !m.pencil then e.reshareArc m.arc else e
    else d) d

/-- Joins that waited for one that was aborted go on (R130). -/
def Dev.goOn (d : Dev) : Dev := forAll 16 d Dev.finishJoins

/-- Feedback disagrees with the command for longer than the step time: the tie is stuck, its bit follows what the feedback
reads, EV009; the move that uses it is aborted and its course Walled (R110, R134). -/
def tieStuck (t : Nat) (closed : Bool) (d : Dev) : Dev :=
  if d.tieCmd.testBit t = closed then d
  else
    let d := (d.setBit Reg.INK_TIESTATE_CLOSED t closed).setBit Reg.INK_TIESTATE_MOVING t false
    let d := if closed then d.setBit Reg.INK_TIESTUCK_SHUT t true else d.setBit Reg.INK_TIESTUCK_OPEN t true
    let d := [t, (t + 1) % 16].foldl (fun d c =>
      let m := d.course c
      if m.step ≠ 0 ∧ (m.tie = t ∨ m.loose) then (if m.step = 4 then d.park c else d.wallStuck c t) else d) d
    let d := if closed then d else d.abortJoins t
    d.goOn.raise 9 0

/-- A course's bus voltage in 25 mV units: its first healthy string's. -/
def Dev.courseV (d : Dev) (c : Nat) : Nat :=
  match d.healthyOf c with
  | s :: _ => d.busV s
  | [] => 0

/-- The course lies within VWIN of the arc's voltage. -/
def Dev.inWindow (d : Dev) (n c : Nat) : Bool :=
  decide (((d.courseV c : Int) - d.arcV25 n).natAbs ≤ 40 * d.get Reg.INK_MOVECFG_VWIN)

/-- The chain of a joining course: the courses at step 4 that join together with it, the nearest first (R130, R135). -/
def Dev.chain (d : Dev) (n c : Nat) : List Nat :=
  let side := fun x => decide ((x + 16 - n) % 16 ≤ 8)
  let cs := if side c then (List.range 9).map fun k => (n + k) % 16 else (List.range 8).map fun k => (n + 16 - k) % 16
  cs.filter fun x => (d.joinGroup c).contains x && decide ((d.course x).step = 4)

/-- The joining course bus has reached the arc voltage window: when the whole chain has, its ties are commanded closed, the
nearest first and no more than MAXTIES at once (R131, R135); never all sixteen (R108). -/
def moveVoltageWindow (c : Nat) (d : Dev) : Dev :=
  let m := d.course c
  if m.step ≠ 4 ∨ m.frozenMove then d
  else
    let cs := d.chain m.arc c
    if cs.all fun x => d.inWindow m.arc x then
      (cs.take (d.get Reg.INK_MOVECFG2_MAXTIES - d.tiesMoving)).foldl (fun d x =>
        if 15 ≤ popCount 16 d.tieCmd then d
        else (d.driveTie (innerTie m.arc x) true).modCourse x fun y => { y with step := 5 }) d
    else d

/-- The voltage window is not reached within TPRE: the course is parked, and those that join beyond it, EV009 (R130, R133). -/
def movePrechargeTimeout (c : Nat) (d : Dev) : Dev :=
  let m := d.course c
  if m.step = 4 ∧ !m.frozenMove then (((d.park c).abortJoins (innerTie m.arc c)).goOn).raise 9 0 else d

/-- TUP has elapsed: the joining course is a member (R131 step 7). The weights go on by the ramp in force, which may be that of a
course that joined later (R653). -/
def moveTupElapsed (c : Nat) (d : Dev) : Dev :=
  let m := d.course c
  if m.step = 6 ∧ !m.frozenMove ∧ !m.pencil ∧ !m.again ∧ !m.loose then d.join c m.arc else d

/-! ### Reversal and dissolution -/

/-- The arc of an outlet that is not live is dissolved (R129). -/
def Dev.dissolve (d : Dev) (n : Nat) : Dev :=
  (List.range 16).foldl (fun d c =>
    let m := d.course c
    if m.frozenMove then d
    else if d.get (Reg.INK_COURSE_STATE c) = 1 ∧ d.get (Reg.INK_COURSE_ARC c) = n then d.leaveOrPark c n
    else if 4 ≤ m.step ∧ m.arc = n ∧ !m.loose ∧ !m.again ∧ !m.pencil then d.reversePencil c
    else d) d

/-- A course frozen by a BLOCK that has ended, or by Safe hold, at the next round's snapshot (R137). -/
def Dev.thaw (d : Dev) (c : Nat) : Dev :=
  let m := d.course c
  let n := d.courseArc c
  if !m.frozenMove ∨ (n < 16 ∧ d.arcHeld n) ∨ d.outletLatched c ∨ d.mode = .safeHold then d
  else
    let d := d.modCourse c fun x => { x with frozenMove := false }
    let tie := if n < 16 then innerTie n c else m.tie
    let others := (courseTies c).filter fun t => t ≠ tie
    if n < 16 ∧ c ≠ n ∧ d.live n ∧ d.tieClosed tie ∧ !(others.any d.tieClosed) then d.join c n
    else d.leaveOrPark c n

/-- A course Walled by its own stuck tie, once the tie's bit is clear (R111, R134). -/
def Dev.unwall (d : Dev) (c : Nat) : Dev :=
  let m := d.course c
  if m.stuckWall ∧ d.get (Reg.INK_COURSE_STATE c) = 4 ∧ !((courseTies c).any fun t => d.tieShut t) ∧ !(d.tieOpenStuck m.tie) ∧
      !d.outletLatched c then
    (d.modCourse c fun x => { x with stuckWall := false }).leaveOrPark c c
  else d

/-- What ties stuck closed make of a course (R111): a member of the arc of the live outlet they bind it to, else Walled. -/
def Dev.settleStuck (d : Dev) (c : Nat) : Dev :=
  if d.live c ∨ d.outletLatched c then d
  else match (courseTies c).find? d.tieShut with
    | none => d
    | some t =>
      let free := decide (d.get (Reg.INK_COURSE_STATE c) = 0)
      match (List.range 16).find? fun n => d.live n && (d.boundTo n).contains c with
      | some n => if free ∨ (d.get (Reg.INK_COURSE_STATE c) = 4 ∧ (d.course c).stuckWall) then d.join c n else d
      | none => if free then d.wallStuck c t else d

end Sys2Proof.Machine
end

