-- ==== Sys2Proof/Machine/Memory.lean ====
section
/-! DEFINITION. SRAM banks: owners and handover, power states, word operations, errors and poison, the Night Porter,
retirement, and the wipe of the Strongbox (R519 to R553). Words are addressed by physical bank and word. -/

namespace Sys2Proof.Machine

def Dev.modMem (d : Dev) (f : MemCtx → MemCtx) : Dev := { d with mem := f d.mem }
def Dev.owner (d : Dev) (b : Nat) : Nat := d.get (Reg.MEM_BANKOWN_OWNER b)
def Dev.bankPwr (d : Dev) (b : Nat) : Nat := d.get (Reg.MEM_BANKOWN_PWR b)
def Dev.retired (d : Dev) (b : Nat) : Bool := d.bit2 Reg.MEM_RETIRED_LO_RETIRED Reg.MEM_RETIRED_HI_RETIRED b

/-- The key of a word in the poison table. -/
def wordKey (b w : Nat) : Nat := b * 32768 + w
def Dev.poisoned (d : Dev) (b w : Nat) : Bool := decide (tget 0 d.mem.poison (wordKey b w) = 1)
def Dev.setPoison (d : Dev) (b w : Nat) (p : Bool) : Dev :=
  d.modMem fun m => { m with poison := tput 0 m.poison (wordKey b w) (flag p) }

/-- A 64-bit word of a bank, little-endian. -/
def Dev.sramWord (d : Dev) (b w : Nat) : Nat := ofLe (d.sramBytes b (8 * w) 8)
def Dev.setSramWord (d : Dev) (b w v : Nat) : Dev := d.putSram b (8 * w) (leBytes 8 v)

/-- A bank holds zeros with valid ECC (R525, R532). -/
def Dev.clearBank (d : Dev) (b : Nat) : Dev :=
  let d := { d with sram := d.sram.filter fun e => e.1 / 262144 ≠ b }
  d.modMem fun m => { m with poison := m.poison.filter fun e => e.1 / 32768 ≠ b }

/-- A general bank that an owner may hold: not a Strongbox bank, a spare, the host window bank or a retired one (R524). -/
def Dev.handable (d : Dev) (b : Nat) : Bool := decide (d.get (Reg.MEM_BANKOWN_ROLE b) = 0) && !d.retired b

/-- Free banks that the device keeps cleared and On, four at most (R533). -/
def Dev.freeOn (d : Dev) : Nat :=
  ((List.range 64).filter fun b => d.handable b && decide (d.owner b = 0) && decide (d.bankPwr b = 0)).length

/-- A released bank is cleared, and kept On while fewer than four free banks are, else Off (R525, R533). -/
def Dev.settleFree (d : Dev) (b : Nat) : Dev :=
  let d := (d.clearBank b).set (Reg.MEM_BANKOWN_PWR b) 2
  let d := d.modMem fun m => { m with claims := tput 0 m.claims b 0 }
  if d.freeOn < 4 then d.set (Reg.MEM_BANKOWN_PWR b) 0 else d

/-- The owner that a handover finds: the agent whose claim waits for the bank's wake, if one does (R525). -/
def Dev.holder (d : Dev) (b : Nat) : Nat :=
  let c := tget 0 d.mem.claims b
  if c ≠ 0 then c else d.owner b

/-- A compare-and-write of MEM_BANKOWN on the internal path (R523 to R525); `dma`: a DMA channel of the present owner still
targets the bank. The writer receives the owner found; a claim of a bank that is not On waits for its wake. -/
def bankHandover (b new compare : Nat) (dma : Bool) (d : Dev) : Dev :=
  let found := d.holder b
  let d := d.emit (.answer 0 0 [found])
  if found ≠ compare ∨ !d.handable b ∨ new = 31 ∨ dma then d
  else if new = 0 then (d.set (Reg.MEM_BANKOWN_OWNER b) 0).settleFree b
  else if d.owner b = 0 ∧ d.bankPwr b ≠ 0 then
    (d.set (Reg.MEM_BANKOWN_PWR b) 3).modMem fun m => { m with claims := tput 0 m.claims b new }
  else d.set (Reg.MEM_BANKOWN_OWNER b) new

/-- An owner requests Retention for its bank (R533). -/
def bankRetentionRequest (agent b : Nat) (d : Dev) : Dev :=
  if agent ≠ 0 ∧ d.owner b = agent ∧ d.bankPwr b = 0 ∧ !d.retired b then d.set (Reg.MEM_BANKOWN_PWR b) 1 else d

/-! ### The error log (R534 to R539) -/

/-- The words of a log entry. -/
def MemLog.words (e : MemLog) : List Nat :=
  [e.time % 2 ^ 32, e.time / 2 ^ 32 % 2 ^ 32,
   e.typ % 16 * 2 ^ 28 + e.port % 2 * 2 ^ 27 + e.agent % 32 * 2 ^ 22 + e.bank % 64 * 65536 + e.repeats % 256 * 256 +
     e.synd % 256,
   e.addr % 65536]

/-- MEM_LOGDATA presents the entry that MEM_LOGSEL selects. -/
def Dev.refreshLog (d : Dev) : Dev :=
  let ws := (tget {} d.mem.log (d.get Reg.MEM_LOGSEL_INDEX)).words
  forAll 4 d fun d w => d.set (Reg.MEM_LOGDATA_DATA w) (ws.getD w 0)

/-- A new entry, over the oldest; EV030 where the one overwritten was written after the host last read MEM_LOGHEAD (R538). -/
def Dev.logNew (d : Dev) (e : MemLog) : Dev :=
  let t := d.get Reg.MEM_LOGHEAD_TOTAL
  let lost := decide (64 ≤ t ∧ d.mem.readTotal ≤ t - 64)
  let d := d.modMem fun m => { m with log := tput {} m.log (t % 64) e, newest := if 7 ≤ e.typ then m.newest else tput 0 m.newest e.bank (t + 1) }
  let d := (d.set Reg.MEM_LOGHEAD_TOTAL (t + 1)).refreshLog
  if lost then d.raise 30 0 else d

/-- Logs an error of SRAM: a corrected one at the same word as that bank's newest entry within 1 s repeats it (R539). -/
def Dev.logError (d : Dev) (typ port agent b w synd : Nat) : Dev :=
  let k := tget 0 d.mem.newest b
  let t := d.get Reg.MEM_LOGHEAD_TOTAL
  let e := tget {} d.mem.log ((k - 1) % 64)
  let again := (typ = 1 ∨ typ = 3) ∧ k ≠ 0 ∧ t < k + 64 ∧ e.bank = b ∧ e.addr = w ∧ (e.typ = 1 ∨ e.typ = 3) ∧
    d.time < e.time + 1000000000
  let d := if typ = 5 ∨ typ = 6 then d else d.set (Reg.MEM_BANKERR_SYND b) synd
  if again then
    (d.modMem fun m => { m with log := tput {} m.log ((k - 1) % 64) { e with repeats := min 255 (e.repeats + 1) } }).refreshLog
  else d.logNew { time := d.time, typ := typ, port := port, agent := agent, bank := b, synd := synd, addr := w }

/-- A corrected error (R534, R539): logged and counted; EV017 once per hour at CETHR. -/
def Dev.corrected (d : Dev) (typ port agent b w synd : Nat) : Dev :=
  let d := d.logError typ port agent b w synd
  let now := d.now / 1000000000
  let ces := (tget [] d.mem.ces b).filter (fun t => decide (now < t + 3600)) ++ [now]
  let d := (d.modMem fun m => { m with ces := tput [] m.ces b ces }).setSat (Reg.MEM_BANKERR_CEHOUR b) ces.length
  let due : Bool := match tget none d.mem.lastCe b with
    | none => true
    | some t => decide (t + 3600 ≤ now)
  if d.get Reg.MEM_CECFG_CETHR ≤ ces.length ∧ due then
    (d.modMem fun m => { m with lastCe := tput none m.lastCe b (some now) }).raise 17 b
  else d

/-- MEM_BANKERR.CEHOUR counts the corrected errors of the last hour (R539). -/
def Dev.showErrors (d : Dev) (b : Nat) : Dev :=
  d.setSat (Reg.MEM_BANKERR_CEHOUR b) ((tget [] d.mem.ces b).filter fun t => decide (d.now / 1000000000 < t + 3600)).length

/-- An uncorrectable read (R535): logged, EV016, and the word is poisoned. -/
def Dev.uncorrectable (d : Dev) (port agent b w synd : Nat) : Dev :=
  (((d.setPoison b w true).addSat (Reg.MEM_BANKERR_UE b) 1).logError 2 port agent b w synd).raise 16 b

/-- Reads of MRAM (R547): a corrected block is written back, counted and logged; a block lost in one copy is rewritten from the
other, logged, with EV026. -/
def Dev.mramRead (d : Dev) (corrected rewritten : List Nat) : Dev :=
  let entry := fun (d : Dev) (typ block : Nat) => d.logNew { time := d.time, typ := typ, addr := block }
  let d := corrected.foldl (fun d b => entry (d.addSat Reg.MEM_MRAMSTAT_CORR 1) 7 b) d
  rewritten.foldl (fun d b => (entry (d.addSat Reg.MEM_MRAMSTAT_COPYLOST 1) 8 b).raise 26 0) d

/-- The Night Porter finds a word uncorrectable, in its lap or in a wake scrub: logged, and the word is left as it stands (R533, R535). -/
def Dev.scrubBad (d : Dev) (b w synd : Nat) : Dev :=
  ((((d.setPoison b w true).addSat (Reg.MEM_BANKERR_UE b) 1).logError 4 1 0 b w synd).raise 16 b).raise 19 b

/-- The same with a syndrome that no operand tells: it is free. -/
def Dev.scrubBadFree (d : Dev) (b w : Nat) : Dev :=
  let (k, d) := d.free
  d.scrubBad b w (Config.freeNat k % 256)

/-- A partial write or an alias operation finds a word uncorrectable: its bytes become zero, it is logged as PARTIAL (R529). -/
def Dev.cleanPartial (d : Dev) (agent b w : Nat) : Dev :=
  ((d.setPoison b w false).setSramWord b w 0).logError 5 (if agent = 13 ∨ agent = 14 then 1 else 0) agent b w 0

/-- Agents that may access a bank: its owner; DMA for its owner; in the host window bank every steward too (R522). -/
def Dev.mayAccess (d : Dev) (agent b : Nat) : Bool :=
  agent ≠ 0 && agent ≠ 31 && (decide (d.owner b = agent) || decide (agent = 13 ∧ d.owner b ≠ 0 ∧ d.owner b ≠ 31) ||
    (decide (b = d.get Reg.MEM_HOSTWIN_BANK) && decide (1 ≤ agent ∧ agent ≤ 8)))

/-- The bytes of a 64-bit word after a write of the bytes in a mask. -/
def mergeBytes (old data mask : Nat) : Nat :=
  ofLe ((List.range 8).map fun i => if mask.testBit i then (leBytes 8 data).getD i 0#8 else (leBytes 8 old).getD i 0#8)

/-- A run of bytes is written: a word that it covers whole ends a poison, a poisoned word that it covers in part is cleaned first (R529,
R535). -/
def Dev.writeRun (d : Dev) (agent b o : Nat) (bytes : List Byte) : Dev :=
  let hit := d.mem.poison.filter fun e => decide (e.1 / 32768 = b) && decide (8 * (e.1 % 32768) < o + bytes.length) && decide (o < 8 * (e.1 % 32768) + 8)
  let d := hit.foldl (fun d e =>
    let w := e.1 % 32768
    if o ≤ 8 * w ∧ 8 * w + 8 ≤ o + bytes.length then d.setPoison b w false else d.cleanPartial agent b w) d
  d.putSram b o bytes

/-- A word operation at the memory: a write narrower than 64 bits is a read-modify-write (R529), a write of all eight bytes reads nothing
and ends a poison (R535); an operation of an alias window returns the prior word to the writer (R530). -/
def Dev.wordOp (d : Dev) (agent b w : Nat) : WordOp → Dev
  | .write data mask bad =>
    let d := if mask = 255 then d.setPoison b w false else if bad ∨ d.poisoned b w then d.cleanPartial agent b w else d
    (d.setSramWord b w (mergeBytes (d.sramWord b w) data mask)).emit (.answer 0 0 [])
  | .bits mask set_ bad =>
    let d := if bad ∨ d.poisoned b w then d.cleanPartial agent b w else d
    let old := d.sramWord b w
    (d.setSramWord b w (if set_ then old ||| mask else old - (old &&& mask))).emit (.answer 0 0 [old])

/-- An access to a bank: refused to an agent without the right (R522); it waits while the bank wakes, and none is granted in a bank that is
Off or in Retention (R532). -/
def Dev.access (d : Dev) (x : BankAccess) : Dev :=
  if !d.mayAccess x.agent x.bank then d.emit (.answer 1 0 [])
  else match d.bankPwr x.bank with
    | 0 => d.wordOp x.agent x.bank x.word x.op
    | 3 => d.modMem fun m => { m with waiting := m.waiting ++ [x] }
    | _ => d

def partialWrite (agent b w data mask : Nat) (bad : Bool) (d : Dev) : Dev :=
  d.access { agent := agent, bank := b, word := w, op := .write data mask bad }

/-- A write through the bit-set or bit-clear window (R530). -/
def aliasBitOperation (agent b w mask : Nat) (set_ bad : Bool) (d : Dev) : Dev :=
  d.access { agent := agent, bank := b, word := w, op := .bits mask set_ bad }

/-- A bank that is On grants the accesses that waited for it (R532). -/
def Dev.grantWaiting (d : Dev) (b : Nat) : Dev :=
  let xs := d.mem.waiting.filter fun x => decide (x.bank = b)
  xs.foldl Dev.access (d.modMem fun m => { m with waiting := m.waiting.filter fun x => !decide (x.bank = b) })

/-- Some retirement copies a bank and its spare: both are On (R542). -/
def Dev.startCopy (d : Dev) : Dev :=
  match d.mem.move with
  | some x => if d.get Reg.MEM_RETSTAT_STATE = 1 ∧ d.bankPwr x.bank = 0 ∧ d.bankPwr x.spare = 0 then d.set Reg.MEM_RETSTAT_STATE 2 else d
  | none => d

/-- A waking bank is On (R532): from Off it is cleared; from Retention it is scrubbed, and `bad` are the words that the scrub
found uncorrectable and left poisoned (R533, R535). A free bank is woken only as one of the four of R533. -/
def bankWake (b : Nat) (bad : List Nat) (d : Dev) : Dev :=
  let p := d.bankPwr b
  let kept : Bool := p = 1 || decide ((d.mem.move.map (·.bank)) = some b)
  if p = 0 ∨ d.retired b ∨ (p = 2 ∧ d.owner b = 0 ∧ !(d.handable b && decide (d.freeOn < 4))) then d
  else
    let d := if kept then bad.foldl (fun d w => d.scrubBadFree b w) d else d.clearBank b
    let d := d.set (Reg.MEM_BANKOWN_PWR b) 0
    let c := tget 0 d.mem.claims b
    let d := if c ≠ 0 then (d.set (Reg.MEM_BANKOWN_OWNER b) c).modMem fun m => { m with claims := tput 0 m.claims b 0 } else d
    (d.grantWaiting b).startCopy

/-- The host's atomic operation on a 32-bit half of a host window word (R531); none on a bank that is not On (R532). -/
def Dev.atom (d : Dev) (mask : Nat) (set_ : Bool) : Dev :=
  let b := d.get Reg.MEM_HOSTWIN_BANK
  let o := 4 * d.get Reg.MEM_ATOMADDR_OFFSET
  if d.bankPwr b ≠ 0 then d
  else
  let d := if d.poisoned b (o / 8) then d.cleanPartial 14 b (o / 8) else d
  let old := ofLe (d.sramBytes b o 4)
  (d.putSram b o (leBytes 4 (if set_ then old ||| mask else old - (old &&& mask)))).set Reg.MEM_ATOMOLD_MASK old

def memAtomset (mask : Nat) (d : Dev) : Dev := d.atom mask true
def memAtomclr (mask : Nat) (d : Dev) : Dev := d.atom mask false

/-! ### The Night Porter (R528, R536, R537) -/

/-- A scrub read of a word of an On bank: 0 clean, 1 corrected, 2 uncorrectable. A correction changes no data: its write-back
lands only where no other write has reached the word (R528). -/
def nightPorterScrub (b w result synd : Nat) (d : Dev) : Dev :=
  if d.bankPwr b ≠ 0 then d
  else if result = 2 ∨ d.poisoned b w then
    d.scrubBad b w synd
  else if result = 1 then d.corrected 3 1 0 b w synd
  else d

def nightPorterLapEnd (d : Dev) : Dev :=
  let d := d.setSat Reg.MEM_PORTER_LAST ((d.now - d.mem.lapStart) / 100000000)
  (d.addSat Reg.MEM_PORTER_LAPS 1).modMem fun m => { m with lapStart := d.now }

def lapOverLapmax (d : Dev) : Dev := d.raise 18 0

/-! ### Retirement (R540 to R543) -/

/-- The lowest general spare that is free: neither retired nor in use. -/
def Dev.freeSpare (d : Dev) : Option Nat :=
  [56, 57, 58].find? fun b => !d.retired b && decide (d.get (Reg.MEM_BANKOWN_ROLE b) = 1)

/-- MEM_STATUS follows the roles. -/
def Dev.countBanks (d : Dev) : Dev :=
  let role := fun b => d.get (Reg.MEM_BANKOWN_ROLE b)
  let n := fun (p : Nat → Bool) => ((List.range 64).filter p).length
  let d := d.set Reg.MEM_STATUS_SPARES (n fun b => decide (56 ≤ b ∧ b ≤ 58 ∧ role b = 1))
  let d := d.set Reg.MEM_STATUS_SBSPARE (flag (decide (role 59 = 2)))
  d.set Reg.MEM_STATUS_GENERAL (n fun b => decide (role b = 0 ∨ role b = 4))

/-- A bank leaves service: owner 31, Off, listed as retired (R521, R543). -/
def Dev.dropBank (d : Dev) (b : Nat) : Dev :=
  let d := (d.clearBank b).setBit2 Reg.MEM_RETIRED_LO_RETIRED Reg.MEM_RETIRED_HI_RETIRED b true
  let d := (d.set (Reg.MEM_BANKOWN_OWNER b) 31).set (Reg.MEM_BANKOWN_PWR b) 2
  ((d.set (Reg.MEM_BANKOWN_ROLE b) 5).set (Reg.MEM_BANKOWN_LOGICAL b) 63).countBanks

/-- A spare takes a bank's role, logical bank, owner and power state, with its words where they are copied (R543). -/
def Dev.switchBank (d : Dev) (b spare : Nat) (copy : Bool) (pwr : Nat) : Dev :=
  let role := d.get (Reg.MEM_BANKOWN_ROLE b)
  let logical := d.get (Reg.MEM_BANKOWN_LOGICAL b)
  let own := d.owner b
  let cells := d.sram.filter fun e => e.1 / 262144 = b
  let pois := d.mem.poison.filter fun e => e.1 / 32768 = b
  let d := d.clearBank spare
  let d := if copy then
      { d with sram := cells.foldl (fun m e => tput 0#8 m (sramKey spare (e.1 % 262144)) e.2) d.sram }
    else d
  let d := if copy then d.modMem fun m => { m with
      poison := pois.foldl (fun p e => tput 0 p (wordKey spare (e.1 % 32768)) e.2) m.poison } else d
  let d := d.modMem fun m => { m with spareOf := tput 0 m.spareOf logical spare }
  let d := ((d.set (Reg.MEM_BANKOWN_ROLE spare) role).set (Reg.MEM_BANKOWN_LOGICAL spare) logical).set
    (Reg.MEM_BANKOWN_OWNER spare) own
  let d := d.set (Reg.MEM_BANKOWN_PWR spare) pwr
  let d := if role = 4 then d.set Reg.MEM_HOSTWIN_BANK spare else d
  let d := if d.bow.held ∧ d.bow.bank = b then { d with bow := { d.bow with bank := spare } } else d
  let d := d.dropBank b
  if (d.freeSpare = none ∧ spare < 59) ∨ spare = 59 then d.raise 23 spare else d

def Dev.retRefuse (d : Dev) (cause : Nat) : Dev := ((d.set Reg.MEM_RETSTAT_STATE 4).set Reg.MEM_RETSTAT_CAUSE cause).raise 21 0

/-- A retirement starts at its transaction's apply boundary (R540 to R542). -/
def Dev.startRetire (d : Dev) (b : Nat) : Dev :=
  let d := (((d.set Reg.MEM_RETSTAT_BANK b).set Reg.MEM_RETSTAT_CAUSE 0).set Reg.MEM_RETSTAT_PROGRESS 0).set Reg.MEM_RETSTAT_SPARE 0
  let role := d.get (Reg.MEM_BANKOWN_ROLE b)
  let done := fun (d : Dev) => (d.set Reg.MEM_RETSTAT_STATE 3).raise 20 b
  if d.retired b then d.retRefuse 2
  else if role = 1 ∨ role = 3 then done (d.dropBank b)
  else
    let spare := if role = 2 then (if d.retired 59 ∨ d.get (Reg.MEM_BANKOWN_ROLE 59) = 2 then none else some 59) else d.freeSpare
    match spare with
    | none =>
      if role = 2 then d.retRefuse 1
      else if d.owner b = 0 ∧ role = 0 then done (d.dropBank b)
      else d.retRefuse 3
    | some x =>
      let d := d.set Reg.MEM_RETSTAT_SPARE x
      if role = 0 ∧ (d.owner b = 0 ∨ d.bankPwr b = 2) then done (d.switchBank b x false (d.bankPwr b))
      else
        let d := d.modMem fun m => { m with move := some { bank := b, spare := x, retained := decide (d.bankPwr b = 1) } }
        let d := if d.bankPwr b = 1 then d.set (Reg.MEM_BANKOWN_PWR b) 3 else d
        (d.set (Reg.MEM_BANKOWN_PWR x) 3).set Reg.MEM_RETSTAT_STATE 1

/-- The copy has read every word of the bank: a poisoned one is logged, with EV016, and stays poisoned in the spare (R535, R543). A
Strongbox bank is not read: its spare is rebuilt from the MRAM partition (R541). -/
def Dev.copyReads (d : Dev) (b : Nat) : Dev :=
  if d.get (Reg.MEM_BANKOWN_ROLE b) = 2 then d.modMem fun m => { m with poison := m.poison.filter fun e => e.1 / 32768 ≠ b }
  else (d.mem.poison.filter fun e => decide (e.1 / 32768 = b)).foldl (fun d e =>
    let (k, d) := d.free
    d.uncorrectable 1 13 b (e.1 % 32768) (Config.freeNat k % 256)) d

/-- The last word is copied: the mapping switches and the retired list is written and verified (R543). A Strongbox bank is
rebuilt from the MRAM partition (R541). -/
def migrationSwitch (d : Dev) : Dev :=
  match d.mem.move with
  | some x =>
    if d.get Reg.MEM_RETSTAT_STATE = 2 then
      let d := d.copyReads x.bank
      let d := (d.switchBank x.bank x.spare true (if x.retained then 1 else 0)).modMem fun m => { m with move := none }
      ((d.set Reg.MEM_RETSTAT_PROGRESS 128).set Reg.MEM_RETSTAT_STATE 3).raise 20 x.bank
    else d
  | none => d

/-- A reset before the switch abandons a migration: the bank stays in service (R543). -/
def Dev.abandonMove (d : Dev) : Dev :=
  match d.mem.move with
  | some x =>
    let d := (d.modMem fun m => { m with move := none }).set (Reg.MEM_BANKOWN_PWR x.spare) 2
    let d := if d.bankPwr x.bank = 3 then d.set (Reg.MEM_BANKOWN_PWR x.bank) 1 else d
    d.set Reg.MEM_RETSTAT_STATE 5
  | none => d

/-- The mapping as Boot rebuilds it from the retired list (R519, R520, R543), with the host window in a general bank. -/
def Dev.rebuildBanks (d : Dev) (hostBank : Nat) : Dev :=
  let used := fun p => (d.mem.spareOf.find? fun e => e.2 = p).map (·.1)
  let d := forAll 64 d fun d b =>
    let (role, logical) :=
      if d.retired b then (5, 63)
      else if b < 56 then (0, b)
      else if b < 59 then (match used b with
        | some l => (0, l)
        | none => (1, 63))
      else if b = 59 then (match used b with
        | some l => (2, l)
        | none => (3, 63))
      else (2, b)
    let d := ((d.set (Reg.MEM_BANKOWN_ROLE b) role).set (Reg.MEM_BANKOWN_LOGICAL b) logical).set
      (Reg.MEM_BANKOWN_OWNER b) (if role = 5 then 31 else 0)
    d.set (Reg.MEM_BANKOWN_PWR b) 2
  let h := if d.get (Reg.MEM_BANKOWN_ROLE hostBank) = 0 then hostBank
    else ((List.range 59).find? fun b => d.get (Reg.MEM_BANKOWN_ROLE b) = 0).getD hostBank
  let d := ((d.set Reg.MEM_HOSTWIN_BANK h).set (Reg.MEM_BANKOWN_ROLE h) 4).set (Reg.MEM_BANKOWN_OWNER h) 14
  d.countBanks

/-! ### The Strongbox wipe (R549 to R552) -/

/-- The Strongbox is wiped: the meter key, the identities, the fabric device key and its certificate. The reference
coefficients come back from trim, which TAL_REF shows throughout. -/
def Dev.wipeBox (d : Dev) : Dev :=
  let d := forAll 4 { d with box := {}, fab := { d.fab with chain := none } } Dev.eraseId
  (d.set Reg.FAB_CERTSTAT_STATE 0).set Reg.MEM_TAMPSTAT_PENDING 0

/-- A tamper or shield trigger (R551). -/
def Dev.tamperWipe (d : Dev) : Dev := (d.wipeBox.addSat Reg.MEM_TAMPSTAT_WIPES 1).raise 28 0

/-- An enabled tamper input has held its tamper level for 10 µs (R550). -/
def tamper (k : Nat) (d : Dev) : Dev :=
  let was := d.bit Reg.MEM_TAMPSTAT_LEVEL k
  let d := d.setBit Reg.MEM_TAMPSTAT_LEVEL k true
  let d := if was then d else d.raise 29 0
  if d.bit Reg.MEM_TAMPCFG_EN k then (d.setBit Reg.MEM_TAMPSTAT_LATCH k true).tamperWipe else d

/-- The die shield mesh breaks: always armed (R550). -/
def shieldBreak (d : Dev) : Dev := ((d.set Reg.MEM_TAMPSTAT_SHIELD 1).raise 29 0).tamperWipe

/-- A tamper input changes state without a wipe (R553). -/
def tamperLevelChange (k : Nat) (pin : Bool) (d : Dev) : Dev :=
  let at_ := pin = d.bit Reg.MEM_TAMPCFG_POL k
  if d.bit Reg.MEM_TAMPSTAT_LEVEL k = decide at_ then d else (d.setBit Reg.MEM_TAMPSTAT_LEVEL k (decide at_)).raise 29 0

end Sys2Proof.Machine
end

