-- ==== Sys2Proof/Machine/Purse.lean ====
section
/-! DEFINITION. The Purse: the plan of each second, the battery, the demand window, the division across the fabric, the
device budget and the core rail (R25 to R27, R163 to R176, R514, R515, R655 to R657). Energies of counts are in mWh, joules
and watts are whole and rounded down. -/

namespace Sys2Proof.Machine

/-! ### Windows and counts -/

/-- The demand window in seconds. -/
def Dev.windowSec (d : Dev) : Nat := [300, 900, 1800, 3600].getD (d.get Reg.PRS_SITECFG_WIN) 900

/-- Start of the present window on the real-time clock (R163). -/
def Dev.windowStart (d : Dev) : Nat := d.rtc / d.windowSec * d.windowSec

/-- A module of a fabric configured for several stations (R56, R170). -/
def Dev.multi (d : Dev) : Bool := decide (1 < d.get Reg.FAB_SITECFG_STATIONS)

/-- Feeds this module meters (R407). -/
def Dev.feeds (d : Dev) : List Nat := (List.range 4).filter fun f => d.scopeOn (16 + f)

/-- The net draw count of the outlet scopes in mWh (R655); the counts of a scope that meters no longer stand still. -/
def Dev.drawCount (d : Dev) : Int := ((List.range 16).map d.netCount).foldl (· + ·) 0

/-- Joules of an energy in mWh. -/
def joules (mwh : Nat) : Nat := mwh * 36 / 10

/-- Import of each feed since the window began, or since metering resumed in it, in mWh (R656). -/
def Dev.windowImport (d : Dev) (f : Nat) : Nat := if d.purse.winOn.testBit f then d.impCount (16 + f) - tget 0 d.purse.winAt f else 0

/-- The feeds that this module meters and whose count in this window is not recorded yet record it: import that no module metered is
not counted (R656). -/
def Dev.recordFeeds (d : Dev) : Dev :=
  d.feeds.foldl (fun d f =>
    if d.purse.winOn.testBit f then d
    else d.modPurse fun p => { p with winAt := tput 0 p.winAt f (d.impCount (16 + f)), winOn := withBit p.winOn f true }) d

/-- A window begins: the counts at its start are recorded (R656). -/
def Dev.openWindow (d : Dev) : Dev :=
  let d := (d.modPurse fun p => { p with winStart := d.windowStart, winAt := [], winOn := 0 }).recordFeeds
  (d.set Reg.PRS_WINUSED_WH 0).set Reg.PRS_STATUS_WIN_ELAPSED (d.rtc - d.windowStart)

def demandWindowStart (d : Dev) : Dev := if d.purse.winStart = d.windowStart then d else d.openWindow

/-- A module that was not metering at the start of the window records its counts when metering resumes (R656). -/
def Dev.resumeWindow (d : Dev) : Dev := (demandWindowStart d).recordFeeds

/-- A feed's share in W for the round: its limit before the first plan and while a plan is stale; none for an absent feed
(R166, R167). -/
def Dev.feedShare (d : Dev) (f : Nat) : Option Nat :=
  let lim := d.get (Reg.PRS_FEEDLIM_KW f)
  if lim = 0 then none
  else if d.get Reg.PRS_STATUS_STALE = 1 ∨ !d.purse.planned then some (1000 * lim)
  else some (d.purse.feedShare.getD f (1000 * lim))

/-- PRS_FEEDLIM.SHARE: the share of the present round in kW. -/
def Dev.showFeeds (d : Dev) : Dev := forAll 4 d fun d f => d.setSat (Reg.PRS_FEEDLIM_SHARE f) ((d.feedShare f).getD 0 / 1000)

/-- The Purse starts at the end of Boot: no plan, the floor stands (R167); the first plan interval runs from here. -/
def Dev.startPurse (d : Dev) : Dev :=
  let d := d.modPurse fun p => { p with
    planned := false, planTime := d.time, feedAt := (List.range 4).map fun f => d.impCount (16 + f),
    drawAt := d.drawCount, feedOut := [], feedOutPlan := [], posts := [] }
  ((d.set Reg.PRS_STATUS_STALE 1).resumeWindow).showFeeds

/-- WINDOW_ON, PLAN_AGE, WIN_ELAPSED and the age of the battery offer follow the clocks. -/
def Dev.agePurse (d : Dev) : Dev :=
  let d := d.recordFeeds
  let p := d.purse
  let d := d.set Reg.PRS_STATUS_WINDOW_ON (flag (decide (d.get Reg.PRS_CONTRACT_KW ≠ 0)))
  let d := if p.planned then d.setSat Reg.PRS_STATUS_PLAN_AGE ((d.time - p.planTime) / 1000000000) else d
  let d := d.setSat Reg.PRS_STATUS_WIN_ELAPSED (d.rtc - p.winStart)
  match p.offerTime with
  | some t => (d.setSat Reg.PRS_BATT_AGE ((d.now - t) / 100000000)).set Reg.PRS_BATT_VALID (flag (decide (d.now ≤ t + 2000000000)))
  | none => d

/-! ### The battery (R165, R657) -/

/-- The value of a CAN field: bytes in transmission order, byte order and sign as the entry gives. -/
def canValue (m : CanMap) (bytes : List Byte) : Int :=
  let v := if m.big then ofBe bytes else ofLe bytes
  if m.signed then toSigned (8 * m.width) v else v

/-- The site-battery frame: one that ends before the field's last byte is ignored; a negative offer counts as 0. -/
def batteryOfferFrame (port : Nat) (f : CanFrame) (d : Dev) : Dev :=
  match d.tab.canMap.find? fun m => m.role = 1 with
  | none => d
  | some m =>
    if m.port = port ∧ f.id = m.id % 2 ^ 29 ∧ f.ide = m.id.testBit 30 ∧ m.offset + m.width ≤ f.data.length then
      let w := (canValue m ((f.data.drop m.offset).take m.width) * m.scale).toNat
      let d := d.modPurse fun p => { p with offerW := w, offerTime := some d.now }
      ((d.setSat Reg.PRS_BATT_OFFER_KW (w / 1000)).set Reg.PRS_BATT_AGE 0).set Reg.PRS_BATT_VALID 1
    else d

/-- The offer in force: one older than 2 s counts as 0. -/
def Dev.offer (d : Dev) : Nat :=
  match d.purse.offerTime with
  | some t => if d.now ≤ t + 2000000000 then d.purse.offerW else 0
  | none => 0

/-- Lengths of CAN data fields and their DLC codes: the shortest that covers a number of bytes. -/
def dlcFor (n : Nat) : Nat × Nat :=
  (((List.range 9).map (fun k => (k, k)) ++ [(9, 12), (10, 16), (11, 20), (12, 24), (13, 32), (14, 48)]).find?
    fun (p : Nat × Nat) => n ≤ p.2).getD (15, 64)

/-- The request frame of CANMAP role 2 with a power in W (R165). -/
def requestFrame (m : CanMap) (w : Nat) : CanFrame :=
  let top := 2 ^ (8 * m.width - (if m.signed then 1 else 0)) - 1
  let v := min top (w / m.scale)
  let field := if m.big then beBytes m.width v else leBytes m.width v
  let (dlc, len) := dlcFor (m.offset + m.width)
  { id := m.id % 2 ^ 29, ide := m.id.testBit 30, fdf := decide (8 < len), dlc := dlc,
    data := (List.replicate m.offset 0#8 ++ field ++ List.replicate 64 0#8).take len }

/-- The request takes its place among the device's own frames, the newest of an identifier over one that still waits. -/
def Dev.sendBattery (d : Dev) (w : Nat) : Dev :=
  match d.tab.canMap.find? fun m => m.role = 2 with
  | none => d
  | some m =>
    if m.scale = 0 ∨ !d.drives then d
    else
      let f := requestFrame m w
      d.modCan m.port fun c => { c with own := (c.own.filter fun x => x.id ≠ f.id ∨ x.ide ≠ f.ide) ++ [f] }

/-! ### The plan (R164, R655, R657, R166, R168, R172) -/

/-- The claims of the live outlets. -/
def Dev.claims (d : Dev) : List Claim := ((List.range 16).filter d.live).map d.claim

/-- E summed over the live outlets, or over those of one class. -/
def Dev.classDemand (d : Dev) (k : Nat) : Nat := ((d.claims.filter fun c => c.cls = k).map (·.e)).foldl (· + ·) 0

def Dev.floorW (d : Dev) : Nat := 1000 * d.get Reg.PRS_STATIONFLOOR_KW

/-- Posts of one station in one round resolve to the lower value of every field (R171); of two digests the lower is that whose
bytes, the first of highest weight, make the lower number. -/
def Post.lower (a b : Post) : Post :=
  { a with
    addr := min a.addr b.addr, digest := if ofBe a.digest ≤ ofBe b.digest then a.digest else b.digest,
    setDigest := min a.setDigest b.setDigest,
    demand := (a.demand.zip b.demand).map fun p => min p.1 p.2, floor := min a.floor b.floor,
    reservation := min a.reservation b.reservation, draw := min a.draw b.draw,
    feedPlan := (a.feedPlan.zip b.feedPlan).map fun p => min p.1 p.2,
    feedWin := (a.feedWin.zip b.feedWin).map fun p => min p.1 p.2 }

/-- The posted set of a round, one post per station in ascending station number. -/
def Dev.postedSet (d : Dev) (round : Nat) : List Post :=
  (List.range 32).filterMap fun s =>
    match d.purse.posts.filter fun p => decide (p.round = round ∧ p.station = s) with
    | [] => none
    | p :: ps => some (ps.foldl Post.lower p)

/-- The floors of the stations: those of every station that has posted (R168, R515), or the local one alone. -/
def Dev.siteFloors (d : Dev) : Nat :=
  if d.multi then (d.purse.lastPosts.map fun e => e.2.floor).foldl (· + ·) 0 else d.floorW

/-- The figures of a plan: import of each feed and net draw over the interval in mWh, its length in ns, import in the window. -/
structure PlanIn where
  feed : List Nat
  draw : Int
  len : Nat
  used : Nat
  demand : Nat
deriving DecidableEq, Repr

def sumL (xs : List Nat) : Nat := xs.foldl (· + ·) 0

/-- The plan instant of a second: the first round boundary at or after it, in ns of fabric time (R655). -/
def Dev.planInstant (d : Dev) (sec : Nat) : Nat :=
  let r := max 1 d.roundNs
  (sec * 1000000000 + r - 1) / r * r

/-- In a fabric the posted set carries the figures of the interval between the two plan instants before this one, the same for every
station (R169, R172). -/
def Dev.planIn (d : Dev) : PlanIn :=
  let p := d.purse
  let sec := d.time / 1000000000
  if d.multi then
    let set_ := d.postedSet (d.time / max 1 d.roundNs - 1)
    { feed := (List.range 4).map fun f => sumL (set_.map fun q => q.feedPlan.getD f 0),
      draw := (set_.map (·.draw)).foldl (· + ·) 0, len := d.planInstant (sec - 1) - d.planInstant (sec - 2),
      used := sumL (set_.map fun q => sumL q.feedWin), demand := sumL (set_.map fun q => sumL q.demand) }
  else
    { feed := (List.range 4).map fun f => if d.scopeOn (16 + f) then d.impCount (16 + f) - p.feedAt.getD f 0 else 0,
      draw := d.drawCount - p.drawAt, len := d.time - p.planTime, used := sumL (d.feeds.map d.windowImport),
      demand := sumL (d.claims.map (·.e)) }

/-- Energy in mWh over a length in ns as W, rounded down. -/
def watts (mwh : Int) (len : Nat) : Int := mwh * 3600000000 / (len : Int)

/-- Feed import less net draw as powers (R655); an interval of length 0 has no power, so that value is free. -/
def Dev.otherW (d : Dev) (feed draw : Int) (len : Nat) : Int × Dev :=
  if len = 0 then
    let (k, d) := d.free
    ((Config.freeNat k : Int), d)
  else (watts feed len - watts draw len, d)

/-- One plan (R164): the next second's budget, the feed shares, and the battery request. -/
def Dev.makePlan (d : Dev) : Dev :=
  let x := d.planIn
  let imp := 1000 * d.get Reg.PRS_IMPORTLIM_KW
  let contract := d.get Reg.PRS_CONTRACT_KW
  let win := d.windowSec
  let allow := contract * win * (1000 - d.get Reg.PRS_SITECFG_MARGIN)
  let used := joules x.used
  let pWin := (allow - used) / max 1 (win - (d.rtc - d.windowStart))
  let pPlan := if contract = 0 then imp else min imp pWin
  let (other, d) := d.otherW (sumL x.feed) x.draw x.len
  let offer := d.offer
  let budget := max 0 ((pPlan : Int) + offer - other)
  let floors := d.siteFloors
  let up := decide (budget < floors)
  let w := min budget (x.demand : Int)
  let request := min offer (max 0 (w - max 0 ((pPlan : Int) - other))).toNat
  -- the feed's other load and its share (R166): string energy in pJ, of the interval that the import is of
  let out := if d.multi then d.purse.feedOutPlan else d.purse.feedOut
  let share := fun f =>
    let fed : Int := (x.feed.getD f 0 : Int) * 3600000000
    let own := out.getD f 0 / 1000
    let load := if x.len = 0 then 0 else max 0 ((fed - own) / (x.len : Int))
    ((1000 * d.get (Reg.PRS_FEEDLIM_KW f) : Int) - load).toNat
  let p := d.purse
  let d := { d with purse := { p with
    planned := true, planTime := d.time, planSec := d.time / 1000000000, budget := max budget.toNat floors,
    planWin := decide (contract ≠ 0 ∧ pWin < imp), planImport := !decide (contract ≠ 0 ∧ pWin < imp), floorsUp := up,
    feedPlan := (List.range 4).map fun f => if d.scopeOn (16 + f) then d.impCount (16 + f) - p.feedAt.getD f 0 else 0,
    drawPlan := d.drawCount - p.drawAt, lastLen := d.time - p.planTime,
    feedAt := (List.range 4).map fun f => d.impCount (16 + f), drawAt := d.drawCount,
    feedShare := (List.range 4).map share, feedOut := [], feedOutPlan := p.feedOut } }
  let d := (d.setSat Reg.PRS_PLAN_W budget.toNat).setSat Reg.PRS_WINUSED_WH (x.used / 1000)
  let d := (((d.set Reg.PRS_STATUS_STALE 0).set Reg.PRS_STATUS_PLAN_AGE 0).showFeeds).sendBattery request
  if up then d.raise 10 (min budget.toNat (2 ^ 32 - 1)) else d

/-- The modes in which the Innkeeper and the Purse run their rounds. -/
def Mode.innkeeps : Mode → Bool
  | .commission | .standby | .idle | .serve | .island => true
  | _ => false

/-- SITE_PLAN: at the first round boundary at or after each whole second, once in a second (R655). -/
def sitePlan (d : Dev) : Dev :=
  if !d.mode.innkeeps ∨ (d.purse.planned ∧ d.purse.planSec = d.time / 1000000000) then d else d.makePlan

/-- A plan older than 3 s (R167): the floor stands and each feed's share is its limit. -/
def planStale (d : Dev) : Dev :=
  if d.get Reg.PRS_STATUS_STALE = 1 then d
  else ((d.set Reg.PRS_STATUS_STALE 1).showFeeds).raise 10 0

/-! ### Division (R169 to R173, R506, R514, R515) -/

/-- One station of a division. -/
structure Party where
  station : Nat := 0
  addr : Nat := 0
  floor : Nat := 0
  demand : List Nat := []
  reservation : Nat := 0
  guest : Bool := false
  missed : Nat := 0
  share : Nat := 0
  held : Nat := 0
deriving DecidableEq, Repr

/-- The demand of each class beyond a floor that is attributed to the highest class first. -/
def beyondFloor : Nat → List Nat → List Nat
  | _, [] => []
  | f, x :: xs => (x - f) :: beyondFloor (f - x) xs

/-- Watts by station for one class: in full, or in proportion to unmet demand and then nothing is left (R170). -/
def divideClass (left k : Nat) (ps : List Party) : Watts :=
  let wants := ps.map fun p => (p.station, (beyondFloor p.floor p.demand).getD k 0)
  let sum := sumL (wants.map (·.2))
  if sum ≤ left then wants.foldl (fun g w => tput 0 g w.1 w.2) []
  else shareProp left wants (fun s => ((wants.find? fun w => w.1 = s).map (·.2)).getD 0) []

/-- The classes in order. -/
def divideClasses (ps : List Party) : List Nat → Nat → Watts → Watts × Nat
  | [], left, g => (g, left)
  | k :: ks, left, g =>
    let h := divideClass left k ps
    divideClasses ps ks (left - total h) (h.foldl (fun g w => tput 0 g w.1 (tget 0 g w.1 + w.2)) g)

/-- Posted reservations in ascending station number (R170 step 4). -/
def divideHeld : List Party → Nat → List Party
  | [], _ => []
  | p :: ps, left => { p with held := min p.reservation left } :: divideHeld ps (left - min p.reservation left)

/-- The division of a site budget among the parties, in ascending station number (R170). -/
def divide (budget : Nat) (ps : List Party) : List Party :=
  let floors := sumL (ps.map (·.floor))
  let base : Watts :=
    if floors ≤ budget then ps.foldl (fun g p => tput 0 g p.station p.floor) []
    else shareProp budget (ps.map fun p => (p.station, p.floor)) (fun s => ((ps.find? fun p => p.station = s).map (·.floor)).getD 0) []
  let (g, left) := divideClasses ps [0, 1, 2, 3] (budget - total base) []
  divideHeld (ps.map fun p => { p with share := tget 0 base p.station + tget 0 g p.station }) left

/-- The local site digest (FAB_DIGEST). -/
def Dev.siteDigest (d : Dev) : List Byte := (List.range 8).flatMap fun w => leBytes 4 (d.get (Reg.FAB_DIGEST_DATA w))

/-- Halves a demand once for each missed round (R171). -/
def decay (k : Nat) (demand : List Nat) : List Nat := demand.map fun x => x / 2 ^ k

/-- The parties to the division of a posted set: stations of the set and those missing from it for fewer than 16 rounds; a
station of another site digest is a guest, and its demand is its floor. -/
def Dev.parties (d : Dev) : List Party :=
  ((List.range 32).filterMap fun s => (d.purse.lastPosts.find? fun e => e.1 = s).map (·.2)).filterMap fun q =>
    if 16 ≤ q.missed then none
    else
      let guest := decide (q.digest ≠ d.siteDigest)
      let dem := decay q.missed q.demand
      let dem := if q.missed ≠ 0 ∧ sumL dem < q.floor then [q.floor, 0, 0, 0] else dem
      some { station := q.station, addr := q.addr, floor := q.floor, demand := if guest then [q.floor, 0, 0, 0] else dem,
             reservation := if guest ∨ q.missed ≠ 0 then 0 else q.reservation, guest := guest, missed := q.missed }

/-- Takes the posted set of the round before into the last posts of each station (R171). -/
def Dev.takePosts (d : Dev) : Dev :=
  let set_ := d.postedSet (d.round - 1)
  let d := d.modPurse fun p => { p with
    lastPosts := p.lastPosts.map fun e => (e.1, { e.2 with missed := e.2.missed + 1 }) }
  let d := set_.foldl (fun d q => d.modPurse fun p => { p with lastPosts := tput {} p.lastPosts q.station { q with missed := 0 } }) d
  d.modPurse fun p => { p with posts := p.posts.filter fun q => decide (d.round ≤ q.round + 1) }

/-- The numbers of a posted set that its digest is taken over (R514). -/
def postNumbers (q : Post) : List Nat := [q.station, q.round, q.floor, q.reservation] ++ q.demand

/-- Reports a division in PRS_POST and PRS_SHAREOF by fabric address. -/
def Dev.reportDivision (d : Dev) (ps : List Party) : Dev :=
  let own := d.get Reg.FAB_CFG_STATION
  forAll 32 d fun d a =>
    match ps.find? fun p => p.addr = a with
    | none =>
      (((d.set (Reg.PRS_POST_STATE a) 0).set (Reg.PRS_POST_DEMAND_KW a) 0).set (Reg.PRS_SHAREOF_FLOOR_KW a) 0).set
        (Reg.PRS_SHAREOF_SHARE_KW a) 0
    | some p =>
      let d := d.setSat (Reg.PRS_POST_MISSED a) p.missed
      let d := d.set (Reg.PRS_POST_STATE a) (if p.station = own then 4 else if p.missed ≠ 0 then 3 else if p.guest then 2 else 1)
      let d := d.setSat (Reg.PRS_POST_DEMAND_KW a) (sumL p.demand / 1000)
      (d.setSat (Reg.PRS_SHAREOF_FLOOR_KW a) (p.floor / 1000)).setSat (Reg.PRS_SHAREOF_SHARE_KW a) (p.share / 1000)

/-- A posted set is complete: it holds this station's post and that of every station known to be synchronised and not in Island
(R173). -/
def Dev.setComplete (d : Dev) (set_ : List Post) : Bool :=
  (set_.any fun q => q.station = d.get Reg.FAB_CFG_STATION) &&
  d.fab.peers.all fun e => !e.2.known || !e.2.synced || e.2.inIsland || set_.any fun q => q.station = e.2.station

/-- The station share of a round (R167, R170, R173, R506, R514, R515). -/
def Dev.divideRound (d : Dev) : Dev :=
  let d := d.showFeeds
  let stale := decide (d.get Reg.PRS_STATUS_STALE = 1)
  if d.mode = .island then
    (d.modPurse fun p => { p with share := d.floorW, headroom := 0, waitSet := d.multi }).setSat Reg.PRS_SHARE_W d.floorW
  else if !d.multi then
    let s := if stale then d.floorW else d.purse.budget
    (d.modPurse fun p => { p with share := s, headroom := s }).setSat Reg.PRS_SHARE_W s
  else
    let set_ := d.postedSet (d.round - 1)
    let d := d.takePosts
    let own := d.get Reg.FAB_CFG_STATION
    let absent := sumL ((d.purse.lastPosts.filter fun e => decide (16 ≤ e.2.missed)).map fun e => e.2.floor)
    let ps := divide (d.purse.budget - absent) d.parties
    let d := (d.reportDivision ps).set Reg.PRS_FABSTAT_ROUND (d.round - 1)
    let (s, h) := match ps.find? fun p => p.station = own with
      | some p => if p.guest then (d.floorW, 0) else (p.share, p.held)
      | none => (d.floorW, 0)
    let guest := decide (d.get Reg.FAB_STATUS_GUEST = 1)
    let wait := d.purse.waitSet && !d.setComplete set_
    let s := if stale ∨ guest ∨ wait then d.floorW else s
    let s := if d.purse.capShare then min s d.purse.share else s
    let dig := Config.postDigest (set_.map postNumbers)
    (d.modPurse fun p => { p with
      share := s, headroom := if stale ∨ guest ∨ wait then 0 else h, capShare := false, setDigest := dig, waitSet := wait }).setSat
        Reg.PRS_SHARE_W s

/-- This station's post of the present round (R169). -/
def Dev.ownPost (d : Dev) : Post :=
  { addr := d.get Reg.FAB_STATUS_ADDR, station := d.get Reg.FAB_CFG_STATION, round := d.round,
    demand := if d.get Reg.FAB_STATUS_GUEST = 1 then [d.floorW, 0, 0, 0] else (List.range 4).map d.classDemand,
    floor := d.floorW, reservation := d.purse.request, digest := d.siteDigest,
    feedPlan := d.purse.feedPlan, feedWin := (List.range 4).map d.windowImport, draw := d.purse.drawPlan,
    setDigest := d.purse.setDigest }

/-- Posting: by flood, the keyholder only, and not in Island (R169, R173, R514). -/
def Dev.post (d : Dev) : Dev :=
  if !d.multi ∨ !d.drives ∨ d.mode = .island then d
  else
    let q := d.ownPost
    let d := d.modPurse fun p => { p with posts := p.posts ++ [q] }
    d.emit (.fabric 255 4 ([q.addr, q.station, q.round, q.floor, q.reservation, q.setDigest] ++ q.demand ++ q.feedPlan ++
      q.feedWin ++ [ofSigned 64 q.draw] ++ q.digest.map BitVec.toNat))

/-! ### Device scale (R25 to R27, R174, R175) -/

/-- The device budget in 0.01 W. -/
def Dev.devBudget (d : Dev) : Nat := 10 * d.get Reg.PRS_DEVCFG_BUDGET

/-- At least `ns` have passed since an event, if there was one. -/
def Dev.calmSince (d : Dev) (t : Option Nat) (ns : Nat) : Bool := match t with
  | some t => decide (t + ns ≤ d.now)
  | none => true

/-- The next work to power down (R174); a rail raised less than 1 s ago is not lowered (R25): kind 1 bank, 2 PLC front end, 3 T1S PHY, 4 one step of the core rail. -/
def Dev.nextShed (d : Dev) : Option (Nat × Nat) :=
  match (List.range 64).find? fun b => d.handable b && decide (d.owner b = 0) && decide (d.bankPwr b ≠ 2) with
  | some b => some (1, b)
  | none =>
    let idle := fun ty n => decide (d.get (Reg.OUT_CFG_TYPE n) = ty) && decide (d.get (Reg.OUT_SESS_CONN n) = 0) &&
      decide (d.get (Reg.VLK_LINK_LSTATE n) ≠ 0)
    match (List.range 16).find? (idle 1) with
    | some n => some (2, n)
    | none => match (List.range 16).find? (idle 2) with
      | some n => some (3, n)
      | none => if d.get Reg.PRS_DEVSTAT_RAIL ≠ 0 ∧ d.get Reg.PRS_DEVSTAT_HELD = 0 ∧ d.calmSince d.purse.raised 1000000000
        then some (4, 0) else none

/-- Powers one piece of work down. -/
def Dev.shedOne (d : Dev) (w : Nat × Nat) : Dev :=
  let d := d.modPurse fun p => { p with shedWork := w :: p.shedWork }
  match w.1 with
  | 1 => (d.clearBank w.2).set (Reg.MEM_BANKOWN_PWR w.2) 2
  | 4 => (d.set Reg.PRS_DEVSTAT_RAIL (d.get Reg.PRS_DEVSTAT_RAIL - 1)).modPurse fun p => { p with lowered := some d.now }
  | _ => d.set (Reg.VLK_LINK_LSTATE w.2) 0

/-- Powers work down until the power fits: the measured powers in 0.01 W, the first as it stands, each further one after one
piece of work more. -/
def Dev.shedUntil (d : Dev) : List Nat → Dev
  | [] => d
  | cw :: rest =>
    let d := d.setSat Reg.PRS_DEVPOWER_CW cw
    if cw ≤ d.devBudget then d
    else match d.nextShed with
      | some w => (d.shedOne w).shedUntil rest
      | none => d

/-- Device power above its budget for 10 ms (R174). -/
def deviceOverBudget (powers : List Nat) (d : Dev) : Dev :=
  let e := d.shedUntil powers
  if d.purse.shedWork.length < e.purse.shedWork.length then e.raise 14 0 else e

/-- Device power at least 1 W below its budget for 1 s (R174): the piece of work powered down last is powered up. -/
def deviceUnderBudget (power : Nat) (d : Dev) : Dev :=
  let d := d.setSat Reg.PRS_DEVPOWER_CW power
  if d.devBudget < power + 100 then d
  else match d.purse.shedWork with
    | [] => d
    | w :: rest =>
      let d := d.modPurse fun p => { p with shedWork := rest }
      match w.1 with
      | 1 => if d.owner w.2 = 0 ∧ d.handable w.2 then d.set (Reg.MEM_BANKOWN_PWR w.2) 0 else d
      | 4 =>
        let d := if d.get Reg.PRS_DEVSTAT_HELD = 1 then d
          else (d.set Reg.PRS_DEVSTAT_RAIL (min 40 (d.get Reg.PRS_DEVSTAT_RAIL + 1))).modPurse fun p => { p with raised := some d.now }
        if rest.any fun x => x.1 = 4 then d else d.set Reg.PRS_DEVSTAT_BELOW_TARGET 0
      | _ => d.wakeLink w.2

/-- A pilot or CE state change wakes the outlet's front end or PHY (R175). -/
def frontEndWake (n : Nat) (d : Dev) : Dev :=
  (d.wakeLink n).modPurse fun p => { p with shedWork := p.shedWork.filter fun w => !((w.1 = 2 || w.1 = 3) && w.2 = n) }

/-- The canary laps counted in 10 µs, every 100 µs (R25, R26): the measured path in ns against the target and the budget,
compared exactly; none of it while the rail is held at 0.90 V (R27). A rail that the device budget has lowered is not raised: where
its path exceeds the target it stands below its target, with EV007 (R26). -/
def canaryMeasurement (laps : Nat) (d : Dev) : Dev :=
  let scale := d.get Reg.PRS_CANARY_SCALE
  let d := if laps = 0 then d.set Reg.PRS_DEVSTAT_PATH_NS 65535
    else d.setSat Reg.PRS_DEVSTAT_PATH_NS (quot (10000 * scale) (4096 * laps)).toNat
  let budget := 10 * d.get Reg.PRS_DEVCFG_LATBUDGET
  let margin := d.get Reg.PRS_DEVCFG_MARGIN
  -- path, target and 95 % of the target, each × 4096 × laps × 10,000
  let path := 10000 * scale * 10000
  let target := budget * (100 - margin) * 100 * 4096 * laps
  let rail := d.get Reg.PRS_DEVSTAT_RAIL
  let raise_ := fun (d : Dev) r => (d.set Reg.PRS_DEVSTAT_RAIL r).modPurse fun p => { p with raised := some d.now }
  let held := d.purse.shedWork.any fun w => w.1 = 4
  let slow := decide (laps = 0 ∨ target < path)
  let below := decide (d.get Reg.PRS_DEVSTAT_BELOW_TARGET = 1)
  if d.get Reg.PRS_DEVSTAT_HELD = 1 then d
  else if held && slow then (if below then d else (d.set Reg.PRS_DEVSTAT_BELOW_TARGET 1).raise 7 0)
  else
  let d := if below then d.set Reg.PRS_DEVSTAT_BELOW_TARGET 0 else d
  if laps = 0 ∨ budget * 10000 * 4096 * laps < path then (if rail = 40 then d else raise_ d 40)
  else if target < path then (if rail = 40 then d else raise_ d (rail + 1))
  else if 100 * path < 95 * target ∧ 0 < rail ∧ d.calmSince d.purse.raised 1000000000 ∧ d.calmSince d.purse.lowered 10000000 then
    (d.set Reg.PRS_DEVSTAT_RAIL (rail - 1)).modPurse fun p => { p with lowered := some d.now }
  else d

/-- The rail is held at 0.90 V until the next Selftest (R27). -/
def Dev.holdRail (d : Dev) : Dev :=
  let d := ((d.set Reg.PRS_DEVSTAT_RAIL 40).set Reg.PRS_DEVSTAT_BELOW_TARGET 0).modPurse fun p => { p with
    shedWork := p.shedWork.filter fun w => w.1 ≠ 4 }
  if d.get Reg.PRS_DEVSTAT_HELD = 1 then d else (d.set Reg.PRS_DEVSTAT_HELD 1).raise 7 0

/-- The canary ring has not lapped for 100 µs (R27). -/
def canaryStall (d : Dev) : Dev := d.holdRail

end Sys2Proof.Machine
end

