-- ==== Sys2Proof/Machine/Supply.lean ====
section
/-! DEFINITION. Supply and rails, auxiliary switches, the 3.3 V outputs, crystals and the JTAG port (R589 to R610, R625 to
R629). -/

namespace Sys2Proof.Machine

/-! ### VSUP and the rails -/

/-- A new 1 ms mean of VSUP in 10 mV, and the lowest since MIN was last read; 0 in MIN stands for none yet. -/
def Dev.noteVsup (d : Dev) (v : Nat) : Dev :=
  let low := d.get Reg.PWR_VSUP_MIN
  (d.setSat Reg.PWR_VSUP_VSUP v).setSat Reg.PWR_VSUP_MIN (if low = 0 then v else min low v)

/-- VSUP in mV lies outside the operating range, or within it again (R589). -/
def vsupRangeChange (mv : Int) (d : Dev) : Dev :=
  let out := decide (mv < 16000 ∨ 32000 < mv)
  let d := d.noteVsup (mv.toNat / 10)
  if d.get Reg.PWR_STATUS_RANGE = flag out then d else (d.set Reg.PWR_STATUS_RANGE (flag out)).raise 112 0

/-- VSUP beyond the absolute maximum ratings: above 36 V, or reversed by more than 32 V (R589, R633). -/
def beyondAbsMax (mv : Int) : Bool := decide (36000 < mv ∨ mv < -32000)

/-- The register field of a rail: 0 V5 in 25 mV, 1 V33 in 20 mV, 2 V18 in 10 mV, 3 VCORE in 5 mV. -/
def railField : Nat → Fld × Nat
  | 0 => (Reg.PWR_RAIL_V5, 25)
  | 1 => (Reg.PWR_RAIL_V33, 20)
  | 2 => (Reg.PWR_RAIL_V18, 10)
  | _ => (Reg.PWR_RAIL_VCORE, 5)

/-- A rail in mV has lain outside ±10 % for 20 µs, or lies within it again (R593): the core-rail undervoltage line. The core rail
itself is only read here: at or above 0.47 V its undervoltage is over (R88). -/
def railFault (rail mv : Nat) (out : Bool) (d : Dev) : Dev :=
  let (f, lsb) := railField rail
  let d := d.setSat f (mv / lsb)
  if 3 ≤ rail then (if 470 ≤ mv then d.condition 2 false else d)
  else if !out then d.setBit Reg.PWR_STATUS_RAILFLT rail false
  else if d.bit Reg.PWR_STATUS_RAILFLT rail then d
  else ((d.setBit Reg.PWR_STATUS_RAILFLT rail true).raise 113 0).demand 2

/-! ### Auxiliary switches -/

/-- N of R601 in cycles of TB11, round(2,000,000 / FREQ); a tie rounds up. -/
def auxCycles (freq : Nat) : Nat := (2 * 2000000 + freq) / (2 * freq)

/-- The on-time of a PWM or lamp channel in cycles of TB11, round(duty × N / 10,000) (R601). -/
def auxOnTime (duty n : Nat) : Nat := (2 * duty * n + 10000) / 20000

/-- The start of channel j of a bank after channel 0, in cycles (R601). -/
def auxStagger (j n : Nat) : Nat := j * n / 8

/-- The duty applied to a channel: in lamp mode the one of R602, else the commanded one. -/
def Dev.auxApplied_ (d : Dev) (ch : Nat) : Nat :=
  if d.get (Reg.AUX_CHCFG_MODE ch) = 2 then tget 0 d.auxApplied ch else d.get (Reg.AUX_CHOUT_DUTY ch)

/-- min(10,000, duty × (VNOM / VSUP)²), floored; VNOM in 0.1 V, VSUP in 10 mV (R602). -/
def lampDuty (duty vnom vsup : Nat) : Nat :=
  if vsup = 0 then (if duty = 0 then 0 else 10000) else min 10000 (duty * (10 * vnom) ^ 2 / vsup ^ 2)

/-- Every 1 ms: the lamp channels follow the mean of VSUP, in 10 mV (R602). -/
def lampDutyUpdate (vsup : Nat) (d : Dev) : Dev :=
  forAll 48 (d.noteVsup vsup) fun d ch =>
    let v := if d.get (Reg.AUX_CHCFG_MODE ch) = 2 then lampDuty (d.get (Reg.AUX_CHOUT_DUTY ch)) (d.get Reg.AUX_CFG_VNOM) vsup else 0
    { d with auxApplied := tput 0 d.auxApplied ch v }

/-- Latches a fault of a channel: 1 SC or over-temperature, 2 STB, 3 SUM (R604 to R607). A fault that stands is kept. -/
def Dev.auxFault (d : Dev) (ch code : Nat) : Dev :=
  let d := { d with auxFaultAt := tput 0 d.auxFaultAt ch (d.period + 1) }
  if 48 ≤ ch ∨ d.get (Reg.AUX_CHOUT_FAULT ch) ≠ 0 then d
  else ((d.set (Reg.AUX_CHOUT_FAULT ch) code).setBit2 Reg.AUX_FLT_LO_BITS Reg.AUX_FLT_HI_BITS ch true).setBit2
    Reg.AUX_ON_LO_BITS Reg.AUX_ON_HI_BITS ch false

/-- Current limit for ILIMT, or the channel's own temperature sensor (R604). -/
def auxCurrentLimit (ch : Nat) (d : Dev) : Dev :=
  if d.get (Reg.AUX_CHOUT_FAULT ch) ≠ 0 then d.auxFault ch 1 else (d.auxFault ch 1).raise 114 0

/-- Commanded off in on/off mode and above VSUP / 2 for 10 ms (R605). -/
def auxShortToVsup (ch : Nat) (d : Dev) : Dev :=
  if d.get (Reg.AUX_CHCFG_MODE ch) ≠ 0 ∨ d.get (Reg.AUX_CHOUT_DUTY ch) ≠ 0 ∨ (d.auxShared ch ∧ !d.drives) ∨
      d.get (Reg.AUX_CHOUT_FAULT ch) ≠ 0 then d
  else (d.auxFault ch 2).raise 114 0

/-- Channels switched off for the aggregate: from the highest number down, ties and locks skipped, until at most 16.0 A flow.
Currents in 10 mA by channel; `rest` what still flows (R606). -/
def Dev.sumOff (d : Dev) (currents : List Nat) : List Nat → Nat → Dev
  | [], _ => d
  | ch :: more, rest =>
    let user := d.get (Reg.AUX_CHCFG_USER ch)
    if rest ≤ 1600 then d
    else if user = 1 ∨ user = 2 ∨ !d.bit2 Reg.AUX_ON_LO_BITS Reg.AUX_ON_HI_BITS ch then d.sumOff currents more rest
    else (d.auxFault ch 3).sumOff currents more (rest - currents.getD ch 0)

/-- The channels' currents over the last 1 ms in 10 mA; above 16.0 A for 10 ms channels are switched off (R606). -/
def auxAggregateLimit (currents : List Nat) (d : Dev) : Dev :=
  let currents := currents.take 48
  let total := currents.foldl (· + ·) 0
  let d := forAll 48 d fun d ch => d.setSat (Reg.AUX_CHOUT_CURRENT ch) (currents.getD ch 0)
  let d := (d.setSat Reg.AUX_TOTAL_NOW total).setSat Reg.AUX_TOTAL_PEAK (max (d.get Reg.AUX_TOTAL_PEAK) total)
  if total ≤ 1600 then d else (d.sumOff currents (List.range 48).reverse total).raise 115 0

/-- A host write of a duty (R603): a host channel of the module that drives takes it at the next control-period boundary, and a
keyholder forwards it. A duty above 10,000 is refused with code 5. -/
def auxDutyWrite (ch duty : Nat) (d : Dev) : Dev :=
  if 10000 < duty then (d.set Reg.SYS_REFUSE_CODE 5).set Reg.SYS_REFUSE_ADDR ((Reg.AUX_CHOUT_DUTY ch).key / 32)
  else if d.get (Reg.AUX_CHCFG_USER ch) ≠ 0 ∨ !d.drives then d
  else
    let d := { d with auxNext := tput none d.auxNext ch (some duty) }
    if d.duplex then d.emit (.twin 5 [ch, duty]) else d

/-- The duties that waited take effect at a control-period boundary. -/
def Dev.applyDuties (d : Dev) : Dev :=
  d.auxNext.foldl (fun d p => match p.2 with
    | some v => d.commandAux p.1 v
    | none => d) { d with auxNext := [] }

/-- The host clears a channel's fault bit; `absent`: the condition is absent (R604, R605). A fault of the same control period prevails
(R607). -/
def auxFaultClear (ch : Nat) (absent : Bool) (d : Dev) : Dev :=
  if absent ∧ ch < 48 ∧ tget 0 d.auxFaultAt ch ≠ d.period + 1 then
    ((d.set (Reg.AUX_CHOUT_FAULT ch) 0).setBit2 Reg.AUX_FLT_LO_BITS Reg.AUX_FLT_HI_BITS ch false).showAux ch
  else d

/-- Boot applies the policy of each channel (R557, R610): 0 KEEP, 1 SET OFF, 2 SET ON; with no image every channel is off. -/
def Dev.applyAuxBoot (d : Dev) (policy : Option (List Nat)) : Dev :=
  let put := fun (d : Dev) ch duty => (d.set (Reg.AUX_CHOUT_DUTY ch) duty).setBit2 Reg.AUX_ON_LO_BITS Reg.AUX_ON_HI_BITS ch
    (decide (duty ≠ 0) && decide (d.get (Reg.AUX_CHOUT_FAULT ch) = 0))
  match policy with
  | none => forAll 48 d fun d ch => put d ch 0
  | some ps => forAll 48 d fun d ch => match ps.getD ch 0 with
    | 1 => put d ch 0
    | 2 => put d ch 10000
    | _ => d

/-! ### Other pins -/

/-- A 3.3 V output reads back other than driven for 1 ms (R595). -/
def outputShort (d : Dev) : Dev := d.raise 119 0

/-- The 32.768 kHz crystal stops, or runs again (R32, R625). -/
def tb9ReferenceLoss (lost : Bool) (d : Dev) : Dev :=
  if lost then d.timebaseFault 9 else d.setBit Reg.TB_STATUS_FAULT 9 false

/-- Instructions that act on the balls are honoured only in Blank and Decommissioned (R629). -/
def Jtag.restricted : Jtag → Bool
  | .extest | .intest | .clamp => true
  | _ => false

/-- An instruction shifted into the TAP (R629). One that is not honoured selects BYPASS (PRESUMED, IEEE 1149.1). IDCODE
returns SYS_ID with bit 0 set. -/
def jtagInstruction (i : Jtag) (d : Dev) : Dev :=
  let open_ := decide (d.lifecycle = 0 ∨ d.lifecycle = 3)
  let i := if i.restricted && !open_ then .bypass else i
  let d := { d with jtag := i }
  if i = .idcode then d.emit (.jtag (d.word 0x40000000 ||| 1)) else d

end Sys2Proof.Machine
end

