-- ==== Sys2Proof/Machine/Can.lean ====
section
/-! DEFINITION. The CAN FD ports: reception and its users, transmission, error states (R611 to R618). -/

namespace Sys2Proof.Machine

/-! ### The record of CAN_RXDATA and CAN_TXDATA -/

/-- The 19 words of a frame. -/
def CanFrame.words (f : CanFrame) : List Nat :=
  let bytes := f.data ++ List.replicate (64 - f.data.length) 0#8
  [flag f.ide * 2 ^ 31 + flag f.fdf * 2 ^ 30 + flag f.brs * 2 ^ 29 + f.id % 2 ^ 29,
   flag f.esi * 2 ^ 31 + flag f.rtr * 2 ^ 30 + f.dlc % 16 * 2 ^ 16 + f.data.length % 128,
   f.stamp % 2 ^ 32] ++
  (List.range 16).map fun w => ofLe ((bytes.drop (4 * w)).take 4)

/-- The frame that 19 words spell. -/
def CanFrame.ofWords (ws : List Nat) : CanFrame :=
  let w0 := ws.getD 0 0
  let w1 := ws.getD 1 0
  { id := w0 % 2 ^ 29, ide := w0.testBit 31, fdf := w0.testBit 30, brs := w0.testBit 29, dlc := w1 / 2 ^ 16 % 16,
    data := (((List.range 16).flatMap fun w => leBytes 4 (ws.getD (3 + w) 0)).take (w1 % 128)) }

/-- The identifier by which frames are ordered and arbitrate, in ISO 11898-1's order: the 11 base bits, then a base frame
before an extended one, then the other 18 bits (R616). -/
def CanFrame.rank (f : CanFrame) : Nat := (f.id / 2 ^ 18 * 2 + flag f.ide) * 2 ^ 18 + f.id % 2 ^ 18

/-- The port's registers follow its FIFO. -/
def Dev.showFifo (d : Dev) (k : Nat) : Dev :=
  let q := (d.canPort k).fifo
  let d := d.set (Reg.CAN_RXSTAT_COUNT k) q.length
  let ws := match q with
    | f :: _ => f.words
    | [] => []
  forAll 19 d fun d w => d.set (Reg.CAN_RXDATA_DATA k w) (ws.getD w 0)

/-! ### Reception -/

/-- An enabled host filter matches the frame (R617). -/
def Dev.filterHit (d : Dev) (k : Nat) (f : CanFrame) : Bool :=
  (List.range 8).any fun i =>
    decide (d.get (Reg.CAN_FILT_EN k i) = 1) && (decide (d.get (Reg.CAN_FILT_IDE k i) = 1) == f.ide) &&
    decide (f.id &&& d.get (Reg.CAN_MASK_ID k i) = d.get (Reg.CAN_FILT_ID k i) &&& d.get (Reg.CAN_MASK_ID k i))

/-- A frame has a TAB identifier: bit 30 the IDE, bits 28:0 the identifier, as CAN_FILT lays them out. -/
def CanFrame.is (f : CanFrame) (id : Nat) : Bool := decide (f.id = id % 2 ^ 29) && (f.ide == id.testBit 30)

/-- The ties whose feedback the frame carries (R104, R557). -/
def Dev.canTies (d : Dev) (k : Nat) (f : CanFrame) : Dev :=
  d.tab.ties.foldl (fun d t =>
    if t.can ∧ t.line = k ∧ f.is t.canId ∧ t.bit / 8 < f.data.length then
      let level := (f.data.getD (t.bit / 8) 0#8).getLsbD (t.bit % 8)
      tieFeedbackConfirmed t.tie (level != decide (t.polarity = 1)) d
    else d) d

/-- The safe frame a SAFECONN entry takes from the port (R458). -/
def Dev.canSafe (d : Dev) (k : Nat) (f : CanFrame) : Dev :=
  if d.tab.conns.any fun c =>
      f.is c.addr && decide (d.get (if c.carrier = 0 then Reg.SAF_CONNCFG_CARA c.conn else Reg.SAF_CONNCFG_CARB c.conn) = 2 + k) then
    safeFrameReceived (2 + k) f.data d
  else d

/-- The host FIFO of 64 frames (R617). -/
def Dev.pushFifo (d : Dev) (k : Nat) (f : CanFrame) : Dev :=
  if 64 ≤ (d.canPort k).fifo.length then (d.addSat (Reg.CAN_RXSTAT_OVF k) 1).raiseCan k 2
  else (d.modCan k fun c => { c with fifo := c.fifo ++ [f] }).showFifo k

/-- A frame reaches the port (R615, R617): its device users, and the host FIFO where a filter matches. A disabled port and one
in bus-off receive nothing. -/
def canFrameReceived (k : Nat) (f : CanFrame) (d : Dev) : Dev :=
  if 2 ≤ d.get (Reg.CAN_PSTAT_STATE k) ∨ d.get (Reg.CAN_CFG_EN k) = 0 then d
  else
    let d := d.tbRun 6
    let f := { f with stamp := d.time / 1000 % 2 ^ 32 }
    let d := if f.rtr then d else ((d.canTies k f).canSafe k f)
    let d := if f.rtr then d else batteryOfferFrame k f d
    if d.filterHit k f then d.pushFifo k f else d

/-- The host removes the oldest frame. -/
def canRxstatPop (k : Nat) (d : Dev) : Dev :=
  (d.modCan k fun c => { c with fifo := c.fifo.drop 1 }).showFifo k

/-! ### Transmission -/

/-- The host queues the frame in CAN_TXDATA; refused while one is pending. A remote frame is received only, and a payload above
64 bytes is no frame. -/
def canTxcmdSend (k : Nat) (d : Dev) : Dev :=
  if d.get (Reg.CAN_TXCMD_STATE k) = 1 then
    (d.set Reg.SYS_REFUSE_CODE 1).set Reg.SYS_REFUSE_ADDR ((Reg.CAN_TXCMD_SEND k).key / 32)
  else
    let f := CanFrame.ofWords ((List.range 19).map fun w => d.get (Reg.CAN_TXDATA_DATA k w))
    (d.modCan k fun c => { c with host := some f }).set (Reg.CAN_TXCMD_STATE k) 1

/-- The pending frame that the port offers: the one of lowest identifier; the host's yields to the device's own (R616). -/
def CanPort.offer (c : CanPort) : Option (Bool × CanFrame) :=
  let own := c.own.foldl (fun (b : Option CanFrame) f => match b with
    | some x => if f.rank < x.rank then some f else b
    | none => some f) none
  match own, c.host with
  | some x, some h => if h.rank < x.rank then some (true, h) else some (false, x)
  | some x, none => some (false, x)
  | none, some h => some (true, h)
  | none, none => none

/-- The port may transmit: enabled, not in bus-off, and not the listen-only port of a lodger (R471). -/
def Dev.canMaySend (d : Dev) (k : Nat) : Bool :=
  decide (d.get (Reg.CAN_CFG_EN k) = 1) && decide (d.get (Reg.CAN_PSTAT_STATE k) < 2) && d.drives

/-- The transmission of the offered frame ends: `ok`, or its attempts are exhausted (R614, R615). -/
def canFrameSent (k : Nat) (ok : Bool) (d : Dev) : Dev :=
  if !d.canMaySend k then d
  else match (d.canPort k).offer with
    | none => d
    | some (host, f) =>
      let d := d.tbRun 6
      let f := { f with stamp := d.time / 1000 % 2 ^ 32 }
      let d := if host then d.modCan k fun c => { c with host := none }
        else d.modCan k fun c => { c with own := c.own.filter fun x => x.rank ≠ f.rank }
      if ok then
        let d := d.emit (.can k f)
        if host then (d.set (Reg.CAN_TXCMD_STATE k) 2).set (Reg.CAN_TXDATA_DATA k 2) f.stamp else d
      else
        let d := d.addSat (Reg.CAN_PSTAT_DROPPED k) 1
        (if host then d.set (Reg.CAN_TXCMD_STATE k) 3 else d).raiseCan k 3

/-! ### Error states (R618) -/

def canBusOff (k : Nat) (d : Dev) : Dev :=
  if 2 ≤ d.get (Reg.CAN_PSTAT_STATE k) then d
  else ((d.set (Reg.CAN_PSTAT_STATE k) 2).set (Reg.CAN_PSTAT_TEC k) 255).raiseCan k 0

/-- 128 occurrences of 11 recessive bits: error active with both counters at 0 (ISO 11898-1). -/
def canBusOffRecovery (k : Nat) (d : Dev) : Dev :=
  if d.get (Reg.CAN_PSTAT_STATE k) = 2 then
    ((d.set (Reg.CAN_PSTAT_STATE k) 0).set (Reg.CAN_PSTAT_TEC k) 0).set (Reg.CAN_PSTAT_REC k) 0
  else d

/-- The counters put the port into error passive: above 127 (ISO 11898-1); or they show that it is error active. -/
def canErrorPassive (k tec rec : Nat) (d : Dev) : Dev :=
  if 2 ≤ d.get (Reg.CAN_PSTAT_STATE k) then d
  else
    let d := (d.setSat (Reg.CAN_PSTAT_TEC k) tec).setSat (Reg.CAN_PSTAT_REC k) rec
    if 127 < tec ∨ 127 < rec then
      if d.get (Reg.CAN_PSTAT_STATE k) = 1 then d else (d.set (Reg.CAN_PSTAT_STATE k) 1).raiseCan k 1
    else d.set (Reg.CAN_PSTAT_STATE k) 0

/-- The state of every port after its configuration takes effect: disabled, or error active with both counters at 0; listen-only
in a lodger (R471). -/
def Dev.settleCan (d : Dev) : Dev :=
  forAll 4 d fun d k =>
    let d := d.set (Reg.CAN_CFG_LISTEN k) (flag (!d.drives))
    if d.get (Reg.CAN_CFG_EN k) = 0 then d.set (Reg.CAN_PSTAT_STATE k) 3
    else if d.get (Reg.CAN_PSTAT_STATE k) = 3 then
      ((d.set (Reg.CAN_PSTAT_STATE k) 0).set (Reg.CAN_PSTAT_TEC k) 0).set (Reg.CAN_PSTAT_REC k) 0
    else d

end Sys2Proof.Machine
end

