-- ==== Sys2Proof/Machine/RegRanges.lean ====
section
/-! DEFINITION. The value ranges that the register maps and rules state for configuration fields (R567, code 5). -/

namespace Sys2Proof.Machine

/-- Stated ranges, part 1. -/
def rangePart1 : List (Nat × Nat × Nat × Nat) := [
  (0x40020200, 0, 0, 10),
  (0x40030010, 0, 1, 600),
  (0x40040018, 0, 1, 3600),
  (0x40040038, 0, 1, 255),
  (0x40050010, 0, 16, 100),
  (0x40060008, 0, 1, 255),
  (0x40060008, 8, 1, 255),
  (0x40060008, 16, 1, 255),
  (0x4006000C, 0, 1, 10),
  (0x40080014, 0, 1, 15),
  (0x40080014, 4, 1, 31),
  (0x40080014, 9, 1, 31),
  (0x40080014, 14, 1, 31),
  (0x40080014, 19, 1, 31),
  (0x40080014, 24, 1, 7),
  (0x40080014, 27, 1, 31),
  (0x40080018, 0, 1, 16),
  (0x4008001C, 0, 1, 15),
  (0x4008001C, 4, 1, 15),
  (0x40080020, 8, 0, 50),
  (0x40080024, 0, 1, 65535),
  (0x40080240, 21, 10, 500),
  (0x40080280, 0, 1, 4000),
  (0x40090008, 2, 0, 100)]

/-- Stated ranges, part 2. -/
def rangePart2 : List (Nat × Nat × Nat × Nat) := [
  (0x4009000C, 0, 1, 200000),
  (0x40090080, 0, 0, 30),
  (0x40090080, 16, 100, 250),
  (0x40090080, 24, 100, 240),
  (0x400A0000, 0, 50, 8000),
  (0x400A0000, 16, 1, 255),
  (0x400A0008, 0, 1, 255),
  (0x400C0800, 0, 0, 16),
  (0x400C4000, 0, 1, 1000),
  (0x400E0004, 0, 1, 15),
  (0x400E0004, 4, 1, 15),
  (0x400E0004, 8, 2, 60),
  (0x400E0004, 14, 1, 60),
  (0x400E0004, 20, 1, 60),
  (0x400E0004, 26, 1, 60),
  (0x400E0008, 0, 5, 300),
  (0x400E100C, 24, 0, 47),
  (0x400E1010, 0, 1, 255),
  (0x400E1010, 8, 1, 20),
  (0x40100004, 14, 0, 2),
  (0x4010000C, 0, 3, 8),
  (0x4010000C, 4, 1, 65535),
  (0x40100010, 0, 1, 15),
  (0x40100014, 0, 1, 40)]

/-- Stated ranges, part 3. -/
def rangePart3 : List (Nat × Nat × Nat × Nat) := [
  (0x40100014, 8, 1, 10),
  (0x40100018, 0, 5, 100),
  (0x40100020, 0, 100, 10000),
  (0x40120400, 0, 40, 150),
  (0x40120400, 8, 40, 150),
  (0x40120404, 0, 20, 90),
  (0x40120404, 8, 1, 40),
  (0x40120404, 16, 1, 20),
  (0x40120404, 24, 1, 40),
  (0x40120408, 0, 0, 10),
  (0x40140004, 16, 1, 100),
  (0x40140008, 0, 25, 250),
  (0x40140008, 14, 0, 2),
  (0x4014001C, 0, 0, 100),
  (0x40140080, 0, 1, 100000),
  (0x40140080, 24, 0, 19),
  (0x4016000C, 0, 5, 40),
  (0x40160010, 0, 10, 100),
  (0x40160010, 16, 10, 1000),
  (0x40160040, 16, 10, 500),
  (0x40160040, 26, 0, 4),
  (0x40160040, 30, 0, 2),
  (0x40160100, 0, 1, 20),
  (0x40160100, 8, 1, 100)]

/-- Stated ranges, part 4. -/
def rangePart4 : List (Nat × Nat × Nat × Nat) := [
  (0x40160100, 16, 5, 50),
  (0x40160100, 24, 5, 100),
  (0x40160104, 16, 40, 120),
  (0x40160104, 24, 60, 150),
  (0x40160400, 0, 1, 250),
  (0x40160400, 22, 0, 6),
  (0x40160400, 25, 0, 6),
  (0x40160400, 30, 0, 2),
  (0x40160404, 0, 1, 4294967295),
  (0x40160408, 0, 2, 100),
  (0x40160408, 16, 5, 500),
  (0x40180000, 16, 0, 100),
  (0x40180000, 24, 1, 8),
  (0x40180000, 28, 0, 5),
  (0x40190004, 0, 1, 32),
  (0x401A0000, 0, 120, 320),
  (0x401A0100, 0, 100, 25000),
  (0x401A0100, 22, 1, 20),
  (0x401A0100, 30, 0, 2),
  (0x401A0300, 6, 0, 2),
  (0x401C0000, 16, 8, 30)]

/-- Address, lowest bit, least and greatest value of every field whose range the spec states apart from other fields. -/
def rangeTable : List (Nat × Nat × Nat × Nat) := rangePart1 ++ rangePart2 ++ rangePart3 ++ rangePart4

end Sys2Proof.Machine
end

