-- ==== Sys2Proof/Machine/Rules.lean ====
section
/-! DEFINITION. Configuration fields, their classes, and the rules that every image and every commit must pass (R10 to R13,
R558, R561 check 6, R567). -/

namespace Sys2Proof.Machine

/-! ### Configuration fields -/

/-- The Tuner slot and the offset within it of a slot register. -/
def tunAt (a : Nat) : Option (Nat × Nat) :=
  if 0x400C4000 ≤ a ∧ a < 0x400C8000 then some ((a - 0x400C4000) / 128, (a - 0x400C4000) % 128) else none

/-- Fields that the map gives as RW for some indices and as RO or reserved for the others: slot sources and set-points of fixed
slots, the voltage law of slots that have none, and the Tally's outlet scopes. -/
def fixedField (a lo : Nat) : Bool :=
  match tunAt a with
  | some (i, o) =>
    (o = 0 && lo = 14 && decide (i < 112)) || (o = 0 && lo = 0 && decide (i < 80)) || (o = 0 && lo = 20 && decide (16 ≤ i)) ||
    (o = 4 && lo = 8 && decide (i < 112)) || (o = 4 && lo = 0 && decide (i < 80)) || (o = 0x2C && decide (i < 80)) ||
    ((o = 0x44 || o = 0x48) && decide (16 ≤ i))
  | none =>
    decide (0x40140424 ≤ a) && decide (a < 0x40140424 + 64 * 16) && decide ((a - 0x40140424) % 64 = 0) && decide (lo ≠ 31)

/-- The calibration fields (R402). -/
def calibration (a : Nat) : Bool := decide (0x40141000 ≤ a) && decide (a < 0x40141000 + 128 * 56)

/-- A field that an image carries: Reset TAB and writable, or of THM_ABSCFG (R558). -/
def imageField (a : Nat) (f : FieldDesc) : Bool :=
  decide (f.acc = .rw ∨ f.acc = .rwl) && (decide (f.src = .tab) || decide (a = (Reg.THM_ABSCFG_WARN).key / 32)) &&
  !fixedField a f.lo

/-- A field that acts only inside a transaction: a configuration field, the lifecycle target, the real-time clock, or
MEM_RETIRE (R564). -/
def txnField (a : Nat) (f : FieldDesc) : Bool :=
  imageField a f || (calibration a && decide (f.acc = .rwl)) || decide (32 * a + f.lo = (Reg.SYS_LIFECYCLE_TARGET).key) ||
  decide (a = (Reg.TB_RTC_SEC_SEC).key / 32) || decide (a = (Reg.MEM_RETIRE_GO).key / 32)

/-- Site fields (R558). -/
def siteField (a : Nat) : Bool :=
  decide (a = (Reg.PRS_SITECFG_WIN).key / 32) || decide (a = (Reg.PRS_IMPORTLIM_KW).key / 32) ||
  decide (a = (Reg.PRS_CONTRACT_KW).key / 32) || (List.range 4).any (fun f => decide (a = (Reg.PRS_FEEDLIM_KW f).key / 32)) ||
  decide (a = (Reg.FAB_SITECFG_STATIONS).key / 32)

/-- Module fields (R558). -/
def moduleField (a lo : Nat) : Bool :=
  decide (a = (Reg.FAB_CFG_SEAT).key / 32) || decide (32 * a + lo = (Reg.DUP_CFG_TWINPORT).key) ||
  decide (32 * a + lo = (Reg.STR_LINKCFG_TERM).key) || decide (a = (Reg.MEM_TAMPCFG_EN).key / 32) ||
  decide (a / 65536 = 0x401C)

/-- The section a field belongs in: 1 SITE, 2 MODULE, 4 REGISTERS (R557, R558). -/
def sectionOf (a lo : Nat) : Nat := if siteField a then 1 else if moduleField a lo then 2 else 4

/-- The offsets a heading's indices reach. -/
def dimOffsets : List (Nat × Nat) → List Nat
  | [] => [0]
  | (st, n) :: rest => (List.range n).flatMap fun i => (dimOffsets rest).map (i * st + ·)

/-- Every register with its fields that an image carries, in the table's order. -/
def imageRegs : List (Nat × List FieldDesc) :=
  regTable.flatMap fun r => ((dimOffsets r.dims).map fun o =>
    (r.addr + o, r.fields.filter (imageField (r.addr + o)))).filter fun x => x.2 ≠ []

/-- The value a field takes where no record of the image sets it: its map's default, the default of R243 for the slew rates of
outlet slots, or 0 (R558). -/
def tabDefault (a : Nat) (f : FieldDesc) : Nat :=
  match tunAt a with
  | some (i, o) => if i < 16 ∧ o = 0x20 then 200000 else if i < 16 ∧ o = 0x24 then 1000000 else f.tabDefault
  | none => if f.src = .tab then f.tabDefault else f.reset

/-- The key of a slot's MODE. -/
def modeKey (key : Nat) : Bool := (List.range 128).any fun i => decide (key = (Reg.TUN_SCFG_MODE i).key)

/-- The device as its committed configuration and further writes would have it. A slot that started in manual is judged in the MODE in
force (R256). -/
def Dev.view (d : Dev) (writes : List (Tbl (Option Nat))) : Dev :=
  let put := fun (d : Dev) (p : Nat × Option Nat) => match p.2 with
    | some v => { d with regs := tput 0 d.regs p.1 v }
    | none => d
  writes.foldl (fun d w => w.foldl put d) ((d.running.filter fun p => !modeKey p.1).foldl put d)

/-! ### Ranges (code 5) -/

/-- The stated range of a field, if one is stated apart from other fields. -/
def statedRange (key : Nat) : Option (Nat × Nat) :=
  match regAt (key / 32) with
  | none => none
  | some r => (rangeTable.find? fun e => decide (e.1 = r.addr ∧ e.2.1 = key % 32)).map fun e => e.2.2

/-- A written value lies outside its stated range. Gain and phase corrections are signed (R403). -/
def outOfRange (key v : Nat) : Bool :=
  let seg := calibration (key / 32) && decide (0x30 ≤ (key / 32) % 128)
  if seg then
    if key % 32 = 0 then decide (20000 < (toSigned 16 v).natAbs) else decide (2000 < (toSigned 16 v).natAbs)
  else match statedRange key with
    | none => false
    | some (lo, hi) => decide (v < lo ∨ hi < v)

/-- The first written field, in ascending order, whose value lies outside its range. -/
def firstRange (writes : Tbl (Option Nat)) : Option Nat :=
  (writes.find? fun p => match p.2 with
    | some v => outOfRange p.1 v
    | none => false).map fun p => p.1 / 32

/-! ### Rules over the view (codes 5 and 6) -/

/-- A rule's verdict: refused, the code, and the field refused. -/
abbrev Verdict := Bool × Nat × Fld

def each (n : Nat) (f : Nat → List Verdict) : List Verdict := (List.range n).flatMap f

/-- Rounds, shedding, forecasts (R112, R149, INK_SHEDCFG, INK_OUTFCV). -/
def Dev.inkRules (t : Dev) : List Verdict :=
  let len := t.get Reg.INK_CFG_ROUNDPER * t.get Reg.TB_TB2CFG_PERIOD
  let lo := t.get Reg.INK_SHEDCFG_LO
  let tgt := t.get Reg.INK_SHEDCFG_TGT
  let hi := t.get Reg.INK_SHEDCFG_HI
  [(decide (len < 5000 ∨ 50000 < len), 6, Reg.INK_CFG_ROUNDPER),
   (!(decide (lo < tgt ∧ tgt < hi ∧ hi ≤ 100)), 6, Reg.INK_SHEDCFG_HI)] ++
  each 16 fun n =>
    let v := t.get (Reg.INK_OUTFCV_V n)
    let on := decide (t.get (Reg.OUT_CFG_TYPE n) = 1 ∨ t.get (Reg.OUT_CFG_TYPE n) = 2)
    [(on && decide (v < 1500 ∨ 12500 < v), 5, Reg.INK_OUTFCV_V n),
     (on && decide (t.get (Reg.OUT_RATING_VMAX n) < v), 6, Reg.INK_OUTFCV_V n)]

/-- The cell link and the control period (R194, R220, R228). -/
def Dev.strRules (t : Dev) : List Verdict :=
  let p := t.get Reg.TB_TB2CFG_PERIOD
  let w := 2 ^ t.get Reg.STR_TELCFG_K * p
  [(decide (1000 * p < 10 * t.get Reg.STR_LINKCFG_SAMPLE_DELAY + 13980), 6, Reg.TB_TB2CFG_PERIOD),
   (decide (t.get Reg.DUP_CFG_EN = 1) && decide (5 * t.get Reg.STR_LINKCFG_HOLD * p < 1000), 6, Reg.STR_LINKCFG_HOLD),
   (decide (w < 1000 ∨ 10000000 < w), 6, Reg.STR_TELCFG_K)]

/-- The bow sweep's amplitude, and the frequencies of a stepped sine, as they stand beside the transaction (R268, R270; log 119). -/
def Dev.bowRules (t : Dev) : List Verdict :=
  let f0 := t.get Reg.TUN_BOWSINE_F0
  let f1 := t.get Reg.TUN_BOWSINE_F1
  let sine := decide (t.get Reg.TUN_BOWCFG_SIGNAL = 3)
  [(decide (t.get Reg.TUN_BOWCFG_AMP = 0 ∨ 50 < t.get Reg.TUN_BOWCFG_AMP), 5, Reg.TUN_BOWCFG_AMP),
   (sine && decide (f0 = 0), 5, Reg.TUN_BOWSINE_F0),
   (sine && decide (f1 < f0), 6, Reg.TUN_BOWSINE_F0),
   (sine && decide (10000000 < f1 * 8 * t.get Reg.TB_TB2CFG_PERIOD), 6, Reg.TUN_BOWSINE_F1)]

/-- Slots (R231, R234, R243, the limits); R254, R255, R268 and R270 unless an image is checked (R561). -/
def Dev.tunRules (t : Dev) (was : Dev) (image : Bool) : List Verdict :=
  let tie := fun ch => t.tab.ties.any fun x => x.chan = ch
  (if image then [] else t.bowRules) ++
  each 128 fun i =>
    let man := decide (t.get (Reg.TUN_SCFG_MODE i) = 1)
    let dt := if i < 80 then t.get Reg.TB_TB2CFG_PERIOD else 1000 * t.get (Reg.TUN_SCFG_INTERVAL i)
    let act := t.get (Reg.TUN_SSRC_ACT i)
    let rate := fun (f : Fld) => (decide (i < 16) && decide (t.get f = 0)) || decide (slewStep (t.get f) dt = some 0)
    let inp := t.get (Reg.TUN_SSRC_INPUT i)
    let drives := decide (80 ≤ i) && decide (act ≠ 0xFF)
    [(decide (i < 80) && decide (t.get (Reg.TUN_SCFG_DIR i) = 1), 6, Reg.TUN_SCFG_DIR i),
     (!image && decide (i < 80) && man && decide (was.get (Reg.TUN_SCFG_MODE i) = 0) && decide (was.mode ≠ .commission),
       3, Reg.TUN_SCFG_MODE i),
     (!image && !man && (!t.boardValid (t.get (Reg.TUN_SCFG_BOARD i)) ||
       (decide (i < 16) && !t.boardValid (t.get (Reg.TUN_SCFG_VBOARD i)))), 6, Reg.TUN_SCFG_BOARD i),
     (decide (112 ≤ i) && !(decide (t.get (Reg.TUN_SCFG_OUTLET i) < 16) || decide (t.get (Reg.TUN_SCFG_OUTLET i) = 31)),
       5, Reg.TUN_SCFG_OUTLET i),
     (decide (112 ≤ i) && !(decide (inp ≤ 0x50) || (decide (0x60 ≤ inp) && decide (inp ≤ 0xAF))), 5, Reg.TUN_SSRC_INPUT i),
     (drives && decide (47 < act), 5, Reg.TUN_SSRC_ACT i),
     (drives && (List.range i).any fun j => decide (80 ≤ j) && decide (t.get (Reg.TUN_SSRC_ACT j) = act), 6, Reg.TUN_SSRC_ACT i),
     (drives && decide (act ≤ 47) && (decide (t.get (Reg.AUX_CHCFG_MODE act) ≠ 1) || tie act), 6, Reg.TUN_SSRC_ACT i),
     (decide (t.getI (Reg.TUN_IMAX_LIMIT i) < t.getI (Reg.TUN_IMIN_LIMIT i)), 6, Reg.TUN_IMIN_LIMIT i),
     (decide (t.getI (Reg.TUN_UMAX_LIMIT i) < t.getI (Reg.TUN_UMIN_LIMIT i)), 6, Reg.TUN_UMIN_LIMIT i),
     (rate (Reg.TUN_RISE_RATE i), 6, Reg.TUN_RISE_RATE i),
     (rate (Reg.TUN_FALL_RATE i), 6, Reg.TUN_FALL_RATE i)]

/-- Outlets (R274, R349); ratings are checked where TYPE is not 0. -/
def Dev.outRules (t : Dev) : List Verdict :=
  each 16 fun n =>
    let ty := t.get (Reg.OUT_CFG_TYPE n)
    let v := t.get (Reg.OUT_RATING_VMAX n)
    let i := t.get (Reg.OUT_RATING_IMAX n)
    let din := decide (t.get (Reg.OUT_CFG_DIN n) = 1)
    let iso2 := decide (t.get (Reg.OUT_CFG_ISO2 n) = 1)
    let iso20 := decide (t.get (Reg.OUT_CFG_ISO20 n) = 1)
    let lock := decide (t.get (Reg.OUT_CFG_LOCK n) = 1)
    let pulse := t.get (Reg.OUT_LOCKCFG_PULSE n)
    let wrong := fun slot curve => decide (t.get (Reg.VLK_IDSTAT_STATE slot) ≠ 0) && decide (t.get (Reg.VLK_IDSTAT_CURVE slot) ≠ curve)
    [(decide (ty ≠ 0) && decide (v < 1500 ∨ 12500 < v), 5, Reg.OUT_RATING_VMAX n),
     (decide (ty ≠ 0) && decide (i < 1 ∨ 30000 < i), 5, Reg.OUT_RATING_IMAX n),
     (decide (ty = 1) && !din && !iso2 && !iso20, 6, Reg.OUT_CFG_TYPE n),
     (decide (ty = 2) && (din || iso2), 6, Reg.OUT_CFG_TYPE n),
     (decide (t.get (Reg.OUT_CFG_BPT n) = 1) && !iso20, 6, Reg.OUT_CFG_BPT n),
     (decide (i < t.get (Reg.OUT_BPT_IDIS n)), 6, Reg.OUT_BPT_IDIS n),
     (lock && decide (47 < t.get (Reg.OUT_LOCKCFG_ACT n)), 6, Reg.OUT_LOCKCFG_ACT n),
     (lock && decide (t.get (Reg.OUT_LOCKCFG_MODE n) = 0) && decide (pulse < 10 ∨ 1000 < pulse), 5, Reg.OUT_LOCKCFG_PULSE n),
     (decide (ty ≠ 0) && iso2 && wrong (t.get (Reg.VLK_OUTCFG_ID2 n)) 0, 6, Reg.VLK_OUTCFG_ID2 n),
     (decide (ty ≠ 0) && iso20 && wrong (t.get (Reg.VLK_OUTCFG_ID20 n)) 1, 6, Reg.VLK_OUTCFG_ID20 n)]

/-- The outlet has a flow input (R360). -/
def Dev.flowInput (t : Dev) (n : Nat) : Bool :=
  decide (t.get (Reg.OUT_CFG_TYPE n) ≠ 0) && decide (t.get (Reg.CAB_TGEOM_COOLED (t.get (Reg.CAB_OCFG_TYPE n))) = 1)

/-- GPIO lines by use: 1 tie feedback, 2 lock feedback, 3 flow (AUX_GPIOCFG.USE). -/
def Dev.gpioUses (t : Dev) (g : Nat) : List Nat :=
  ((t.tab.ties.filter fun x => !x.can && decide (x.line = g)).map fun _ => 1) ++
  (((List.range 16).filter fun n => decide (t.get (Reg.OUT_CFG_LOCK n) = 1) && decide (t.get (Reg.OUT_LOCKCFG_FB n) = g)).map fun _ => 2) ++
  (((List.range 16).filter fun n => t.flowInput n && decide (t.get (Reg.CAB_FLOWCFG_GPIO n) = g)).map fun _ => 3)

/-- Cables, flow inputs and absolute levels (R360, R363, R393, THM_STRLIM). -/
def Dev.thermRules (t : Dev) : List Verdict :=
  let wn := t.get Reg.THM_ABSCFG_WARN
  let th := t.get Reg.THM_ABSCFG_THROT
  let sh := t.get Reg.THM_ABSCFG_SHUT
  let hy := t.get Reg.THM_ABSCFG_HYST
  [(!(decide (wn ≤ th ∧ th < sh ∧ sh ≤ 125)), 6, Reg.THM_ABSCFG_WARN), (decide (hy < 1 ∨ 10 < hy), 5, Reg.THM_ABSCFG_HYST),
   (!(decide ((th : Int) - hy < (sh : Int) - hy)), 6, Reg.THM_ABSCFG_SHUT),
   (decide (t.get Reg.THM_RATECFG_THRRATE < t.get Reg.THM_RATECFG_WARNRATE), 6, Reg.THM_RATECFG_WARNRATE),
   (decide (t.get Reg.THM_RATECFG_WARNTIME = 0), 5, Reg.THM_RATECFG_WARNTIME),
   (decide (t.get Reg.THM_RATECFG_THRRATE = 0), 5, Reg.THM_RATECFG_THRRATE),
   (decide (t.get Reg.THM_RATECFG_KR = 0), 5, Reg.THM_RATECFG_KR),
   (decide (t.get Reg.THM_STRLIM_TRIP ≤ t.get Reg.THM_STRLIM_REL), 6, Reg.THM_STRLIM_REL)] ++
  each 16 fun n =>
    let k := t.get (Reg.CAB_OCFG_TYPE n)
    let on := decide (t.get (Reg.OUT_CFG_TYPE n) ≠ 0)
    let khs := t.get (Reg.CAB_TGEOM_KHS k)
    let cooled := decide (t.get (Reg.CAB_TGEOM_COOLED k) = 1)
    [(on && decide (t.get (Reg.CAB_TRES_R20 k) = 0), 6, Reg.CAB_TRES_R20 k),
     (on && decide (t.get (Reg.CAB_TGEOM_LEN k) = 0), 6, Reg.CAB_TGEOM_LEN k),
     (on && decide (t.get (Reg.CAB_TRCK_RCK k) = 0), 6, Reg.CAB_TRCK_RCK k),
     (on && decide (t.get (Reg.CAB_TCAP_CC k) = 0), 6, Reg.CAB_TCAP_CC k),
     (on && decide (t.get (Reg.CAB_TCAP_CK k) = 0), 6, Reg.CAB_TCAP_CK k),
     (on && decide (khs < 256 ∨ 512 < khs), 6, Reg.CAB_TGEOM_KHS k),
     (on && cooled && decide (t.get (Reg.CAB_TCOOL_CVOL k) = 0), 6, Reg.CAB_TCOOL_CVOL k),
     (on && !cooled && decide (t.get (Reg.CAB_TCOOL_G0 k) = 0), 6, Reg.CAB_TCOOL_G0 k),
     (on && decide (t.get (Reg.CAB_TCAP_CC k) * t.get (Reg.CAB_TRCK_RCK k) < 10000), 6, Reg.CAB_TCAP_CC k),
     (t.flowInput n && decide (t.get (Reg.CAB_FLOWCFG_KFACT n) = 0), 6, Reg.CAB_FLOWCFG_KFACT n),
     (t.flowInput n && decide (1 < (t.gpioUses (t.get (Reg.CAB_FLOWCFG_GPIO n))).length), 6, Reg.CAB_FLOWCFG_GPIO n)]

/-- Pulse outputs (R415), of enabled pulses. -/
def Dev.talRules (t : Dev) : List Verdict :=
  each 8 fun k =>
    let c := t.get (Reg.TAL_PULSECFG_SCOPE k)
    let konst := t.get (Reg.TAL_PULSECFG_CONST k)
    let on := decide (t.get (Reg.TAL_PULSECFG_EN k) = 1)
    let fast := if c < 16 then decide (360000000000 < konst * (t.get (Reg.OUT_RATING_VMAX c) * t.get (Reg.OUT_RATING_IMAX c)))
      else decide (3600000 < konst * t.get (Reg.TAL_SCOPECFG_RATEDKW c))
    [(on && decide (19 < c), 5, Reg.TAL_PULSECFG_SCOPE k), (on && decide (konst < 1 ∨ 100000 < konst), 5, Reg.TAL_PULSECFG_CONST k),
     (on && fast, 6, Reg.TAL_PULSECFG_CONST k)]

/-- Calibration, where the transaction writes a channel's (R403). -/
def Dev.calRules (t : Dev) (written : Nat → Bool) : List Verdict :=
  each 56 fun ch =>
    let w := written ch
    let bnds := (List.range 7).map fun j => t.get (Reg.TAL_SEGBND_BND ch j)
    [(w && chCurrent ch && !risesStrictly bnds, 6, Reg.TAL_SEGBND_BND ch 0),
     (w && !chAc ch && (List.range 8).any fun j => decide (t.get (Reg.TAL_SEGCORR_PHASE ch j) ≠ 0), 6, Reg.TAL_SEGCORR_PHASE ch 0),
     (w && t.scopeOn (chScope ch) && decide (t.get (Reg.TAL_CHSCALE_SCALE ch) = 0), 5, Reg.TAL_CHSCALE_SCALE ch)]

/-- Safe inputs, test pulses and safe connections (R434, R436, R463). -/
def Dev.safRules (t : Dev) : List Verdict :=
  let pulsed := (List.range 16).any fun i => decide (t.get (Reg.SAF_SINCFG_ROLE i) ≠ 0) && decide (t.get (Reg.SAF_SINCFG_TP i) ≠ 0)
  [(pulsed && decide (50 * t.get Reg.SAF_CFG_F < 10 * t.get Reg.SAF_TPCFG_WIDTH + 100), 6, Reg.SAF_TPCFG_WIDTH)] ++
  (each 16 fun i => [(decide (i % 2 = 1) && decide (t.get (Reg.SAF_SINCFG_PAIR i) = 1), 6, Reg.SAF_SINCFG_PAIR i)]) ++
  each 16 fun k =>
    let mode := t.get (Reg.SAF_CONNCFG_MODE k)
    let on := decide (mode ≠ 0)
    let dual := decide (mode = 2)
    let wd := t.get (Reg.SAF_CONNTIM_WD k)
    let same := fun j => decide (t.get (Reg.SAF_CONNCFG_MODE j) ≠ 0) &&
      decide (t.get (Reg.SAF_CONNCFG_DIR j) = t.get (Reg.SAF_CONNCFG_DIR k)) && decide (t.get (Reg.SAF_CONNID_ID j) = t.get (Reg.SAF_CONNID_ID k))
    [(on && decide (t.get (Reg.SAF_CONNID_ID k) = 0), 5, Reg.SAF_CONNID_ID k),
     (on && decide (t.get (Reg.SAF_CONNCFG_CYCLE k) = 0), 5, Reg.SAF_CONNCFG_CYCLE k),
     (on && decide (wd < 5 ∨ 500 < wd), 5, Reg.SAF_CONNTIM_WD k),
     (on && decide (wd < 2 * t.get (Reg.SAF_CONNCFG_CYCLE k) + (if dual then t.get (Reg.SAF_CONNTIM_SKEW k) else 0)), 6, Reg.SAF_CONNTIM_WD k),
     (on && (List.range k).any same, 6, Reg.SAF_CONNID_ID k),
     (dual && decide (t.get (Reg.SAF_CONNCFG_CARA k) = t.get (Reg.SAF_CONNCFG_CARB k)), 6, Reg.SAF_CONNCFG_CARB k)]

/-- The duplex pair (R470, R474). -/
def Dev.dupRules (t : Dev) : List Verdict :=
  let on := decide (t.get Reg.DUP_CFG_EN = 1)
  let station : Bool := match t.dup.partStation with
    | some s => decide (s ≠ t.get Reg.FAB_CFG_STATION)
    | none => false
  [(on && station, 6, Reg.FAB_CFG_STATION),
   (on && (decide (t.get Reg.TB_TB2CFG_SRC = 0) || decide (t.get Reg.TB_TB2CFG_SYNCOUT_EN = 0)), 6, Reg.TB_TB2CFG_SRC),
   (on && t.bit Reg.FAB_CFG_PORTEN (t.get Reg.DUP_CFG_TWINPORT), 6, Reg.DUP_CFG_TWINPORT)] ++
  each 48 fun i => [(t.auxShared i && decide (t.tab.auxBoot.getD i 0 ≠ 1), 6,
    if i < 32 then Reg.DUP_AUXSHARE_LO_SHARE else Reg.DUP_AUXSHARE_HI_SHARE)]

/-- The users of an auxiliary channel: 1 tie, 2 lock, 3 thermal slot (R603). -/
def Dev.auxUsers (t : Dev) (ch : Nat) : List Nat :=
  ((t.tab.ties.filter fun x => decide (x.chan = ch)).map fun _ => 1) ++
  (((List.range 16).filter fun n => decide (t.get (Reg.OUT_CFG_LOCK n) = 1) && decide (t.get (Reg.OUT_LOCKCFG_ACT n) = ch)).map fun _ => 2) ++
  (((List.range 48).filter fun k => decide (t.get (Reg.TUN_SSRC_ACT (80 + k)) = ch)).map fun _ => 3)

/-- Ties have a feedback source that the configuration holds (R104); auxiliary channels (R601, R603). A PWM or lamp channel needs its frequency in range. -/
def Dev.auxRules (t : Dev) : List Verdict :=
  (t.tab.ties.map fun x => (x.can && decide (t.get (Reg.CAN_CFG_EN x.line) = 0), 6, Reg.CAN_CFG_EN x.line)) ++
  each 48 fun i =>
    let us := t.auxUsers i
    let fq := t.get (Reg.AUX_CHCFG_FREQ i)
    [(decide (1 < us.length), 6, Reg.AUX_CHCFG_USER i),
     ((us.contains 1 || us.contains 2) && decide (t.get (Reg.AUX_CHCFG_MODE i) ≠ 0), 6, Reg.AUX_CHCFG_MODE i),
     (decide (t.get (Reg.AUX_CHCFG_MODE i) ≠ 0) && decide (fq < 100 ∨ 25000 < fq), 5, Reg.AUX_CHCFG_FREQ i)]

/-- Bit timing of enabled CAN ports, from the coded values, each one less than its meaning (R611, R612). -/
def Dev.canRules (t : Dev) : List Verdict :=
  each 4 fun k =>
    let on := decide (t.get (Reg.CAN_CFG_EN k) = 1)
    let fd := on && decide (t.get (Reg.CAN_CFG_FD k) = 1)
    let n := (t.get (Reg.CAN_NBT_BRP k) + 1) * (3 + t.get (Reg.CAN_NBT_TSEG1 k) + t.get (Reg.CAN_NBT_TSEG2 k))
    let m := (t.get (Reg.CAN_DBT_BRP k) + 1) * (3 + t.get (Reg.CAN_DBT_TSEG1 k) + t.get (Reg.CAN_DBT_TSEG2 k))
    [(on && decide (t.get (Reg.CAN_NBT_TSEG2 k) < 1), 5, Reg.CAN_NBT_TSEG2 k),
     (on && decide (t.get (Reg.CAN_NBT_TSEG2 k) < t.get (Reg.CAN_NBT_SJW k)), 5, Reg.CAN_NBT_SJW k),
     (on && decide (n < 80), 6, Reg.CAN_NBT_BRP k),
     (fd && decide (31 < t.get (Reg.CAN_DBT_BRP k)), 5, Reg.CAN_DBT_BRP k),
     (fd && decide (31 < t.get (Reg.CAN_DBT_TSEG1 k)), 5, Reg.CAN_DBT_TSEG1 k),
     (fd && decide (15 < t.get (Reg.CAN_DBT_TSEG2 k)), 5, Reg.CAN_DBT_TSEG2 k),
     (fd && decide (t.get (Reg.CAN_DBT_TSEG2 k) < t.get (Reg.CAN_DBT_SJW k)), 5, Reg.CAN_DBT_SJW k),
     (fd && decide (m < 16), 6, Reg.CAN_DBT_BRP k),
     (fd && decide (m < 80) && decide (t.get (Reg.CAN_DBT_TDCEN k) = 0), 6, Reg.CAN_DBT_TDCEN k)]

/-- The first rule that the view fails, with its code and the address of the field. -/
def Dev.firstRule (t was : Dev) (image : Bool) (cal : Nat → Bool) : Option (Nat × Nat) :=
  ((t.inkRules ++ t.strRules ++ t.tunRules was image ++ t.outRules ++ t.thermRules ++ t.talRules ++ t.calRules cal ++
    t.safRules ++ t.dupRules ++ t.auxRules ++ t.canRules).find? fun v => v.1).map fun v => (v.2.1, v.2.2.key / 32)

end Sys2Proof.Machine
end

