-- ==== Sys2Proof/Machine/TabImage.lean ====
section
/-! DEFINITION. TAB images: their checks, their loading, and the image a persist builds (R554 to R563, R569). -/

namespace Sys2Proof.Machine

/-! ### Header and sections -/

/-- Where a copy begins: A (false) or B (true) (R554). -/
def copyBase (b : Bool) : Nat := if b then 0x800000 else 0

/-- "FXTB" (R555). -/
def imageMagic : List Byte := [0x46#8, 0x58#8, 0x54#8, 0x42#8]

/-- `n` bytes of an image from an offset. -/
def slice (bytes : List Byte) (o n : Nat) : List Byte := (bytes.drop o).take n

/-- Check 1 of R561 on a header: the length where MAGIC, FORMAT and LENGTH hold. -/
def headerLength (h : List Byte) : Option Nat :=
  let len := ofLe (slice h 8 4)
  if slice h 0 4 = imageMagic ∧ ofLe (slice h 4 2) = 1 ∧ 192 ≤ len ∧ len ≤ 0x800000 then some len else none

/-- The bytes of a copy that passes check 1. -/
def Dev.copyImage (d : Dev) (b : Bool) : Option (List Byte) :=
  (headerLength (d.flashBytes (copyBase b) 128)).map fun len => d.flashBytes (copyBase b) len

/-- A multiple of 4 at or above a number. -/
def pad4 (n : Nat) : Nat := (n + 3) / 4 * 4

/-- The sections from an offset that tile exactly up to `stop`, with zeros between a body and the next: (type, body) (R556, check 3). `fuel` bounds their number. -/
def sections (img : List Byte) (stop : Nat) : Nat → Nat → Option (List (Nat × List Byte))
  | 0, _ => none
  | fuel + 1, o =>
    if o = stop then some []
    else
      let len := ofLe (slice img (o + 2) 4)
      let next := pad4 (o + 6 + len)
      if stop < next ∨ !(slice img (o + 6 + len) (next - (o + 6 + len))).all (fun x => decide (x = 0#8)) then none
      else (sections img stop fuel next).map fun rest => (ofLe (slice img o 2), slice img (o + 6) len) :: rest

def imageSections (img : List Byte) : Option (List (Nat × List Byte)) := sections img (img.length - 64) img.length 128

/-- The body of a section type; an absent one is empty. -/
def bodyOf (ss : List (Nat × List Byte)) (typ : Nat) : List Byte :=
  match ss.find? fun s => s.1 = typ with
  | some s => s.2
  | none => []

/-- A body cut into entries of 12 bytes. -/
def entries12 (b : List Byte) : List (List Byte) := (List.range (b.length / 12)).map fun i => slice b (12 * i) 12

/-- ROOTS entries: index, kind, length, certificate (R557). -/
def parseRoots : Nat → List Byte → Option (List (Nat × Nat × List Byte))
  | 0, b => if b = [] then some [] else none
  | fuel + 1, b =>
    if b = [] then some []
    else
      let len := ofLe (slice b 2 2)
      if b.length < 4 + len then none
      else (parseRoots fuel (b.drop (4 + len))).map fun rest =>
        (ofLe (slice b 0 1), ofLe (slice b 1 1), slice b 4 len) :: rest

def parseTie (e : List Byte) : TieCfg :=
  { tie := ofLe (slice e 0 1), chan := ofLe (slice e 1 1), can := decide (ofLe (slice e 2 1) = 1), line := ofLe (slice e 3 1),
    canId := ofLe (slice e 4 4), bit := ofLe (slice e 8 2), polarity := ofLe (slice e 10 1) }

def parseConn (e : List Byte) : ConnPeer :=
  { conn := ofLe (slice e 0 1), carrier := ofLe (slice e 1 1), addr := ofLe (slice e 4 4), udp := ofLe (slice e 8 2) }

def parseMap (e : List Byte) : CanMap :=
  let fmt := ofLe (slice e 3 1)
  { role := ofLe (slice e 0 1), port := ofLe (slice e 1 1), width := ofLe (slice e 2 1), big := fmt.testBit 0,
    signed := fmt.testBit 1, id := ofLe (slice e 4 4), offset := ofLe (slice e 8 2), scale := ofLe (slice e 10 2) }

/-- A tie entry names a tie, a channel and a feedback source that exist (R104). -/
def tieOk (e : List Byte) : Bool :=
  let t := parseTie e
  decide (t.tie < 16 ∧ t.chan < 48 ∧ ofLe (slice e 2 1) ≤ 1 ∧ t.bit < 512) && (if t.can then decide (t.line < 4) else decide (t.line < 16))

/-- The body of a section obeys its type (R557). -/
def bodyOk (typ : Nat) (b : List Byte) : Bool :=
  match typ with
  | 1 => decide (64 ≤ b.length ∧ (b.length - 64) % 12 = 0)
  | 2 | 4 => decide (b.length ≠ 0 ∧ b.length % 12 = 0)
  | 3 => decide (b.length ≠ 0)
  | 5 => match parseRoots 17 b with
    | some rs => decide (rs.length ≤ 16) && rs.all fun r => decide (r.2.1 < 2)
    | none => false
  | 6 => decide (b.length % 12 = 0) && (entries12 b).all tieOk
  | 7 => decide (b.length % 12 = 0) && (entries12 b).all fun e => decide ((parseConn e).conn < 16 ∧ (parseConn e).carrier < 2)
  | 8 => decide (b.length % 12 = 0) && (entries12 b).all fun e =>
      let m := parseMap e
      decide (1 ≤ m.width ∧ m.width ≤ 4 ∧ m.offset + m.width ≤ 64) &&
      decide ((m.role = 1 ∨ m.role = 2) ∧ m.port < 4 ∧ ofLe (slice e 3 1) < 4)
  | 9 => decide (b.length = 0) || (decide (b.length = 48) && b.all fun x => decide (x.toNat < 3))
  | 10 => decide (b.length ≤ 4096)
  | _ => decide (0x8000 ≤ typ)

/-- Check 3 of R561: every type of R557, the mandatory ones once and not empty, the optional ones at most once. -/
def typesOk (ss : List (Nat × List Byte)) : Bool :=
  (ss.all fun s => bodyOk s.1 s.2) &&
  (List.range 11).all fun t =>
    let n := (ss.filter fun s => s.1 = t).length
    if 1 ≤ t ∧ t ≤ 4 then decide (n = 1) else decide (n ≤ 1)

/-- The digest an image is signed over (R556). -/
def signedDigest (img : List Byte) : List Byte := sha256 (img.take (img.length - 64))

def signatureOf (img : List Byte) : List Byte := img.drop (img.length - 64)

/-- Check 2 of R561: the signer is accepted (R559, R560). -/
def Dev.signerOk (d : Dev) (img : List Byte) : Bool :=
  let key := slice img 52 64
  let ok := Config.ecdsaVerify key (signedDigest img) (signatureOf img)
  match ofLe (slice img 48 1) with
  | 0 => ok && (decide (d.lifecycle = 0 ∨ d.lifecycle = 3) || decide (sha256 key = d.pinned))
  | 1 => ok && decide (key = Config.persistKey)
  | _ => false

/-- Check 5 of R561: the FIRMWARE body is an image of its own, signed under the vendor key (R5, R557). -/
def firmwareOk (b : List Byte) : Bool :=
  headerLength b = some b.length && (imageSections b).isSome &&
  Config.ecdsaVerify Config.vendorKey (signedDigest b) (signatureOf b)

/-- Checks 1 to 5 of R561 on the bytes of an image. -/
def Dev.imageOk (d : Dev) (img : List Byte) : Bool :=
  decide (headerLength img = some img.length) && d.signerOk img &&
  match imageSections img with
  | none => false
  | some ss => typesOk ss && decide (sha256 (bodyOf ss 1) = slice img 16 32) && firmwareOk (bodyOf ss 3)

/-- Checks 1 to 5 on a copy in flash. -/
def Dev.copyOk (d : Dev) (b : Bool) : Bool :=
  match d.copyImage b with
  | none => false
  | some img => d.imageOk img

/-! ### Register records -/

/-- The records of a section: address, mask, value (R558). -/
def records (ss : List (Nat × List Byte)) (typ : Nat) : List (Nat × Nat × Nat) :=
  (entries12 (if typ = 1 then (bodyOf ss 1).drop 64 else bodyOf ss typ)).map fun e =>
    (ofLe (slice e 0 4), ofLe (slice e 4 4), ofLe (slice e 8 4))

/-- The mask bits of a field, moved down to bit 0. -/
def fieldBits (mask : Nat) (f : FieldDesc) : Nat := mask / 2 ^ f.lo % 2 ^ f.width

/-- The fields of the register at an address that an image carries. -/
def imageFieldsAt (a : Nat) : List FieldDesc :=
  match regAt a with
  | none => []
  | some r => r.fields.filter (imageField a)

/-- A record sets bits of its own section's fields only (R558). -/
def recordOk (typ : Nat) (r : Nat × Nat × Nat) : Bool :=
  let fs := (imageFieldsAt r.1).filter fun f => sectionOf r.1 f.lo = typ
  decide (r.2.1 = fs.foldl (fun acc f => acc + fieldBits r.2.1 f * 2 ^ f.lo) 0)

/-- Records run in ascending address, each address once in a section; a bit is set once in the image, since its section is its
own (R558). -/
def recordsOk (ss : List (Nat × List Byte)) : Bool :=
  [1, 2, 4].all fun typ => risesStrictly ((records ss typ).map (·.1)) && (records ss typ).all (recordOk typ)

/-- Every field at its default (R558). -/
def defaults : Tbl (Option Nat) :=
  imageRegs.flatMap fun r => r.2.map fun f => (32 * r.1 + f.lo, some (tabDefault r.1 f))

/-- The value a record gives a field over the one it had. -/
def recordValue (was mask value : Nat) (f : FieldDesc) : Nat :=
  let m := fieldBits mask f
  (was &&& (2 ^ f.width - 1 - m)) ||| (fieldBits value f &&& m)

/-- What the records set, by field key. -/
def recordWrites (ss : List (Nat × List Byte)) : Tbl (Option Nat) :=
  [1, 2, 4].flatMap fun typ => (records ss typ).flatMap fun r =>
    ((imageFieldsAt r.1).filter fun f => fieldBits r.2.1 f ≠ 0).map fun f =>
      (32 * r.1 + f.lo, some (recordValue (tabDefault r.1 f) r.2.1 r.2.2 f))

/-- The sections that are not register records (R557). -/
def parseTab (img : List Byte) (ss : List (Nat × List Byte)) : TabCtx :=
  { siteCa := (bodyOf ss 1).take 64, ties := (entries12 (bodyOf ss 6)).map parseTie,
    conns := (entries12 (bodyOf ss 7)).map parseConn, canMap := (entries12 (bodyOf ss 8)).map parseMap,
    auxBoot := (bodyOf ss 9).map BitVec.toNat, signKey := slice img 52 64, loaded := true }

/-- The device with an image's settings and nothing derived from them. -/
def Dev.withImage (d : Dev) (img : List Byte) (ss : List (Nat × List Byte)) : Dev :=
  let d := { d with running := [], tab := parseTab img ss, roots := (parseRoots 17 (bodyOf ss 5)).getD [] }
  d.view [defaults, recordWrites ss]

/-- Check 6 of R561: the records pass every rule of a commit but R254 and R255. -/
def Dev.check6 (d : Dev) (img : List Byte) : Bool :=
  match imageSections img with
  | none => false
  | some ss => recordsOk ss && decide (firstRange (recordWrites ss) = none) &&
      decide ((d.withImage img ss).firstRule d true (fun _ => false) = none)

/-! ### What the settings imply -/

/-- Writes a 32-byte digest into eight words. -/
def Dev.setDigest (d : Dev) (f : Nat → Fld) (digest : List Byte) : Dev :=
  forAll 8 d fun d w => d.set (f w) (ofLe (slice digest (4 * w) 4))

/-- The station digest: every section body but MODULE and FIRMWARE, in image order (R558, R476). -/
def stationDigest (ss : List (Nat × List Byte)) : List Byte :=
  sha256 ((ss.filter fun s => s.1 ≠ 2 ∧ s.1 ≠ 3).flatMap (·.2))

/-- The read-only fields that follow from the configuration: users of channels and lines (R603), fixed slot sources (R231 to
R233), the Tally's outlet scopes (R407, R415), the ports (R471). -/
def Dev.derive (d : Dev) : Dev :=
  let d := forAll 32 d fun d b => d.set (Reg.TUN_BOARD_VALID b) (flag (d.boardValid b))
  let d := forAll 48 d fun d i => d.set (Reg.AUX_CHCFG_USER i) ((d.auxUsers i).headD 0)
  let d := forAll 16 d fun d g => d.set (Reg.AUX_GPIOCFG_USE g) ((d.gpioUses g).headD 0)
  let d := forAll 112 d fun d i =>
    d.set (Reg.TUN_SCFG_OUTLET i) (if i < 16 then i else if i < 80 then (i - 16) / 4 else (i - 80) % 16)
  let d := forAll 16 d fun d c =>
    (d.set (Reg.TAL_SCOPECFG_EN c) (flag (d.scopeOn c))).set (Reg.TAL_SCOPECFG_RATEDKW c)
      (d.get (Reg.OUT_RATING_VMAX c) * d.get (Reg.OUT_RATING_IMAX c) / 100000)
  d.settleCan

/-- A power-class slot that the image leaves automatic on an invalid fretboard starts in manual, as running state (R256, R569). -/
def Dev.startSlots (d : Dev) : Dev :=
  Dev.showManual <| forAll 128 d fun d i =>
    let bad := !d.boardValid (d.get (Reg.TUN_SCFG_BOARD i)) || (decide (i < 16) && !d.boardValid (d.get (Reg.TUN_SCFG_VBOARD i)))
    if d.get (Reg.TUN_SCFG_MODE i) = 0 ∧ bad then (d.runSet (Reg.TUN_SCFG_MODE i) 1).raise 58 0 else d

/-- Loads an image at Boot: its settings, the copy it came from, and what follows from them. -/
def Dev.loadImage (d : Dev) (b : Bool) (img : List Byte) : Dev :=
  match imageSections img with
  | none => d
  | some ss =>
    let d := d.withImage img ss
    let d := (d.set Reg.SYS_TAB_LOADED (flag b)).set Reg.SYS_TAB_SIGNER (ofLe (slice img 48 1))
    let d := d.set Reg.SYS_TAB_GEN (ofLe (slice img 12 4))
    let d := (d.setDigest Reg.SYS_STNDIG_DATA (stationDigest ss)).setDigest Reg.FAB_DIGEST_DATA (slice img 16 32)
    (d.derive).startSlots

/-! ### The committed state against the image (R569) -/

/-- What the image named by the pointer gives a field. -/
def Dev.pointerWrites (d : Dev) : Option (Tbl (Option Nat)) :=
  match d.copyImage (decide (d.get Reg.SYS_TAB_ACTIVE = 1)) with
  | none => none
  | some img => (imageSections img).map recordWrites

/-- SYS_STATUS.UNPERSISTED: the committed state differs from the image that the pointer names (R569). -/
def Dev.showUnpersisted (d : Dev) : Dev :=
  match d.pointerWrites with
  | none => d
  | some ws =>
    let differs := imageRegs.any fun r => r.2.any fun f =>
      let key := 32 * r.1 + f.lo
      let v := match ws.find? fun p => p.1 = key with
        | some (_, some v) => v
        | _ => tabDefault r.1 f
      d.committed ⟨key, f.width⟩ != v
    d.set Reg.SYS_STATUS_UNPERSISTED (flag differs)

/-! ### Building an image (R569) -/

/-- The records that give the committed values of a section's fields where they differ from the defaults. -/
def Dev.buildRecords (d : Dev) (typ : Nat) : List Byte :=
  let recs := imageRegs.filterMap fun r =>
    let fs := r.2.filter fun f => sectionOf r.1 f.lo = typ && decide (d.committed ⟨32 * r.1 + f.lo, f.width⟩ ≠ tabDefault r.1 f)
    if fs = [] then none
    else some (r.1, fs.foldl (fun acc f => acc + (2 ^ f.width - 1) * 2 ^ f.lo) 0,
      fs.foldl (fun acc f => acc + d.committed ⟨32 * r.1 + f.lo, f.width⟩ * 2 ^ f.lo) 0)
  let sorted := recs.mergeSort fun x y => decide (x.1 ≤ y.1)
  sorted.flatMap fun r => leBytes 4 r.1 ++ leBytes 4 r.2.1 ++ leBytes 4 r.2.2

/-- A mandatory section is never empty: with no value to give, it carries one record that sets nothing. -/
def filler (a : Nat) (b : List Byte) : List Byte := if b = [] then leBytes 4 a ++ leBytes 4 0 ++ leBytes 4 0 else b

/-- The SITE body of the committed state. -/
def Dev.siteBody (d : Dev) : List Byte := d.tab.siteCa ++ d.buildRecords 1

/-- One section of an image (R556). -/
def sectionBytes (typ : Nat) (b : List Byte) : List Byte :=
  let s := leBytes 2 typ ++ leBytes 4 b.length ++ b
  s ++ List.replicate (pad4 s.length - s.length) 0#8

/-- The image a persist writes: the active image's sections, SITE, MODULE and REGISTERS rebuilt, FLAGS bit 0, the next GENERATION,
SIGNER 1; `k` chooses the signature's nonce. -/
def Dev.buildImage (d : Dev) (active : List Byte) (k : Nat) : List Byte :=
  let ss := (imageSections active).getD []
  let site := d.siteBody
  let body := fun (s : Nat × List Byte) => match s.1 with
    | 1 => site
    | 2 => filler ((Reg.FAB_CFG_SEAT).key / 32) (d.buildRecords 2)
    | 4 => filler ((Reg.TB_TB2CFG_PERIOD).key / 32) (d.buildRecords 4)
    | _ => s.2
  let secs := ss.flatMap fun s => sectionBytes s.1 (body s)
  let head := imageMagic ++ leBytes 2 1 ++ leBytes 2 (ofLe (slice active 6 2) ||| 1) ++ leBytes 4 (128 + secs.length + 64) ++
    leBytes 4 ((ofLe (slice active 12 4) + 1) % 2 ^ 32) ++ sha256 site ++ leBytes 1 1 ++ leBytes 3 0 ++ Config.persistKey ++ leBytes 12 0
  let whole := head ++ secs
  whole ++ Config.ecdsaSign Config.persistSecret k (sha256 whole)

end Sys2Proof.Machine
end

