-- ==== Sys2Proof/Machine/Txn.lean ====
section
/-! DEFINITION. Transactions: begin, shadows, commit, apply, persist and the two phases of a site change (R564 to R571); the
lifecycle (R99 to R102). -/

namespace Sys2Proof.Machine

/-- A refused host access: its code and address (SYS_REFUSE). -/
def Dev.refuse (d : Dev) (code addr : Nat) : Dev := (d.set Reg.SYS_REFUSE_CODE code).set Reg.SYS_REFUSE_ADDR addr

/-- The address of a register field. -/
def Fld.addr (f : Fld) : Nat := f.key / 32

/-! ### Begin and abort -/

/-- TXN_STATUS of the last transaction. -/
def Dev.txnShow (d : Dev) (state code agent handle : Nat) : Dev :=
  (((d.set Reg.TXN_STATUS_STATE state).set Reg.TXN_STATUS_CODE code).set Reg.TXN_STATUS_AGENT agent).set Reg.TXN_STATUS_HANDLE handle

/-- A read of TXN_BEGIN by an agent: the handle, or 0 with code 1 (R565). -/
def Dev.openTxn (d : Dev) (agent : Nat) : Dev × Nat :=
  if d.txn.isSome ∨ d.holding.isSome ∨ !d.mode.transacts then (d.refuse 1 Reg.TXN_BEGIN_HANDLE.addr, 0)
  else
    let h := d.nextHandle
    let d := { d with txn := some { agent := agent, handle := h, begun := d.now }, nextHandle := if h = 65535 then 1 else h + 1 }
    (d.txnShow 1 0 agent h, h)

def txnBegin (agent : Nat) (d : Dev) : Dev :=
  let (d, h) := d.openTxn agent
  d.emit (.answer 0 0 [h])

/-- The answer to a host write that gives a code: OK, or REFUSED with it (R575). -/
def Dev.answerCode (d : Dev) (code : Nat) : Dev := d.emit (.answer (if code = 0 then 0 else 2) code [])

/-- An open transaction ends by itself with a code (R568, R85): every shadow is discarded and EV003 is raised. -/
def Dev.abortTxn (d : Dev) (code : Nat) : Dev :=
  match d.txn with
  | none => d
  | some t => ({ d with txn := none }.txnShow 5 code t.agent t.handle).raise 3 0

/-- A write of a handle to TXN_ABORT (R568). -/
def Dev.closeTxn (d : Dev) (agent handle : Nat) : Dev × Nat :=
  let a := Reg.TXN_ABORT_HANDLE.addr
  match d.txn with
  | none => (d.refuse 2 a, 2)
  | some t =>
    if t.handle ≠ handle then (d.refuse 2 a, 2)
    else if t.agent ≠ agent then (d.refuse 9 a, 9)
    else ({ d with txn := none }.txnShow 5 0 t.agent t.handle, 0)

def txnAbort (agent handle : Nat) (d : Dev) : Dev :=
  let (d, code) := d.closeTxn agent handle
  d.answerCode code

/-- A transaction still open TXN_TIMEOUT after its begin (R568). -/
def txnTimeoutExpiry (d : Dev) : Dev := d.abortTxn 7

/-- The transaction has reached its expiry. -/
def Dev.txnExpired (d : Dev) (t : Txn) : Bool := decide (t.begun + 100000000 * d.get Reg.TXN_TIMEOUT_TIMEOUT ≤ d.now)

/-! ### Shadows (R566, R12) -/

/-- A locked RWL field (R11). -/
def Dev.lockedField (d : Dev) (f : FieldDesc) : Bool :=
  decide (f.acc = .rwl) && ((decide (f.lock = .commit) && d.locked) || (decide (f.lock = .seal) && d.sealed))

/-- The owner writes a register's transaction fields into its shadows; a locked field is noted and refuses the commit. -/
def Dev.shadowWrite (d : Dev) (t : Txn) (a v : Nat) (fs : List FieldDesc) : Dev :=
  let put := fun (t : Txn) (f : FieldDesc) =>
    let t := { t with writes := tput none t.writes (32 * a + f.lo) (some (v / 2 ^ f.lo % 2 ^ f.width)) }
    if d.lockedField f ∧ t.lockHit = none then { t with lockHit := some a } else t
  { d with txn := some (fs.foldl put t) }

/-- What the owner of the open transaction reads of a field: its shadow, if it has one. -/
def Dev.shadowRead (d : Dev) (agent key : Nat) : Option Nat :=
  match d.txn with
  | some t => if t.agent = agent then tget none t.writes key else none
  | none => none

/-! ### Commit -/


/-- The writes touch a key that a test holds of. -/
def touches (ws : Tbl (Option Nat)) (p : Nat → Bool) : Bool := ws.any fun w => p w.1

/-- From a lifecycle state only these changes are allowed (R99), and Sealed on the FXG640-L alone (R2). -/
def Dev.targetFrom (d : Dev) (st target : Nat) : Bool :=
  (decide (st = 0) && decide (target = 1)) || (decide (st = 1) && decide (target = 2) && d.isL) ||
  (decide (st < 3) && decide (target = 3))

/-- The lifecycle target that scheduled commits still bring, if any: the one of the last boundary (R567). -/
def Dev.targetAhead (d : Dev) : Option Nat :=
  (d.scheds.foldl (fun (best : Option (Nat × Nat)) s => match tget none s.writes Reg.SYS_LIFECYCLE_TARGET.key with
    | none => best
    | some v => match best with
      | some (r, w) => if r ≤ s.round then some (s.round, v) else some (r, w)
      | none => some (s.round, v)) none).map (·.2)

/-- A target is judged against the state in force together with every commit already scheduled (R99, R567). -/
def Dev.targetOk (d : Dev) (target : Nat) : Bool := d.targetFrom (d.targetAhead.getD d.lifecycle) target

/-- The address of the first locked field among a set of writes (R12): the locks in force, and the SEAL lock that a scheduled
commit brings before this one could apply (R102, R567). -/
def Dev.lockOf (d : Dev) (ws : Tbl (Option Nat)) : Option Nat :=
  let d := if d.targetAhead = some 2 then { d with sealed := true } else d
  (ws.find? fun w => match fieldAt w.1 with
    | some f => d.lockedField f
    | none => false).map fun w => w.1 / 32

/-- Why a set of writes may not be committed: code and address; none where it may (R12, R63, R65, R99, R540, R567). -/
def Dev.commitFault (d : Dev) (lockHit : Option Nat) (ws : Tbl (Option Nat)) : Option (Nat × Nat) :=
  let mode := fun (p : Nat → Bool) => (ws.find? fun w => p w.1).map fun w => w.1 / 32
  let bad := fun (key : Nat) => calibration (key / 32) || decide (key = Reg.SYS_LIFECYCLE_TARGET.key)
  match lockHit with
  | some a => some (4, a)
  | none =>
  match (if d.mode ≠ .commission then mode bad else none) with
  | some a => some (3, a)
  | none =>
  match (if d.mode = .island then mode (fun k => siteField (k / 32)) else none) with
  | some a => some (3, a)
  | none =>
  if !d.mode.transacts then some (3, Reg.TXN_COMMIT_HANDLE.addr)
  else if (match tget none ws Reg.SYS_LIFECYCLE_TARGET.key with
    | some v => !d.targetOk v
    | none => false) then some (10, Reg.SYS_LIFECYCLE_TARGET.addr)
  else match firstRange ws with
  | some a => some (5, a)
  | none =>
    let st := d.get Reg.MEM_RETSTAT_STATE
    if tget none ws Reg.MEM_RETIRE_GO.key = some 1 ∧ (st = 1 ∨ st = 2) then some (6, Reg.MEM_RETIRE_GO.addr)
    else (d.view (d.scheds.map (·.writes) ++ [ws])).firstRule d false fun ch =>
      touches ws fun k => calibration (k / 32) && decide ((k / 32 - 0x40141000) / 128 = ch)

/-- A commit is refused: every shadow is discarded. -/
def Dev.refuseCommit (d : Dev) (agent handle code addr : Nat) : Dev :=
  ((({ d with txn := none }.txnShow 6 code agent handle).set Reg.TXN_ERRADDR_VALUE addr).refuse code Reg.TXN_COMMIT_HANDLE.addr).raise 3 0

/-- The first round from `r` on whose boundary carries no other commit (R567). -/
def freeRound (taken : List Nat) : Nat → Nat → Nat
  | 0, r => r
  | fuel + 1, r => if taken.contains r then freeRound taken fuel (r + 1) else r

/-- The round at whose boundary a commit accepted now applies: at least 1 ms ahead (R567). -/
def Dev.nextApply (d : Dev) : Nat :=
  let len := max 1 d.roundNs
  freeRound (d.scheds.map (·.round)) (d.scheds.length + 1) ((d.time + 1000000 + len - 1) / len)

/-- A boundary that another module has named for a commit takes that one alone: a commit that stood on it moves to the next free boundary
(R567, R571). -/
def Dev.makeRoom (d : Dev) (r : Nat) : Dev :=
  let rounds := d.scheds.map (·.round)
  let next := freeRound rounds (d.scheds.length + 1) (r + 1)
  let mine := d.scheds.any fun s => decide (s.round = r) && decide (s.agent ≠ 11) && decide (s.handle = d.get Reg.TXN_STATUS_HANDLE)
  let d := { d with scheds := d.scheds.map fun s => if s.round = r then { s with round := next } else s }
  if mine then d.set Reg.TXN_APPLY_VALUE next else d

/-- Puts a commit on its boundary. -/
def Dev.schedule (d : Dev) (s : Sched) : Dev := { d with scheds := d.scheds ++ [s] }

/-- A committed calibration is stored in MRAM at once: a new generation, and EV079 (R402). -/
def Dev.storeCalibration (d : Dev) (ws : Tbl (Option Nat)) : Dev :=
  if touches ws fun k => calibration (k / 32) then
    ((d.set Reg.TAL_CALID_ID (d.get Reg.TAL_CALID_ID + 1)).modTally fun t => { t with calLost := false }).raise 79 0
  else d

/-- A commit is accepted: it locks the COMMIT fields, and waits for its boundary (R11, R567). -/
def Dev.accept (d : Dev) (s : Sched) : Dev := ({ d with locked := true }.schedule s).storeCalibration s.writes

/-- The stations whose keyholders are asked about a site change: members that are no guests (R571). -/
def Dev.peersAsked (d : Dev) : List Nat :=
  ((List.range 32).filter fun a => d.bit Reg.FAB_MEMBERS_BITS a && !d.bit Reg.FAB_GUESTS_BITS a &&
    decide (a ≠ d.get Reg.FAB_STATUS_ADDR) && decide ((tget {} d.fab.peers a).role ≠ 2)).map fun a => (tget {} d.fab.peers a).station

/-- The writes a station shares: module fields act only on the module that committed them (R570). -/
def stationWrites (ws : Tbl (Option Nat)) : Tbl (Option Nat) := ws.filter fun w => !moduleField (w.1 / 32) (w.1 % 32)

/-- The site fields among the writes, which the stations of the fabric share (R571). -/
def siteWrites (ws : Tbl (Option Nat)) : Tbl (Option Nat) := ws.filter fun w => siteField (w.1 / 32)

/-- The writes as words of a fabric or twin message. -/
def writeWords (ws : Tbl (Option Nat)) : List Nat := ws.flatMap fun w => [w.1, w.2.getD 0]

/-- The keyholder forwards a commit with its boundary to its lodger. The handle is the lodger's where the lodger committed, else 0
(R477, R570). -/
def Dev.tellLodger (d : Dev) (s : Sched) : Dev :=
  if d.duplex ∧ d.drives then
    d.emit (.twin 10 ([if s.agent = 11 then s.handle else 0, flag s.persist, s.round] ++ writeWords (stationWrites s.writes)))
  else d

/-- The first phase of a site change: a prepare goes to every station asked (R571). -/
def Dev.prepareSite (d : Dev) (s : Sched) : Dev :=
  let asked := d.peersAsked
  let d := { d with preparing := some { station := d.get Reg.FAB_CFG_STATION, sched := s, awaited := asked } }
  asked.foldl (fun d p => d.emit (.fabric p 9 ([1, s.handle] ++ writeWords (siteWrites s.writes)))) (d.set Reg.TXN_PHASE_FSTATE 1)

/-- A site change runs in two phases: other stations are members (R571). -/
def Dev.twoPhases (d : Dev) (ws : Tbl (Option Nat)) : Bool := touches ws (fun k => siteField (k / 32)) && !d.peersAsked.isEmpty

/-- The keys and values of an accepted commit go where they take effect: the boundary; to the keyholder from a lodger; to the
stations first, where a site field changes (R567, R570, R571). -/
def Dev.acceptCommit (d : Dev) (s : Sched) : Dev :=
  let d := { d with txn := none }
  if d.duplex ∧ !d.drives ∧ d.get Reg.DUP_LEASE_VALID = 1 then
    ({ d with sentUp := some s }.txnShow 2 0 s.agent s.handle).emit (.twin 10 ([s.handle, flag s.persist] ++ writeWords (stationWrites s.writes)))
  else if d.twoPhases s.writes then (d.txnShow 2 0 s.agent s.handle).prepareSite s
  else
    let s : Sched := { s with round := d.nextApply }
    (((d.accept s).txnShow 3 0 s.agent s.handle).set Reg.TXN_APPLY_VALUE s.round).tellLodger s

/-- Another site change is in its first phase, here or at a peer (R571). -/
def Dev.siteBusy (d : Dev) (ws : Tbl (Option Nat)) : Bool :=
  (d.holding.isSome || d.preparing.isSome) && touches ws fun k => siteField (k / 32)

/-- A write of a handle to TXN_COMMIT (R567). It is also refused while another site change is in its first phase, and on a lodger
while a commit it sent up waits for its boundary (R570, R571). -/
def Dev.commitTxn (d : Dev) (agent handle : Nat) (persist : Bool) : Dev × Nat :=
  let a := Reg.TXN_COMMIT_HANDLE.addr
  match d.txn with
  | none => (d.refuse 2 a, 2)
  | some t =>
    if t.handle ≠ handle then (d.refuse 2 a, 2)
    else if t.agent ≠ agent then (d.refuse 9 a, 9)
    else if d.txnExpired t then (d.refuseCommit agent handle 7 a, 7)
    else match d.commitFault (t.lockHit.or (d.lockOf t.writes)) t.writes with
      | some (code, addr) => (d.refuseCommit agent handle code addr, code)
      | none =>
        if d.siteBusy t.writes ∨ d.sentUp.isSome then (d.refuseCommit agent handle 1 a, 1)
        else (d.acceptCommit { handle := handle, agent := agent, persist := persist, writes := t.writes }, 0)

def txnCommit (agent handle : Nat) (persist : Bool) (d : Dev) : Dev :=
  let (d, code) := d.commitTxn agent handle persist
  d.answerCode code

/-! ### The lifecycle (R99 to R103) -/

/-- The lifecycle takes a new state that R99 and R2 allow: the Strongbox is wiped first; Provisioned and Sealed make a new meter key; the configuration
key is pinned on the change to Provisioned, and Decommissioned clears the pin (R559). -/
def Dev.setLifecycle (d : Dev) (target : Nat) : Dev :=
  let was := d.lifecycle
  let d := (d.wipeBox.set Reg.SYS_LIFECYCLE_STATE target).raise 12 0
  let d := if target = 1 ∨ target = 2 then
      let (k, d) := d.free
      { d with box := { d.box with meter := some (Config.newSecret k) } }
    else d
  let d := if target = 2 then { d with sealed := true } else d
  if was = 0 ∧ target = 1 then
    match d.copyImage (decide (d.get Reg.SYS_TAB_ACTIVE = 1)) with
    | some img => { d with pinned := sha256 (slice img 52 64) }
    | none => d
  else if target = 3 then { d with pinned := [] } else d

/-! ### Apply (R567, R253, R117) -/

/-- One value takes effect: the committed value, over a running one. -/
def Dev.applyOne (d : Dev) (p : Nat × Option Nat) : Dev :=
  match p.2 with
  | none => d
  | some v =>
    if p.1 = Reg.SYS_LIFECYCLE_TARGET.key then (if d.targetFrom d.lifecycle v then d.setLifecycle v else d)
    else if p.1 = Reg.TB_RTC_SEC_SEC.key then ((d.set Reg.TB_RTC_SEC_SEC v).set Reg.TB_RTC_FRAC_TICKS 0).raise 13 0
    else if p.1 / 32 = Reg.MEM_RETIRE_GO.addr then d
    else match fieldAt p.1 with
      | some f => { d with regs := tput 0 d.regs p.1 (v % 2 ^ f.width), running := tput none d.running p.1 none }
      | none => d

/-- Slots whose operation changes: BUMP clears and a return to automatic is preset (R252), and a slot that goes to manual takes its last automatic output, unless the
same transaction writes MANOUT (R253). -/
def Dev.applyModes (d was : Dev) (ws : Tbl (Option Nat)) : Dev :=
  forAll 128 d fun d i =>
    let now := d.get (Reg.TUN_SCFG_MODE i)
    if now = was.get (Reg.TUN_SCFG_MODE i) then d
    else
      let d := d.set (Reg.TUN_SSTAT_BUMP i) 0
      if now = 0 then d.modSlot i fun x => { x with wasManual := true }
      else if tget none ws (Reg.TUN_MANOUT_OUT i).key = none then
        { d with running := tput none d.running (Reg.TUN_MANOUT_OUT i).key none }.setI (Reg.TUN_MANOUT_OUT i) (d.getI (Reg.TUN_OUT_VALUE i))
      else d

/-- An outlet whose TYPE changes: the interface of its old kind powers down and that of its new kind wakes (R323); its connection is not
known; no sense is lost at TYPE 0 (R660). -/
def Dev.retype (d was : Dev) (n : Nat) : Dev :=
  let ty := d.get (Reg.OUT_CFG_TYPE n)
  if ty = was.get (Reg.OUT_CFG_TYPE n) then d
  else
    let l := if ty = 1 ∧ !d.links.plcFail.testBit n then 1 else if ty = 2 then 4 else 0
    let d := ((d.set (Reg.VLK_LINK_LSTATE n) l).setBit Reg.VLK_STATUS_MATCHED n false).setBit Reg.VLK_STATUS_T1SUP n false
    let d := (d.set (Reg.OUT_SESS_CONN n) 0).modOut n fun o => { o with conn := none }
    if ty = 0 then (d.modOut n fun o => { o with senseBad := 0 }).setBit Reg.STR_SENSE_LOST n false else d

/-- A due commit takes effect at once (R567). -/
def Dev.applyCommit (d : Dev) (s : Sched) : Dev :=
  let was := d
  let d := s.writes.foldl Dev.applyOne d
  let d := forAll 16 (d.applyModes was s.writes) fun d n => d.retype was n
  let d := match tget none s.writes Reg.MEM_RETIRE_GO.key, tget none s.writes Reg.MEM_RETIRE_BANK.key with
    | some 1, some b => d.startRetire b
    | some 1, none => d.startRetire 0
    | _, _ => d
  let d := forAll 16 d fun d k =>
    let base := (Reg.SAF_CONNCFG_MODE k).addr
    if touches s.writes fun key => decide (base ≤ key / 32) && decide (key / 32 < base + 16) then d.startConn k else d
  let d := ((d.derive).copyRatings).showManual
  let d := if touches s.writes fun k => siteField (k / 32) then d.setDigest Reg.FAB_DIGEST_DATA (sha256 d.siteBody) else d
  let d := if s.agent ≠ 11 ∧ d.get Reg.TXN_STATUS_HANDLE = s.handle ∧ d.get Reg.TXN_STATUS_STATE = 3 then d.set Reg.TXN_STATUS_STATE 4 else d
  let d := if s.persist then { d with persistDue := true } else d
  d.showUnpersisted

/-- The commits due at the boundary of the present round. -/
def Dev.applyDue (d : Dev) : Dev :=
  let due := d.scheds.filter fun s => decide (s.round ≤ d.round)
  due.foldl Dev.applyCommit { d with scheds := d.scheds.filter fun s => decide (d.round < s.round) }

/-- A commit of the partner lodger (agent 11) reaches the keyholder, which validates it, chooses its boundary and sends it back; a site
change goes to the stations first (R570, R571). -/
def Dev.commitFor (d : Dev) (handle : Nat) (persist : Bool) (writes : List (Nat × Nat)) : Dev :=
  let ws : Tbl (Option Nat) := stationWrites (writes.foldl (fun t w => tput none t w.1 (some w.2)) [])
  let unknown := ws.any fun w => match fieldAt w.1 with
    | some f => !txnField (w.1 / 32) f
    | none => true
  match (if unknown then some (6, 0) else d.commitFault (d.lockOf ws) ws) with
  | some (code, _) => d.emit (.twin 11 [handle, code])
  | none =>
    let s : Sched := { round := d.nextApply, handle := handle, agent := 11, persist := persist, writes := ws }
    if d.siteBusy ws then d.emit (.twin 11 [handle, 1])
    else if d.twoPhases ws then d.prepareSite s
    else (d.accept s).tellLodger s

/-- The keyholder's commit, with its boundary, reaches the lodger; one that the lodger itself sent up carries its module fields
too (R570). -/
def Dev.commitDown (d : Dev) (round handle : Nat) (persist : Bool) (writes : List (Nat × Nat)) : Dev :=
  let ws : Tbl (Option Nat) := stationWrites (writes.foldl (fun t w => tput none t w.1 (some w.2)) [])
  let ws := ws.filter fun w => match fieldAt w.1 with
    | some f => txnField (w.1 / 32) f
    | none => false
  let d := d.makeRoom round
  match d.sentUp with
  | some s =>
    if s.handle = handle then
      let d := { d with sentUp := none }.accept { s with round := round }
      (d.txnShow 3 0 s.agent handle).set Reg.TXN_APPLY_VALUE round
    else d.accept { round := round, handle := handle, agent := 11, persist := persist, writes := ws }
  | none => d.accept { round := round, handle := handle, agent := 11, persist := persist, writes := ws }

/-- The keyholder refused the commit that this lodger sent up. -/
def Dev.refusedUp (d : Dev) (handle code : Nat) : Dev :=
  match d.sentUp with
  | some s => if s.handle = handle then ({ d with sentUp := none }.txnShow 6 code s.agent handle).raise 3 0 else d
  | none => d

/-! ### Persist (R569, R623) -/

/-- A persist that is due begins, unless one is running or the host holds the inactive copy. -/
def Dev.startPersist (d : Dev) : Dev :=
  if d.persistDue ∧ d.persisting = none ∧ d.get Reg.NVM_STATUS_HOLD = 0 then
    match d.copyImage (decide (d.get Reg.SYS_TAB_ACTIVE = 1)) with
    | none => d
    | some active =>
      let (k, d) := d.free
      { d with persistDue := false, persisting := some (d.buildImage active k) }.set Reg.TXN_PHASE_PSTATE 1
  else d

/-- The image is written to the copy that the pointer does not name and verified by steps 1 to 5 of R561; then the pointer moves.
`ok`: the flash took every byte. After a failed write the copy holds what it held (log 20). -/
def persistWriteComplete (ok : Bool) (d : Dev) : Dev :=
  match d.persisting with
  | none => d
  | some img =>
    let other := decide (d.get Reg.SYS_TAB_ACTIVE = 0)
    let d := { d with persisting := none }
    let d := if ok then d.putFlash (copyBase other) img else d
    let d := if ok ∧ d.copyOk other then
        ((d.set Reg.SYS_TAB_ACTIVE (flag other)).set Reg.TXN_PHASE_PSTATE 3).showUnpersisted
      else (d.set Reg.TXN_PHASE_PSTATE 4).set Reg.TXN_STATUS_CODE 12
    (d.raise 4 0).startPersist

/-! ### Site changes (R571) -/

/-- The prepare of this module is given up: the commit is refused with code 8, here or at the lodger that made it, and the stations
are told. -/
def Dev.giveUp (d : Dev) (p : Prepare) (peer : Nat) : Dev :=
  let d := ({ d with preparing := none }.set Reg.TXN_PHASE_FSTATE 4).set Reg.TXN_PHASE_PEER peer
  let d := if p.sched.agent = 11 then d.emit (.twin 11 [p.sched.handle, 8])
    else (d.txnShow 6 8 p.sched.agent p.sched.handle).raise 3 0
  p.awaited.foldl (fun d s => d.emit (.fabric s 9 [4, p.sched.handle])) d

/-- A prepare of another station: held and accepted, or answered with a code; it carries site fields alone. -/
def txnPrepareReceived (station handle : Nat) (writes : List (Nat × Nat)) (d : Dev) : Dev :=
  let answer := fun (d : Dev) code => d.emit (.fabric station 9 [2, handle, code])
  let ws : Tbl (Option Nat) := writes.foldl (fun t w => tput none t w.1 (some w.2)) []
  let mine := d.get Reg.FAB_CFG_STATION
  if !d.drives then d
  else
    let d := match d.preparing with
      | some p => if station < mine then d.giveUp p station else d
      | none => d
    let held : Bool := match d.holding with
      | some h => decide (h.station ≤ station)
      | none => false
    if d.preparing.isSome ∨ held then answer d 1
    else if ws.any fun w => !siteField (w.1 / 32) || (fieldAt w.1).isNone then answer d 6
    else match d.commitFault (d.lockOf ws) ws with
      | some (code, _) => answer d code
      | none =>
        let d := { d with holding := some { station := station, sched := { handle := handle, writes := ws } } }
        answer (d.set Reg.TXN_PHASE_FSTATE 2) 0

/-- Every answer accepts: a commit names a round at least 3 rounds ahead, here and at the stations. -/
def Dev.commitSite (d : Dev) (p : Prepare) : Dev :=
  let r := freeRound (d.scheds.map (·.round)) (d.scheds.length + 1) (d.round + 3)
  let s : Sched := { p.sched with round := r }
  let d := (({ d with preparing := none }.accept s).set Reg.TXN_PHASE_FSTATE 3).tellLodger s
  let d := if s.agent = 11 then d else (d.txnShow 3 0 s.agent s.handle).set Reg.TXN_APPLY_VALUE r
  p.awaited.foldl (fun d s => d.emit (.fabric s 9 [3, p.sched.handle, r])) d

/-- A peer's answer to this module's prepare. -/
def txnPrepareReply (station code : Nat) (d : Dev) : Dev :=
  match d.preparing with
  | none => d
  | some p =>
    if !p.awaited.contains station then d
    else if code ≠ 0 then d.giveUp p station
    else
      let p := { p with answered := if p.answered.contains station then p.answered else p.answered ++ [station] }
      if p.awaited.all p.answered.contains then d.commitSite p else { d with preparing := some p }

/-- 50 ms have passed and an answer is missing. -/
def txnPrepareTimeout (d : Dev) : Dev :=
  match d.preparing with
  | none => d
  | some p =>
    match p.awaited.filter fun s => !p.answered.contains s with
    | [] => d
    | s :: rest => d.giveUp p (rest.foldl min s)

/-- A peer's commit names the round of the change that is held. -/
def txnFabricCommit (station round : Nat) (d : Dev) : Dev :=
  match d.holding with
  | none => d
  | some p =>
    if p.station ≠ station then d
    else
      let s : Sched := { p.sched with round := round }
      (({ d with holding := none }.makeRoom round |>.schedule s).set Reg.TXN_PHASE_FSTATE 3).tellLodger s

/-- A held prepare rolls back. -/
def Dev.rollBack (d : Dev) : Dev := { d with holding := none }.set Reg.TXN_PHASE_FSTATE 4

def txnFabricAbort (station : Nat) (d : Dev) : Dev :=
  match d.holding with
  | none => d
  | some p => if p.station ≠ station then d else d.rollBack

/-- A prepare has been held for 1 s. -/
def txnPrepareHoldExpiry (d : Dev) : Dev := if d.holding.isSome then d.rollBack else d

end Sys2Proof.Machine
end

