-- ==== Sys2Proof/Machine/Nvm.lean ====
section
/-! DEFINITION. The flash as the host changes it through NVM_CMD, and the public keys (R620 to R624). -/

namespace Sys2Proof.Machine

/-- The size of the flash in bytes: that of SFDP, or the 16 MiB of the two copies where SFDP gives none (R554, R620). -/
def Dev.flashSize (d : Dev) : Nat := if d.get Reg.NVM_INFO_SIZE = 0 then 0x1000000 else 0x100000 * d.get Reg.NVM_INFO_SIZE

/-- A range of flash touches a copy. -/
def touchesCopy (b : Bool) (addr len : Nat) : Bool :=
  decide (addr < copyBase b + 0x800000) && decide (copyBase b < addr + len)

/-- Pointer as a copy: A (false), B (true). -/
def Dev.pointer (d : Dev) : Bool := decide (d.get Reg.SYS_TAB_ACTIVE = 1)

/-- Modes that refuse every operation (R622). -/
def Mode.nvmRefuses : Mode → Bool
  | .off | .boot | .selftest | .thermal | .lastGasp => true
  | _ => false

/-- An operation is refused: RESULT, failed, EV118 (R622). -/
def Dev.nvmRefuse (d : Dev) (result : Nat) : Dev :=
  ((d.set Reg.NVM_STATUS_STATE 3).set Reg.NVM_STATUS_RESULT result).raise 118 0

/-- Why an operation is refused: 0 not at all (R621, R622). -/
def Dev.nvmFault (d : Dev) (op addr src len : Nat) : Nat :=
  let range := match op with
    | 1 => decide (addr % 65536 ≠ 0 ∨ d.flashSize < addr + 65536)
    | 2 | 3 => decide (len = 0 ∨ 65536 < len ∨ src % 4 ≠ 0 ∨ 0x40000 < src + len ∨ d.flashSize < addr + len)
    | _ => false
  let n := if op = 1 then 65536 else len
  if d.mode.nvmRefuses then 1
  else if range then 4
  else if (op = 1 ∨ op = 2) ∧ d.mode ≠ .recovery ∧ touchesCopy d.pointer addr n then 2
  else if op = 2 ∧ d.get Reg.VLK_RELAYCFG_EN = 1 ∧ 0x18000 < src + len then 3
  else 0

/-- Starts an operation; one at a time (R621). The host's hold on the inactive copy begins with its first change (R623). -/
def Dev.nvmStart (d : Dev) (op copy : Nat) : Dev :=
  let addr := d.get Reg.NVM_ADDR_VALUE
  let src := d.get Reg.NVM_SRC_VALUE
  let len := d.get Reg.NVM_LEN_VALUE
  if d.nvm.isSome then d.refuse 1 Reg.NVM_CMD_OP.addr
  else
    let f := d.nvmFault op addr src len
    if f ≠ 0 then d.nvmRefuse f
    else
      let n := if op = 1 then 65536 else len
      let d := if (op = 1 ∨ op = 2) ∧ touchesCopy (!d.pointer) addr n then d.set Reg.NVM_STATUS_HOLD 1 else d
      ({ d with nvm := some { op := op, copy := copy, addr := addr, src := src, len := n } }.set Reg.NVM_STATUS_STATE 1).set
        Reg.NVM_STATUS_RESULT 0

def nvmErase (d : Dev) : Dev := d.nvmStart 1 0
def nvmProgram (d : Dev) : Dev := d.nvmStart 2 0
def nvmRead (d : Dev) : Dev := d.nvmStart 3 0
def nvmCheck (copy : Nat) (d : Dev) : Dev := d.nvmStart 4 copy
def nvmActivate (copy : Nat) (d : Dev) : Dev := d.nvmStart 5 copy

/-- The host's hold ends, and a postponed persist runs (R623). -/
def nvmRelease (d : Dev) : Dev :=
  if d.nvm.isSome then d.refuse 1 Reg.NVM_CMD_OP.addr
  else if d.mode.nvmRefuses then d.nvmRefuse 1
  else
    ((((d.set Reg.NVM_STATUS_HOLD 0).set Reg.NVM_STATUS_STATE 2).set Reg.NVM_STATUS_RESULT 0).raise 117 0).startPersist

/-- The result of checks 1 to 5 on a copy is shown (R621). -/
def Dev.showValid (d : Dev) (b ok : Bool) : Dev :=
  if b then d.set Reg.NVM_STATUS_VALIDB (flag ok) else d.set Reg.NVM_STATUS_VALIDA (flag ok)

def Dev.nvmDone (d : Dev) : Dev := ((d.set Reg.NVM_STATUS_STATE 2).set Reg.NVM_STATUS_RESULT 0).raise 117 0

/-- The running operation ends; `ok`: the flash reported no error. After an error the flash holds what it held (log 20). -/
def nvmOpComplete (ok : Bool) (d : Dev) : Dev :=
  match d.nvm with
  | none => d
  | some x =>
    let d := { d with nvm := none }
    if !ok then d.nvmRefuse 5
    else match x.op with
      | 1 => (d.putFlash x.addr (List.replicate 65536 0xFF#8)).nvmDone
      | 2 => (d.putFlash x.addr (d.sramBytes d.hostWin x.src x.len)).nvmDone
      | 3 => (d.writeRun 14 d.hostWin x.src (d.flashBytes x.addr x.len)).nvmDone
      | _ =>
        let b := decide (x.copy = 1)
        let good := d.copyOk b
        let d := d.showValid b good
        if !good then d.nvmRefuse 6
        else if x.op = 5 then
          (((d.set Reg.SYS_TAB_ACTIVE (flag b)).set Reg.NVM_STATUS_HOLD 0).nvmDone.showUnpersisted).startPersist
        else d.nvmDone

/-! ### Public keys (R624) -/

/-- The public key that NVM_PUBSEL.KEY selects, X then Y, each big-endian: 0 the meter key, 1 to 4 identity slots 0 to 3, 5 the fabric device
key, 6 the device persist key; 64 bytes on P-256, 132 on secp521r1, none for an empty slot and for 7 (R624). -/
def Dev.publicBytes (d : Dev) (key : Nat) : List Byte :=
  let of := fun (s : Option (List Byte)) (n : Nat) => match s with
    | some x => (Config.publicKey x ++ List.replicate n 0#8).take n
    | none => []
  match key with
  | 0 => of d.box.meter 64
  | 5 => of d.box.fabric 64
  | 6 => (Config.persistKey ++ List.replicate 64 0#8).take 64
  | 7 => []
  | k =>
    let s := tget {} d.box.ids (k - 1)
    of s.key (if s.curve = 1 then 132 else 64)

/-- NVM_PUBSEL.LEN shows the length of the selected key, and NVM_PUBDATA its bytes, four to a word, 0 beyond LEN (R624). -/
def Dev.showPublic (d : Dev) : Dev :=
  let b := d.publicBytes (d.get Reg.NVM_PUBSEL_KEY)
  forAll 33 (d.set Reg.NVM_PUBSEL_LEN b.length) fun d w => d.set (Reg.NVM_PUBDATA_DATA w) (ofLe (slice b (4 * w) 4))

end Sys2Proof.Machine
end

