-- ==== Sys2Proof/Machine/Rounds.lean ====
section
/-! DEFINITION. The allocation round: snapshot, grants, arcs, pencils and sheds at the round boundary; what the apply
boundary puts into effect; shed windows (R112 to R162, R177). -/

namespace Sys2Proof.Machine

/-! ### Pencils (R147 to R153) -/

/-- Fabric time in ns at which a SCHEDULE entry lapses, 10 s after its start. -/
def scheduleEnd (t : Trigger) : Nat := t.at_ + 10000000000

/-- A trigger of a kind (1 PLUGIN, 2 SCHEDULE, 3 DEPART) has lapsed. -/
def Dev.lapsed (d : Dev) (kind : Nat) (t : Trigger) : Bool :=
  match kind with
  | 1 => decide (t.at_ + d.get Reg.INK_SPECCFG_AGE_PLUG ≤ d.round)
  | 2 => decide (scheduleEnd t ≤ d.time)
  | _ => decide (t.at_ ≤ d.time)

/-- The entry that announces the next power above the inked grant: of those that have not lapsed the earliest. -/
def Dev.nextEntry (d : Dev) (n grant : Nat) : Option Trigger :=
  ((d.out n).schedule.filter fun t => !d.lapsed 2 t && decide (grant < t.amount)).foldl (fun best t => match best with
    | some b => if t.at_ < b.at_ then some t else some b
    | none => some t) none

/-- Energy still needed in J: what the vehicle reported, less what it has taken since (R147). -/
def Dev.energyLeft (d : Dev) (n : Nat) (t : Trigger) : Nat := ((t.amount : Int) - (d.netCount n - t.base) * 36 / 10).toNat

/-- The choice of a pencil: the trigger's kind, its power in W, and the start of its schedule entry. -/
structure Pick where
  kind : Nat := 0
  power : Nat := 0
  start : Nat := 0
deriving DecidableEq, Repr

/-- What a kind of trigger would pencil: the forecast in force, the next entry above the inked grant, or the energy still needed by
the departure where that exceeds the inked grant. -/
def Dev.pickOf (d : Dev) (n grant : Nat) : Nat → Option Pick
  | 1 => match (d.out n).plugin with
    | some t => if d.lapsed 1 t then none else some { kind := 1, power := 10000 * d.get (Reg.INK_OUTCFG_FORECAST n) }
    | none => none
  | 2 => (d.nextEntry n grant).map fun t => { kind := 2, power := t.amount, start := t.at_ }
  | _ => match (d.out n).depart with
    | some t =>
      let w := d.energyLeft n t * 1000000000 / (t.at_ - d.time)
      if d.lapsed 3 t ∨ w ≤ grant then none else some { kind := 3, power := w }
    | none => none

/-- The modes with pencilled actions (R63): in Standby they mirror the keyholder's. -/
def Mode.pencils : Mode → Bool
  | .standby | .idle | .serve | .island => true
  | _ => false

/-- The trigger pencilled: the largest power, among equals the lowest code (R147); none on an outlet without a vehicle
(INK_OUTFCV). -/
def Dev.pencilOf (d : Dev) (n grant : Nat) : Option Pick :=
  let ty := d.get (Reg.OUT_CFG_TYPE n)
  if d.get Reg.INK_CFG_SPEC_EN = 0 ∨ !d.mode.pencils ∨ (ty ≠ 1 ∧ ty ≠ 2) then none
  else [1, 2, 3].foldl (fun best k =>
    match best, d.pickOf n grant k with
    | none, some w => if w.power = 0 then none else some w
    | some b, some w => if b.power < w.power then some w else some b
    | b, none => b) none

/-- The voltage a pencilled arc is computed at (R149). -/
def Dev.pencilV (d : Dev) (n : Nat) : Nat :=
  if d.live n then (d.regV n).toNat else if (d.out n).vt ≠ 0 then (d.out n).vt else d.get (Reg.INK_OUTFCV_V n)

/-- A trigger that still stands, for one that has not lapsed. -/
def Dev.standing (d : Dev) (kind : Nat) (t : Option Trigger) : Option Trigger := t.filter fun t => !d.lapsed kind t

/-- Triggers of a kind lapse (R147). -/
def pencilTriggerLapse (n kind : Nat) (d : Dev) : Dev :=
  d.modOut n fun o => match kind with
    | 1 => { o with plugin := d.standing 1 o.plugin }
    | 2 => { o with schedule := o.schedule.filter fun t => !d.lapsed 2 t }
    | 3 => { o with depart := d.standing 3 o.depart }
    | _ => o

/-! ### Sheds (R156, R157, R160) -/

/-- Inserts a string after those that are hotter, or as hot and of a higher number. -/
def hotInsert (t : Nat → Int) (s : Nat) : List Nat → List Nat
  | [] => [s]
  | x :: xs => if t x < t s ∨ (t x = t s ∧ x < s) then s :: x :: xs else x :: hotInsert t s xs

def hotSort (t : Nat → Int) (ss : List Nat) : List Nat := ss.foldl (fun acc s => hotInsert t s acc) []

/-- No step on the outlet within 50 ms. -/
def Dev.calm (d : Dev) (n : Nat) : Bool :=
  match (d.out n).lastStep with
  | some t => decide (t + 50000000 ≤ d.now)
  | none => true

/-- The strings that a round would shed on an outlet's arc, the hottest first. -/
def Dev.shedOf (d : Dev) (n : Nat) : List Nat :=
  let o := d.out n
  let ss := (d.arcStrings n).filter fun s => d.inkState s = 1
  let cap := stringCap (d.get Reg.INK_CELLCFG_IMAX) (d.get Reg.INK_CELLCFG_PMAX) (d.regV n).toNat
  let load := 10 * o.senseI.natAbs
  let low := decide (o.loadN ≠ 0 ∧ o.loadSum < 100 * d.get Reg.INK_SHEDCFG_LO * o.loadN)
  let minAct := d.get Reg.INK_SHEDCFG_MINACT
  if d.get Reg.INK_CFG_SHED_EN = 1 ∧ d.mode.pencils ∧ low ∧ d.calm n ∧ minAct < ss.length ∧ o.shedStart = none then
    let ks := (List.range (ss.length + 1)).filter fun k =>
      decide (minAct ≤ ss.length - k ∧ 100 * load ≤ d.get Reg.INK_SHEDCFG_TGT * cap * (ss.length - k))
    (hotSort (fun s => (d.str s).snapT) ss).take (ks.foldl max 0)
  else []

/-! ### The round -/

/-- An outlet that shares a tie stuck closed with a live outlet earlier in allocation order: it is held at 0 (R111). -/
def Dev.stuckOut (d : Dev) (order : List Nat) (n : Nat) : Bool :=
  let rank := fun x => order.findIdx (· = x)
  (courseTies n).any fun t =>
    let other := if t = n then (n + 1) % 16 else t
    d.tieShut t && order.contains other && decide (rank other < rank n)

/-- The device power ceiling in W (R118). -/
def Dev.deviceCeiling (d : Dev) : Nat :=
  ((List.range 64).filter d.healthy).length * (10 * d.get Reg.INK_CELLCFG_PMAX) * d.therm.frac / 10240000

/-- The grants of a round after arc shaping, tie ratings and feeds, with their limiters. -/
structure Granted where
  grants : Watts
  limiters : Tbl Nat
deriving DecidableEq, Repr

/-- R121, R126, R127, R109, R111, R128: grants after the members' capacity, tie ratings, stuck ties and feed shares. -/
def Dev.settleGrants (d : Dev) (cs : List Claim) (g : Watts) (mem shed : Nat → List Nat) : Granted :=
  let order := cs.map (·.n)
  let draws : Tbl Draw := cs.map fun c => (c.n, { tables := d.shareTables c.n (mem c.n) (shed c.n), disch := c.disch })
  let draw := fun n => tget {} draws n
  let arcCap := fun (c : Claim) => d.capacity (mem c.n) c.v
  let tie := fun (c : Claim) => d.tieBound c.n c.v (draw c.n).tables
  let stuck := fun n => d.stuckOut order n
  let g1 := cs.foldl (fun t c =>
    let x := min (tget 0 g c.n) (arcCap c)
    let x := match tie c with
      | some b => min x b
      | none => x
    tput 0 t c.n (if stuck c.n then 0 else x)) []
  let g2 := [0, 1, 2, 3].foldl (fun t f => match d.feedShare f with
    | some w => d.feedCut f w draw order.reverse t
    | none => t) g1
  { grants := g2,
    limiters := cs.foldl (fun t c =>
      let feed := if tget 0 g2 c.n < tget 0 g1 c.n then tget 0 g2 c.n else c.dem + 1
      tput 0 t c.n (limiterOf c (tget 0 g2 c.n) (tget 0 g c.n) (arcCap c) (tie c) feed (stuck c.n))) [] }

/-- The causes of PRS_CURTAIL (R71, R177). While the budget left a grant below its demand (`short`): bit 0 where die throttling holds
the device ceiling below the share; else, of what limited the share, bit 2 the import limit, bit 3 the demand window, bit 4 a
division that gave the station less than the site budget, bit 5 the floor in Island. Bit 1 while a grant is below its demand and
the device budget holds work or the rail down; bit 6 where a feed share limited a grant; bit 3 also whenever the planned budget is
below the floors (R168). -/
def Dev.curtailBits (d : Dev) (ceil : Nat) (lims : List Nat) : Nat :=
  let p := d.purse
  let short := lims.contains 5
  let low := decide (ceil < p.share)
  let hot := low && decide (d.therm.frac < 10240000)
  let stale := decide (d.get Reg.PRS_STATUS_STALE = 1)
  let site := short && !low && decide (d.mode ≠ .island)
  flag (short && hot) + 2 * flag (decide (p.shedWork ≠ []) && lims.any fun l => decide (1 < l)) +
  4 * flag (site && !stale && p.planImport && !p.floorsUp) +
  8 * flag ((site && (stale || p.planWin)) || (p.floorsUp && !stale)) + 16 * flag (site && d.multi && decide (p.share < p.budget)) +
  32 * flag (short && !low && decide (d.mode = .island)) + 64 * flag (lims.contains 7)

/-- Computes a round from its snapshot (R113 to R160). -/
def Dev.computeRound (d : Dev) : RoundResult :=
  let cs := allocOrder d.claims
  let ceil := d.deviceCeiling
  let b := min d.purse.share ceil
  let g := grantsFor b cs
  -- shaping: release, then growth over free courses and the outlet's own pencilled ones (R124, R125, R151)
  let eligible := fun n c => d.takeable (decide (d.sess n = 9) && (d.pencilOf n (d.out n).grantW).isSome) n c
  let start := cs.map fun c => d.releaseEnds 16 (d.presentArc c.n (d.need c.n (tget 0 g c.n) c.v))
  let held := start.flatMap Shape.courses
  let shapes := d.grow eligible 16 start held
  let arcOf := fun n => match shapes.find? fun x => x.n = n with
    | some x => x.courses
    | none => []
  let mem := fun n => (arcOf n).filter fun c =>
    decide (d.get (Reg.INK_COURSE_STATE c) = 1) && decide (d.get (Reg.INK_COURSE_ARC c) = n)
  let sheds := (List.range 16).filterMap fun n => match d.shedOf n with
    | [] => none
    | ss => some (n, ss)
  let gr := d.settleGrants cs g mem fun n => tget [] sheds n
  -- leaves: members outside the shape, as long as the rest carries the grant in force (R138)
  let leaves := cs.flatMap fun c =>
    let rest := mem c.n
    if (d.out c.n).grantW ≤ d.capacity rest c.v then (d.members c.n).filter fun x => !rest.contains x else []
  let outs := (List.range 16).map fun n =>
    match cs.find? fun c => c.n = n with
    | none => {}
    | some c =>
      let x := tget 0 gr.grants n
      { live := true, demand := c.dem, cap := c.e, grant := x, limiter := tget 0 gr.limiters n,
        limit := if c.v = 0 then 0 else 100 * x / c.v, arc := arcOf n, ramp := c.ramp,
        stuck := d.stuckOut (cs.map (·.n)) c.n : OutResult }
  -- pencils over what is left (R147, R148); a course inked in this round is not pencilled
  let inked := shapes.flatMap Shape.courses
  let order := (List.range 4).flatMap fun k => (List.range 16).filter fun n => d.get (Reg.INK_OUTCFG_CLASS n) = k
  let wanted := order.filterMap fun n => (d.pencilOf n (tget 0 gr.grants n)).map fun t => (n, t)
  let base := wanted.filterMap fun w =>
    let n := w.1
    let need := d.need n w.2.power (d.pencilV n)
    match shapes.find? fun x => x.n = n with
    | some x => some { x with need := need }
    | none => if d.ownFree n ∧ !inked.contains n then some { n := n, cw := 0, ccw := 0, need := need } else none
  let pens := d.grow (d.takeable true) 16 base (inked ++ base.map (·.n))
  let pencils := (List.range 16).map fun n =>
    match wanted.find? fun w => w.1 = n with
    | none => {}
    | some w =>
      let whole := match pens.find? fun x => x.n = n with
        | some x => x.courses
        | none => []
      { trigger := w.2.kind, power := w.2.power, start := w.2.start, arc := whole.filter fun c => !inked.contains c && c ≠ n, whole := whole : PencilResult }
  let want := sumL (wanted.map fun w => w.2.power - tget 0 gr.grants w.1)
  let room := if d.multi ∧ d.mode ≠ .island then d.purse.headroom else b - total gr.grants
  { round := d.round, outs := outs, pencils := pencils, leaves := leaves, reserve := min want room,
    sheds := sheds, curtail := d.curtailBits ceil (cs.map fun c => tget 0 gr.limiters c.n) }

/-- INK_PENCIL.PENCILLED: the outlet holds a pencilled grant or a pencilled shed (R44, R154). -/
def Dev.showPencilled (d : Dev) (n : Nat) : Dev :=
  d.set (Reg.INK_PENCIL_PENCILLED n)
    (flag (decide (d.get (Reg.INK_PENCIL_TRIGGER n) ≠ 0) || decide (d.get (Reg.INK_PENCILMASK_SHED n) = 1)))

/-- An outlet holds no pencilled grant. -/
def Dev.clearPencil (d : Dev) (n : Nat) : Dev :=
  (((d.set (Reg.INK_PENCIL_TRIGGER n) 0).set (Reg.INK_PENCIL_AGE n) 0).set (Reg.INK_PENCIL_KW n) 0).showPencilled n

/-- The pencilled entries as the round shows them (R147). -/
def Dev.showPencils (d : Dev) (r : RoundResult) : Dev :=
  forAll 16 d fun d n =>
    let p := r.pencils.getD n {}
    if p.trigger = 0 then d.clearPencil n
    else
      let age := if d.get (Reg.INK_PENCIL_TRIGGER n) ≠ 0 then d.get (Reg.INK_PENCIL_AGE n) + 1 else 1
      (((d.set (Reg.INK_PENCIL_TRIGGER n) p.trigger).setSat (Reg.INK_PENCIL_AGE n) age).setSat (Reg.INK_PENCIL_KW n)
        (p.power / 1000)).showPencilled n

/-- Where the inked shaping takes every course of a pencilled arc, the pencil is inked and its trigger spent (R151). -/
def Dev.spendTriggers (d : Dev) (r : RoundResult) : Dev :=
  forAll 16 d fun d n =>
    let p := r.pencils.getD n {}
    let held := (List.range 16).filter (d.pencilHeld n)
    let arc := (r.outs.getD n {}).arc
    if p.trigger ≠ 0 ∧ held ≠ [] ∧ held.all arc.contains ∧ p.whole.all arc.contains then
      (d.modOut n fun o => { o with
        plugin := if p.trigger = 1 then none else o.plugin,
        schedule := if p.trigger = 2 then o.schedule.filter fun t => t.at_ ≠ p.start else o.schedule,
        depart := if p.trigger = 3 then none else o.depart }).clearPencil n
    else d

/-- The snapshot of a round: string temperatures, and the courses whose hold has ended (R113, R137, R140, R111, R134). -/
def Dev.snapshot (d : Dev) : Dev :=
  let d := forAll 64 d fun d s => d.modStr s fun x => { x with snapT := toSigned 12 x.up.temp }
  let d := forAll 16 d Dev.thaw
  let d := forAll 16 d Dev.unwall
  (forAll 16 d Dev.settleStuck).countHealthy

/-- The round that a round boundary begins: division, result, pencils, post (R113, R169 to R171). -/
def Dev.runRound (d : Dev) : Dev :=
  let d := d.snapshot
  let d := d.divideRound
  let r := d.computeRound
  let d := (d.showPencils r).spendTriggers r
  let want := sumL ((List.range 16).map fun n => (r.pencils.getD n {}).power - (r.outs.getD n {}).grant)
  let d := d.modPurse fun p => { p with request := want }
  let d := if d.get Reg.PRS_RESERVE_W < r.reserve then d.setSat Reg.PRS_RESERVE_W r.reserve else d
  let d := forAll 16 d fun d n => d.modOut n fun o => { o with loadSum := 0, loadN := 0 }
  let d := { d with result := some r }.set Reg.INK_STATUS_RUN 1
  d.post

/-! ### The apply boundary (R114 to R117, R129 to R136, R150 to R158) -/

/-- A of R114 in periods. -/
def Dev.applyAfter (d : Dev) : Nat := (3000 + d.periodUs - 1) / max 1 d.periodUs

/-- Strings that carry an outlet's shares in the arc to be, in ascending number. -/
def Dev.futureStrings (d : Dev) (cs : List Nat) : List Nat :=
  (List.range 64).filter fun s => cs.contains (s / 4) && d.healthy s

/-- The outlet may take courses: its arc has the outlet's voltage. -/
def Dev.mayJoin (d : Dev) (n : Nat) : Bool :=
  let st := d.sess n
  decide (st = 9 ∨ st = 10) || (decide (st = 8) && (d.out n).preDone)

/-- Courses the shaped arc takes: parked ones begin their joins; the outlet's own pencilled ones are inked, and those that
wait at step 6 take up their shares (R131, R136, R151). -/
def Dev.inkJoins (d : Dev) (n : Nat) (arc : List Nat) : Dev :=
  if !d.mayJoin n then d
  else
    let fut := d.futureStrings arc
    let ready := arc.any fun c => d.pencilHeld n c && decide ((d.course c).step = 6)
    let d := arc.foldl (fun d c =>
      if d.pencilHeld n c then d.modCourse c fun x => { x with pencil := false }
      else if d.get (Reg.INK_COURSE_STATE c) = 0 ∧ (d.course c).step = 0 ∧ c ≠ n then d.startJoin c n false fut
      else d) d
    if ready then d.startRamp n else d

/-- Pencilled moves begin, once the outlet's precharge is complete; those whose pencil is gone are reversed (R150, R153, R299). -/
def Dev.movePencils (d : Dev) (r : RoundResult) : Dev :=
  forAll 16 d fun d n =>
    let p := r.pencils.getD n {}
    let ink := (r.outs.getD n {}).arc
    let d := (List.range 16).foldl (fun d c =>
      if d.pencilHeld n c ∧ !p.arc.contains c ∧ !ink.contains c then d.reversePencil c else d) d
    let fut := d.futureStrings p.whole
    if !d.mayJoin n then d else p.arc.foldl (fun d c =>
      if d.get (Reg.INK_COURSE_STATE c) = 0 ∧ (d.course c).step = 0 then d.startJoin c n true fut else d) d

/-- An outlet's inked grant (R119 to R123, R145). A session that a stuck tie newly holds at 0 raises its outlet's event (R111), which
names no cause bit: the model's choice is GRANT0, the bit of a grant of zero (log 107). -/
def Dev.inkGrant (d : Dev) (n : Nat) (x : OutResult) : Dev :=
  let on := x.live && d.live n
  let g := if on then x.grant else 0
  let held := on && x.stuck
  let d := if held ∧ !(d.out n).stuckHold then d.raiseOut n Reg.OUT_EVCAUSE_GRANT0 else d
  let d := d.modOut n fun o => { o with grantW := g, limit := if on then x.limit else 0, stuckHold := held }
  let d := (d.setSat (Reg.INK_GRANT_KW n) (g / 1000)).set (Reg.INK_GRANT_LIMITER n) (if on then x.limiter else 0)
  let d := d.set (Reg.INK_GRANT_COURSES n) (d.members n).length
  if on then (d.arcStrings n).foldl (fun d s => d.set (Reg.STR_STRSTAT_RAMP s) x.ramp) d else d

/-- A shed window opens (R158): the strings to be shed and the weights and phases before it. -/
def Dev.openShed (d : Dev) (n : Nat) (ss : List Nat) : Dev :=
  let ss := ss.filter fun s => d.inkState s = 1
  if ss = [] ∨ !d.calm n ∨ !d.live n then d
  else
    let act := d.sharing n
    let d := d.modOut n fun o => { o with
      shedStart := some d.period, shedSet := ss, shedDone := false,
      shedWas := act.foldl (fun t s => tput 0 t s (d.weight s)) [],
      shedWasPhase := act.foldl (fun t s => tput 0 t s (d.get (Reg.INK_STRING_PHASE s))) [] }
    let d := ss.foldl (fun d s => d.set (Reg.INK_STRING_STATE s) 2) d
    ((d.set (Reg.INK_PENCILMASK_SHED n) 1).set (Reg.INK_PENCILMASK_SHEDCOUNT n) ss.length).showPencilled n

/-- The shed window's length in control periods. -/
def Dev.shedLen (d : Dev) : Nat := max 1 (2000 / max 1 d.periodUs)

/-- The weights through a shed window, at a control-period boundary (R158): from those before it, or those of a weight ramp that
goes on (R653), to those of the remaining strings alone. -/
def Dev.shedStep (d : Dev) (n : Nat) : Dev :=
  let o := d.out n
  match o.shedStart with
  | none => d
  | some p =>
    let ss := d.sharing n
    let rest := ss.filter fun s => !o.shedSet.contains s
    let equal := shareOut (d.rawWeights rest)
    let target := if o.rampStart = none then equal else keepShares rest o.shedWas equal
    let to_ := ss.map fun s => (s, tget 0 target s)
    d.setWeights (rampWeights o.shedWas to_ (min d.shedLen (d.period - p)) d.shedLen)

def Dev.closeShed (d : Dev) (n : Nat) : Dev :=
  let d := d.modOut n fun o => { o with shedStart := none, shedSet := [], shedDone := false, shedWas := [], shedWasPhase := [] }
  ((d.set (Reg.INK_PENCILMASK_SHED n) 0).set (Reg.INK_PENCILMASK_SHEDCOUNT n) 0).showPencilled n

/-- A step inside the window: the weights and phases before it return and the shed is rubbed out (R159). -/
def Dev.abortShed (d : Dev) (n : Nat) : Dev :=
  let o := d.out n
  if o.shedStart.isNone then d
  else
    let d := o.shedSet.foldl (fun d s => if d.inkState s = 2 then d.set (Reg.INK_STRING_STATE s) 1 else d) d
    let mine := fun (d : Dev) s => decide (d.inkState s = 1 ∨ d.inkState s = 6)
    let d := o.shedWas.foldl (fun d p => if mine d p.1 then d.setWeight p.1 p.2 else d) d
    let d := o.shedWasPhase.foldl (fun d p => if mine d p.1 then d.set (Reg.INK_STRING_PHASE p.1) p.2 else d) d
    d.closeShed n

/-- The end of a shed window: the shed is inked at the control-period boundary that follows, so that a step of the same period still
aborts it (R158, R162). -/
def shedWindowEnd (n : Nat) (d : Dev) : Dev :=
  if (d.out n).shedStart.isNone then d else d.modOut n fun o => { o with shedDone := true }

/-- The shed is inked: its strings stop switching (R158). -/
def Dev.inkShed (d : Dev) (n : Nat) : Dev :=
  let o := d.out n
  if o.shedStart.isNone ∨ !o.shedDone then d
  else
    let d := o.shedSet.foldl (fun d s =>
      if d.inkState s = 2 then (d.set (Reg.INK_STRING_STATE s) 3).setWeight s 0 else d) d
    (d.closeShed n).reshareArc n

/-- Every shed string of an arc rejoins at once, with no window (R161); a further shed whose window is open is rubbed out. -/
def Dev.rejoinShed (d : Dev) (n : Nat) : Dev :=
  let ss := (d.arcStrings n).filter fun s => d.inkState s = 3
  if ss = [] then d else (ss.foldl (fun d s => d.set (Reg.INK_STRING_STATE s) 1) (d.abortShed n)).shareNow n

/-- Strings of the arc's members that were readmitted carry current again; then the weights follow the snapshot (R139 to
R142). -/
def Dev.refreshShares (d : Dev) (n : Nat) : Dev :=
  if d.sess n < 9 ∨ 11 < d.sess n ∨ d.arcHeld n ∨ (d.out n).rampStart.isSome ∨ (d.out n).shedStart.isSome then d
  else
    let ss := ((d.members n).flatMap courseStrings).filter fun s => d.healthy s && d.inkState s = 0 && (d.str s).identDue = 0
    (ss.foldl (fun d s => d.set (Reg.INK_STRING_STATE s) 1) d).shareNow n

/-- INK_PENCILMASK.COURSES. -/
def Dev.maskPencils (d : Dev) : Dev :=
  forAll 16 d fun d n => d.set (Reg.INK_PENCILMASK_COURSES n) (outletBits fun c =>
    decide ((d.course c).arc = n) && (d.course c).pencil && decide ((d.course c).step ≠ 0))

/-- A course that a dissolved arc or a reversed pencil left at step 6 begins its leave again (R132). -/
def Dev.leaveAgain (d : Dev) (c : Nat) : Dev :=
  if (d.course c).again then
    (d.modCourse c fun x => { x with step := 2, again := false }).set (Reg.INK_COURSE_STATE c) 3
  else d

/-- Puts a round's result into effect. -/
def Dev.applyRound (d : Dev) (r : RoundResult) : Dev :=
  let d := forAll 16 d Dev.leaveAgain
  let d := d.movePencils r
  let d := forAll 16 d fun d n => if d.live n then d else d.dissolve n
  let d := r.leaves.foldl (fun d c =>
    let n := d.get (Reg.INK_COURSE_ARC c)
    if d.get (Reg.INK_COURSE_STATE c) = 1 ∧ n < 16 ∧ c ≠ n ∧ d.live n then d.startLeave c n false else d) d
  let d := forAll 16 d fun d n => d.inkJoins n (r.outs.getD n {}).arc
  let d := forAll 16 d fun d n => d.inkGrant n (r.outs.getD n {})
  let d := forAll 16 d Dev.refreshShares
  let d := r.sheds.foldl (fun d x => d.openShed x.1 x.2) d
  let d := (d.setSat Reg.PRS_RESERVE_W r.reserve).maskPencils
  let c := r.curtail
  let d := ((((((d.set Reg.PRS_CURTAIL_THROTTLE c).set Reg.PRS_CURTAIL_DEVBUDGET (c / 2)).set Reg.PRS_CURTAIL_IMPORT (c / 4)).set
    Reg.PRS_CURTAIL_WINDOW (c / 8)).set Reg.PRS_CURTAIL_FABRIC (c / 16)).set Reg.PRS_CURTAIL_ISLAND (c / 32)).set
    Reg.PRS_CURTAIL_FEED (c / 64)
  let d := d.set Reg.SYS_STATUS_CURTAIL (flag (decide (c ≠ 0 ∧ d.mode.working)))
  (d.set Reg.INK_ROUND_NUM r.round).setSat Reg.INK_STATUS_APPLY d.applyAfter

/-- The apply boundary of the round (R114 to R116); `ready`: its result is computed. -/
def applyBoundary (ready : Bool) (d : Dev) : Dev :=
  match d.result with
  | none => d
  | some r =>
    let d := { d with result := none }
    if !d.mode.innkeeps then d
    else if ready then d.applyRound r
    else (d.addSat Reg.INK_STATUS_LATE 1).raise 8 0

end Sys2Proof.Machine
end

