-- ==== Sys2Proof/Machine/Tuning.lean ====
section
/-! DEFINITION. The tuning aids: the pluck test and the bow sweep (R261 to R272). -/

namespace Sys2Proof.Machine

/-- One tuning aid runs at a time (R261). -/
def Dev.tuningBusy (d : Dev) : Bool := d.pluck.on || d.bow.on

/-- The keyholder forwards a tuning command to the lodger (R262). -/
def Dev.forwardTuning (d : Dev) (cmd : Nat) : Dev := if d.duplex ∧ d.drives then d.emit (.twin 22 [cmd]) else d

def Dev.pluckRefuse (d : Dev) (cause : Nat) : Dev :=
  ((d.set Reg.TUN_PLUCKSTAT_STATE 5).set Reg.TUN_PLUCKSTAT_CAUSE cause).raise 60 0

/-- A write of TUN_CMD.PLUCK: the start waits for the next round boundary; a lodger refuses it (R262). -/
def tunCmdPluck (d : Dev) : Dev :=
  if !d.drives then d.pluckRefuse 8 else ({ d with pluck := { d.pluck with want := true } }).forwardTuning 1

/-- An outlet (below 16) has a connection. -/
def Dev.connected (d : Dev) (n : Nat) : Bool := decide (n < 16) && decide ((d.out n).conn = some true)

/-- R261: where a pluck test may run. A lodger, which stands in Standby, mirrors the start that its keyholder forwarded (R262). -/
def Dev.pluckAllowed (d : Dev) (i : Nat) : Bool :=
  let n := d.slotOutlet i
  decide (80 ≤ i ∧ i < 128) &&
  (decide (d.mode = .commission) || d.mirrors ||
   ((decide (d.mode = .idle) || decide (d.mode = .serve) || decide (d.mode = .island)) && decide (n < 16) && !d.connected n))

/-- Why a requested test of slot i does not start (R262): its cause; 0 where it starts. -/
def Dev.pluckBar (d : Dev) (i : Nat) : Nat :=
  let bias : Int := d.get Reg.TUN_PLUCKOUT_BIAS
  let amp : Int := d.get Reg.TUN_PLUCKOUT_AMP
  if !d.pluckAllowed i then 8
  else if d.tuningBusy then 9
  else if bias - amp < d.getI (Reg.TUN_UMIN_LIMIT i) ∨ d.getI (Reg.TUN_UMAX_LIMIT i) < bias + amp ∨
      d.get Reg.TUN_PLUCKERR_ABORT ≤ 4 * d.get Reg.TUN_PLUCKERR_HYST then 10
  else if d.get (Reg.TUN_SSTAT_POISON i) = 1 then 7
  else if d.get (Reg.TUN_SSTAT_STATE i) = 3 then 5
  else 0

/-- The start of a requested test at a round boundary, or its refusal, which ends the lodger's too (R262). -/
def Dev.startPluck (d : Dev) : Dev :=
  if !d.pluck.want then d
  else
    let i := d.get Reg.TUN_PLUCKCFG_SLOT
    let d := { d with pluck := { d.pluck with want := false } }
    if d.pluckBar i ≠ 0 then
      let r := d.pluckRefuse (d.pluckBar i)
      if d.pluck.on then r else r.forwardTuning 2
    else
      let d := { d with pluck := { on := true, slot := i, startAt := d.now, modeAt := d.mode.code,
                                   wasManual := decide (d.get (Reg.TUN_SCFG_MODE i) = 1),
                                   connAt := d.connected (d.slotOutlet i) } }
      (((d.set Reg.TUN_PLUCKSTAT_STATE 1).set Reg.TUN_PLUCKSTAT_CAUSE 0).set Reg.TUN_PLUCKSTAT_CYCLE 0).set
        Reg.TUN_PLUCKSTAT_ELAPSED 0

def tunCmdPluckstop (d : Dev) : Dev :=
  if d.pluck.on then { d with pluck := { d.pluck with stop := true } }.forwardTuning 2 else d

/-- The slot returns to its operation before the test: automatic with I preset from BIAS, or manual (R266). -/
def Dev.endPluck (d : Dev) : Dev :=
  let p := d.pluck
  let bias : Int := d.get Reg.TUN_PLUCKOUT_BIAS
  let d := if p.wasManual then d.setI (Reg.TUN_OUT_VALUE p.slot) (d.getI (Reg.TUN_MANOUT_OUT p.slot))
    else d.modSlot p.slot fun x => { x with presetBias := some bias }
  { d with pluck := { on := false } }

/-- π × 10¹⁸, rounded down. -/
def piScaled : Nat := 3141592653589793238

/-- Ku in Q16.16, from the sum `s` of `n` full swings: the largest value not above 4 AMP / (π √(a² − HYST²)) with
a = s / 2n, or the next above it (R264; log 13). -/
def ultimateGain (amp hyst s n : Nat) : Nat :=
  let rhs := (4 * amp * 65536 * 10 ^ 18) ^ 2 * (4 * n * n)
  let r := bisect (fun r => decide ((r * piScaled) ^ 2 * (s * s - 4 * n * n * hyst * hyst) ≤ rhs)) 40 0
  r + flag (Config.roundsUp (r : Int) 0)

/-- The last measured cycle ends (R264). -/
def pluckTestComplete (d : Dev) : Dev :=
  let p := d.pluck
  let n := d.get Reg.TUN_PLUCKCFG_CYCLES
  if !p.on ∨ n = 0 ∨ p.lens.length < n + 2 then d
  else
    let lens := (p.lens.drop 2).take n
    let swings := (p.halves.drop 2).take n
    let sum := sumL lens
    let s := (swings.foldl (· + ·) 0).toNat
    let hyst := d.get Reg.TUN_PLUCKERR_HYST
    let uneven := lens.any fun x => decide (sum < 5 * ((x * n : Nat) - (sum : Int)).natAbs)
    let d := if s ≤ 4 * hyst * n ∨ uneven then d.set Reg.TUN_PLUCKSTAT_STATE 4
      else
        let ku := ultimateGain (d.get Reg.TUN_PLUCKOUT_AMP) hyst s n
        let d := (d.setSat Reg.TUN_PLUCKKU_VALUE ku).setSat Reg.TUN_PLUCKTU_VALUE (quot sum (n * 1000000)).toNat
        let d := d.setSat Reg.TUN_PLUCKA_VALUE (quot s (2 * n)).toNat
        let d := d.setSat Reg.TUN_PLUCKKP_VALUE (quot (45 * ku) 100).toNat
        let d := d.setSat Reg.TUN_PLUCKKI_VALUE (quot (54 * ku * 1000000000 * n) (100 * sum)).toNat
        let fret := fun (d : Dev) f (brk : Int) kpm kim =>
          ((d.setSat (Reg.TUN_PLUCKSUG_BRK f) brk.toNat).set (Reg.TUN_PLUCKSUGM_KPM f) kpm).set (Reg.TUN_PLUCKSUGM_KIM f) kim
        let d := fret (fret (fret d 0 0 2048 4096) 1 (quot s n) 4096 4096) 2 (quot (4 * s) n) 6144 2048
        d.set Reg.TUN_PLUCKSTAT_STATE 2
    (d.endPluck).raise 60 0

/-- Why a running test aborts (R265); 0 for no reason. -/
def Dev.pluckAbortCause (d : Dev) : Nat :=
  let p := d.pluck
  let n := d.slotOutlet p.slot
  if p.stop then 1
  else if p.exceeded then 3
  else if p.startAt + 1000000000 * d.get Reg.TUN_PLUCKCFG_TIMEOUT ≤ d.now then 2
  else if p.connHit ∨ (d.connected n ∧ !p.connAt) then 4
  else if p.block ∨ d.mode = .safeHold then 5
  else if p.modeHit ∨ d.mode.code ≠ p.modeAt then 6
  else if p.poisoned then 7
  else 0

def pluckTestAbort (d : Dev) : Dev :=
  let c := d.pluckAbortCause
  if !d.pluck.on ∨ c = 0 then d
  else
    (((d.set Reg.TUN_PLUCKSTAT_STATE 3).set Reg.TUN_PLUCKSTAT_CAUSE c).endPluck).raise 60 0

/-! ### The bow sweep -/

def Dev.bowRefuse (d : Dev) (cause : Nat) : Dev :=
  ((d.set Reg.TUN_BOWSTAT_STATE 5).set Reg.TUN_BOWSTAT_CAUSE cause).raise 61 0

/-- The outlet whose dummy load a slot works on: an outlet slot's own, a string slot's arc's. -/
def Dev.bowOutlet (d : Dev) (i : Nat) : Nat := if i < 16 then i else d.get (Reg.INK_COURSE_ARC ((i - 16) / 4))

/-- The configuration lies in its ranges (R268, R270, and the fields of TUN_BOWCFG and TUN_BOWPRBS). -/
def Dev.bowCfgOk (d : Dev) : Bool :=
  let amp := d.get Reg.TUN_BOWCFG_AMP
  let f0 := d.get Reg.TUN_BOWSINE_F0
  let f1 := d.get Reg.TUN_BOWSINE_F1
  decide (1 ≤ amp ∧ amp ≤ 50) && decide (d.get Reg.TUN_BOWCFG_DECIM ≠ 0) &&
  (if d.get Reg.TUN_BOWCFG_SIGNAL = 3 then
    decide (f0 ≠ 0 ∧ f0 ≤ f1 ∧ f1 * 8 * d.periodUs ≤ 10000000 ∧ 2 ≤ d.get Reg.TUN_BOWSINE2_STEPS ∧
      2 ≤ d.get Reg.TUN_BOWSINE2_DWELL)
   else decide (d.get Reg.TUN_BOWPRBS_CHIP ≠ 0))

/-- The capture bank goes back to the free banks (R271). -/
def Dev.freeCapture (d : Dev) : Dev :=
  if d.bow.held then
    let b := d.bow.bank
    (({ d with bow := { d.bow with held := false } }.set Reg.TUN_BOWSTAT_SAMPLES 0).set (Reg.MEM_BANKOWN_OWNER b) 0).settleFree b
  else d

/-- A free general bank, one that is On first. -/
def Dev.freeBank (d : Dev) : Option Nat :=
  let frees := (List.range 64).filter fun b => d.handable b && decide (d.owner b = 0)
  match frees.find? fun b => decide (d.bankPwr b = 0) with
  | some b => some b
  | none => frees.head?

/-- The start of a bow sweep (R267, R271). With no free general bank the start is refused as busy, which is the model's choice (log
118). A lodger mirrors the start that its keyholder forwarded. -/
def Dev.beginBow (d : Dev) : Dev :=
  let i := d.get Reg.TUN_BOWCFG_SLOT
  let n := d.bowOutlet i
  if d.tuningBusy then d.bowRefuse 9
  else if !(decide (d.mode = .commission) || d.mirrors) ∨ 80 ≤ i ∨ 16 ≤ n ∨ d.get (Reg.OUT_CFG_TYPE n) ≠ 3 ∨ d.get (Reg.TUN_SCFG_MODE i) = 1 then
    d.bowRefuse 8
  else if !d.bowCfgOk then d.bowRefuse 10
  else
    let d := d.freeCapture
    match d.freeBank with
    | none => d.bowRefuse 9
    | some b =>
      let d := ((d.clearBank b).set (Reg.MEM_BANKOWN_OWNER b) 9).set (Reg.MEM_BANKOWN_PWR b) 0
      let d := { d with bow := { on := true, slot := i, bank := b, held := true,
                                 lfsr := 2 ^ (prbsTaps (d.get Reg.TUN_BOWCFG_SIGNAL)).1 - 1 } }
      let d := ((d.set Reg.TUN_BOWSTAT_STATE 1).set Reg.TUN_BOWSTAT_CAUSE 0).set Reg.TUN_BOWSTAT_FULL 0
      d.set Reg.TUN_BOWSTAT_SAMPLES 0

/-- A write of TUN_CMD.BOW: the start waits for the next round boundary, and is forwarded; a lodger refuses it (R49, R262, R267). -/
def tunCmdBow (d : Dev) : Dev :=
  if !d.drives then d.bowRefuse 8 else ({ d with bow := { d.bow with want := true } }).forwardTuning 3

/-- The start of a requested sweep at a round boundary, or its refusal, which ends the lodger's too (R262, R267). -/
def Dev.startBow (d : Dev) : Dev :=
  if !d.bow.want then d
  else
    let was := d.bow.on
    let d := { d with bow := { d.bow with want := false } }.beginBow
    if was ∨ d.bow.on then d else d.forwardTuning 4

def tunCmdBowstop (d : Dev) : Dev :=
  if d.bow.on then { d with bow := { d.bow with stop := true } }.forwardTuning 4 else d

def tunCmdCapfree (d : Dev) : Dev := if d.bow.on then d else (d.freeCapture).forwardTuning 5

/-- The sweep ends with its signal or a full bank (R271). -/
def bowSweepEnd (d : Dev) : Dev :=
  let b := d.bow
  if b.on ∧ (b.done ∨ b.full) then
    let d := { d with bow := { b with on := false } }
    ((d.set Reg.TUN_BOWSTAT_STATE 2).set Reg.TUN_BOWSTAT_FULL (flag (b.full && !b.done))).raise 61 0
  else d

/-- Why a running sweep aborts (R272); 0 for no reason. -/
def Dev.bowAbortCause (d : Dev) : Nat :=
  let i := d.bow.slot
  let y := if i < 16 then (d.out i).senseI else d.getI (Reg.TUN_PV_VALUE i)
  let rating := if i < 16 then d.get (Reg.OUT_RATING_IMAX i) else 10 * d.get Reg.INK_CELLCFG_IMAX
  if d.bow.stop then 1
  else if 110 * rating < 100 * y.natAbs then 2
  else if d.bow.block ∨ d.mode = .safeHold then 5
  else if d.get (Reg.TUN_SSTAT_POISON i) = 1 then 7
  else 0

def bowSweepAbort (d : Dev) : Dev :=
  let c := d.bowAbortCause
  if !d.bow.on ∨ c = 0 then d
  else
    let d := { d with bow := { d.bow with on := false, stop := false } }
    ((d.set Reg.TUN_BOWSTAT_STATE 3).set Reg.TUN_BOWSTAT_CAUSE c).raise 61 0

/-- Word w of the sample that TUN_CAPSEL selects; 0 beyond SAMPLES (R271). -/
def Dev.capWord (d : Dev) (w : Nat) : Nat :=
  let k := d.get Reg.TUN_CAPSEL_INDEX
  if d.bow.held ∧ k < d.get Reg.TUN_BOWSTAT_SAMPLES then ofLe (d.sramBytes d.bow.bank (16 * k + 4 * w) 4) else 0

end Sys2Proof.Machine
end

