-- ==== Sys2Proof/Machine/ModeChange.lean ====
section
/-! DEFINITION. A change of the mode and what goes with it (R54 to R71, R103, R207, R387, R568). -/

namespace Sys2Proof.Machine

/-- Idle, or Serve while any outlet is serving (R55). -/
def Dev.servingMode (d : Dev) : Mode := if (List.range 16).any fun n => sessServing (d.sess n) then .serve else .idle

/-- The mode a path leads to: in Decommissioned, Standby, Idle, Serve and Island become Commission (R103). -/
def Dev.target (d : Dev) (m : Mode) : Mode := if d.lifecycle = 3 ∧ m.working then .commission else m

/-- On the first entry into Commission, Idle or Serve after Boot, the identity pages of every string are due (R207). -/
def Dev.firstIdent (d : Dev) (m : Mode) : Dev :=
  if d.identDone ∨ !(m = .commission ∨ m = .idle ∨ m = .serve) then d
  else { d with identDone := true }.identAll fun _ => true

/-- Enters a mode: EV000, the die regime (R387), SAF_STATUS.SAFEHOLD, the end of a transaction the mode refuses (R568),
slots in manual (R254), the end of a pluck test (R265). -/
def Dev.enterMode (d : Dev) (m : Mode) : Dev :=
  let m := d.target m
  if d.mode = m then d
  else
    let d : Dev := { d.set Reg.SYS_STATUS_MODE m.code with pluck := { d.pluck with modeHit := d.pluck.on } }
    let d := (d.set Reg.SAF_STATUS_SAFEHOLD (flag (decide (m = .safeHold)))).setRegime m
    let d := if d.txn.isSome ∧ !m.transacts then d.abortTxn 9 else d
    ((d.firstIdent m).raise 0 0).showManual

end Sys2Proof.Machine
end

