-- ==== Sys2Proof/Machine/Duplex.lean ====
section
/-! DEFINITION. The duplex station: forwarded inputs, the lease and the key, comparison and disputes, health, eligibility and
rejoin (R470 to R495, R456, R457). Types of the twin messages sent: 0 LEASE, 1 forwarded input, 2 HEALTH, 3 DISPUTE, 4 verdict,
7 checkpoint; and of other files 5, 6, 10, 20, 21, 22. -/

namespace Sys2Proof.Machine

def Dev.modDup (d : Dev) (f : DupCtx → DupCtx) : Dev := { d with dup := f d.dup }

/-- A module of a pair that does not hold the key. -/
def Dev.lodger (d : Dev) : Bool := d.duplex && decide (d.get Reg.DUP_STATUS_ROLE = 2)

def Dev.keyholder (d : Dev) : Bool := d.duplex && decide (d.get Reg.DUP_STATUS_ROLE = 1)

def Dev.synced (d : Dev) : Bool := decide (d.get Reg.DUP_STATUS_SYNCED = 1)

/-- The lodger takes its inputs from the keyholder: the lease stands, and no forwarded input is missing (R478, R480). -/
def Dev.fed (d : Dev) : Bool := d.lodger && decide (d.get Reg.DUP_LEASE_VALID = 1) && !d.dup.missing

/-- A command that brings an input of the main logic: on a lodger that is fed it serves plausibility only (R478); a keyholder
forwards it, tagged with the period (R477). -/
def State.input (kind : Nat) (body : List Nat) (f : Dev → Dev) (s : State) : Host.Outcome State Fault Refusal :=
  s.main fun d =>
    if d.fed then d
    else
      let d := f d
      if d.keyholder then d.emit (.twin 1 (kind :: d.period :: body)) else d

/-! ### Eligibility (R494) -/

/-- The conditions of R494, and no dispute has made the lodger ineligible (R490). -/
def Dev.mayTake (d : Dev) : Bool :=
  d.lodger && d.synced && decide (d.get Reg.DUP_CFG_HEALTHMIN ≤ d.get Reg.DUP_STATUS_HEALTH) && decide (d.saf.stuckOn = 0) &&
  decide (d.get Reg.SAF_STATUS_DEVCAUSE = 0) && decide (d.mode = .standby) && !d.dup.barred

/-- DUP_STATUS.ELIGIBLE follows; EV090 when a lodger becomes ineligible. -/
def Dev.settleEligible (d : Dev) : Dev :=
  let was := d.get Reg.DUP_STATUS_ELIGIBLE
  let now := flag d.mayTake
  if was = now then d
  else
    let d := d.set Reg.DUP_STATUS_ELIGIBLE now
    if was = 1 ∧ d.lodger then d.raise 90 0 else d

/-- A rejoin begins; one runs at a time (R495). The lodger is not synced while it runs (R476). The round in progress is no whole round. -/
def Dev.startRejoin (d : Dev) : Dev :=
  if d.dup.rejoin.isSome then d
  else ((d.set Reg.DUP_STATUS_SYNCED 0).modDup fun x => { x with rejoin := some (0, false), run := 0 }).settleEligible

/-- The lodger loses its sync: EV092, and a rejoin (R480, R495). -/
def Dev.unsync (d : Dev) : Dev := if d.synced then ((d.raise 92 0).startRejoin).settleEligible else d

/-! ### Forwarded inputs (R477 to R480) -/

/-- A read-only field of the engines, which a snapshot carries: INK, STR, TUN, OUT, CAB and the string thermal latches. The Purse's and the
die's own fields are each module's (R386, R478). -/
def engineKey (key : Nat) : Bool :=
  let a := key / 32
  (decide (0x40080000 ≤ a ∧ a < 0x40090000) || decide (0x400A0000 ≤ a ∧ a < 0x40100000) || decide (0x40120000 ≤ a ∧ a < 0x40140000) ||
    decide (a = Reg.THM_STRLATCH_LO_LATCH.addr) || decide (a = Reg.THM_STRLATCH_HI_LATCH.addr)) &&
  match fieldAt key with
  | some f => decide (f.acc = .ro)
  | none => false

/-- Entries of a table whose index lies below a bound. -/
def tkeep {α : Type} (n : Nat) (t : Tbl α) : List (Nat × α) := t.filter fun e => e.1 < n

/-- A table of the entries whose index lies below a bound. -/
def tmake {α : Type} [DecidableEq α] (dflt : α) (n : Nat) (l : List (Nat × α)) : Tbl α :=
  (tkeep n l).foldl (fun t e => tput dflt t e.1 e.2) []

/-- The keyholder's snapshot of its engines, at a round boundary (R495). -/
def Dev.engines (d : Dev) : Snapshot :=
  { regs := d.regs.filter fun e => engineKey e.1, strs := tkeep 64 d.strs, slots := tkeep 144 d.slots, outs := tkeep 16 d.outs,
    courses := tkeep 16 d.courses, cables := tkeep 16 d.therm.cables, ckpts := tkeep 16 d.ckpts, tieCmd := d.tieCmd, round := d.round,
    result := d.result }

/-- The lodger loads the snapshot of a rejoin (R495): what it does not list reads as at reset. -/
def Dev.loadSnapshot (d : Dev) (x : Snapshot) : Dev :=
  if d.dup.rejoin = none then d
  else
    let d := { d with
      regs := (x.regs.filter fun (e : Nat × Nat) => engineKey e.1).foldl (fun (r : Tbl Nat) (e : Nat × Nat) => tput 0 r e.1 e.2)
        (d.regs.filter fun (e : Nat × Nat) => !engineKey e.1),
      strs := tmake {} 64 x.strs,
      slots := tmake {} 144 x.slots,
      outs := tmake {} 16 x.outs,
      courses := tmake {} 16 x.courses,
      ckpts := tmake {} 16 x.ckpts }
    let d := d.modTherm fun t => { t with cables := tmake {} 16 x.cables }
    { d with tieCmd := x.tieCmd, round := x.round, result := x.result }

/-- A checkpoint of the keyholder's session sets the mirrored session (R35, R480). -/
def Dev.loadCheckpoint (d : Dev) (n state proto vmax imax vt : Nat) (ireq : Int) (vtgt : Nat) : Dev :=
  let d := (d.set (Reg.OUT_SESS_STATE n) state).set (Reg.OUT_SESS_PROTO n) proto
  let d := (d.set (Reg.OUT_EVMAX_VMAX n) vmax).set (Reg.OUT_EVMAX_IMAX n) imax
  let d := (d.setI (Reg.OUT_DEMAND_IREQ n) ireq).set (Reg.OUT_DEMAND_VTGT n) vtgt
  let c : Ckpt := { state := state, proto := proto, vmax := vmax, imax := imax, vt := vt, ireq := ireq, vtgt := vtgt }
  let d : Dev := { d with ckpts := tput {} d.ckpts n c }
  d.modOut n fun o => { o with vt := vt, contReq := sessLive state && decide (state ≠ 12), closed := sessLive state && decide (state ≠ 12) }

/-- One forwarded input takes effect on the lodger. -/
def Dev.takeFwd (d : Dev) : Fwd → Dev
  | .up s w => upFrame s w true d
  | .rtd rs => rtdConversion rs d
  | .flow es => flowUpdate es d
  | .frac f => d.setFrac f
  | .tie t c => tieFeedbackConfirmed t c d
  | .lock n => lockConfirmed n d
  | .demand n i v => (currentDemand n i v d).checkpoint n
  | .checkpoint n state proto vmax imax vt ireq vtgt => d.loadCheckpoint n state proto vmax imax vt ireq vtgt
  | .can k f => canFrameReceived k f d
  | .share w => d.modPurse fun p => { p with share := w }
  | .islandState on => { d with islandWanted := on }
  | .trigger n kind start amount base =>
    let t : Trigger := { at_ := start, amount := amount, base := base }
    d.modOut n fun o => match kind with
      | 1 => { o with plugin := some t }
      | 2 => { o with schedule := o.schedule ++ [t] }
      | 3 => { o with depart := some t }
      | 5 => { o with plugin := none }
      | 6 => { o with schedule := [] }
      | 7 => { o with depart := none }
      | _ => o
  | .time ns => d.set64 Reg.TB_TIME_LO_TIME Reg.TB_TIME_HI_TIME ns
  | .commit round handle persist ws => d.commitDown round handle persist ws
  | .refusal handle code => d.refusedUp handle code
  | .duty i v => { d with auxNext := tput none d.auxNext i (some v) }
  | .tuning k =>
    match k with
    | 1 => { d with pluck := { d.pluck with want := true } }
    | 2 => { d with pluck := { d.pluck with stop := d.pluck.on, want := false } }
    | 3 => { d with bow := { d.bow with want := true } }
    | 4 => { d with bow := { d.bow with stop := d.bow.on, want := false } }
    | 5 => tunCmdCapfree d
    | _ => d
  | .snapshot x => d.loadSnapshot x

/-- The forwarded inputs of a period arrive, and the lodger computes the period from them (R477, R478). To a keyholder come only the
commits of its lodger (R570). -/
def forwardedInputs (period : Nat) (inputs : List Fwd) (sense : List (Int × Int × Int)) (poison late : List Nat) (d : Dev) : Dev :=
  if d.keyholder then
    inputs.foldl (fun d x => match x with
      | .commit _ handle persist ws => d.commitFor handle persist ws
      | _ => d) d
  else if !d.lodger then d
  else
    let d := inputs.foldl Dev.takeFwd (d.modDup fun x => { x with fwdPeriod := period, missing := false })
    powerPass sense poison late 0 d

/-- They have not arrived on either lane by SAMPLE_DELAY + 8.5 µs (R480). -/
def forwardedInputsMissing (d : Dev) : Dev :=
  if d.lodger ∧ d.synced ∧ !d.dup.missing then (d.modDup fun x => { x with missing := true }).raise 92 0 else d

/-- Rows of the table of R477 in which the lodger's own reading serves plausibility. -/
def plausibleRow (j : Nat) : Bool := [0, 1, 3, 4, 6, 7].contains j

/-- A class of input has disagreed for its count or time (R479). -/
def plausibilityDisagreement (j : Nat) (d : Dev) : Dev :=
  if d.lodger ∧ plausibleRow j then (d.setBit Reg.DUP_PLAUS_CLASS j true).raise 91 0 else d

/-! ### The lease and the key (R481 to R487) -/

/-- The conditions under which the keyholder renews its lease (R481). -/
def Dev.renews (d : Dev) : Bool :=
  d.keyholder && !d.dup.surrender && !d.bit Reg.SAF_STATUS_DEVCAUSE 5 &&
  (decide (d.mode = .idle) || decide (d.mode = .serve) || decide (d.mode = .island) ||
   (decide (d.mode = .safeHold) && decide (d.get Reg.SAF_STATUS_DEVCAUSE < 4) && !d.saf.romLatch))

/-- What a LEASE message carries: the unique ID and the station number. -/
def Dev.leaseBody (d : Dev) : List Nat :=
  [d.get64 Reg.SYS_UID_LO_UID Reg.SYS_UID_HI_UID, d.get Reg.FAB_CFG_STATION]

/-- Sends a renewal: a pulse on KEY_OUT, and LEASE on both lanes. -/
def Dev.renew (d : Dev) : Dev :=
  let d := d.modDup fun x => { x with ownAt := some d.now, lostAt := none, dnOff := false }
  (d.emit .keyPulse).emit (.twin 0 d.leaseBody)

/-- Every 100 µs (R481). -/
def leaseRenewal (d : Dev) : Dev :=
  if d.renews then d.renew
  else if d.keyholder then d.modDup fun x => { x with lostAt := some (x.lostAt.getD d.now) }
  else d

/-- A twin message tells who the partner is (R470, R486). -/
def Dev.meet (d : Dev) (uid station : Nat) : Dev :=
  ((d.set64 Reg.DUP_PARTNER_LO_UID Reg.DUP_PARTNER_HI_UID uid).set Reg.DUP_STATUS_PARTNER 1).modDup fun x =>
    { x with partStation := some station }

/-- A renewal of the partner is heard, on KEY_IN or as a twin message, which tells who the partner is (R482, R486). -/
def leaseReceived (pin : Bool) (uid station : Nat) (d : Dev) : Dev :=
  if !d.duplex then d
  else
    let d := (d.set Reg.DUP_LEASE_VALID 1).set Reg.DUP_LEASE_AGE 0
    let d := (d.set Reg.DUP_LEASE_PIN (flag pin)).set Reg.DUP_LEASE_TWIN (flag (!pin))
    let d := d.modDup fun x => { x with leaseAt := some d.now }
    let d := if d.dup.missing then (d.modDup fun x => { x with missing := false }).unsync else d
    if pin then d else d.meet uid station

/-- 400 µs after the last renewal (R482). A commit that was sent up and has no answer is refused with code 8. -/
def leaseExpiry (d : Dev) : Dev :=
  if d.get Reg.DUP_LEASE_VALID = 1 then
    let d := (d.set Reg.DUP_LEASE_VALID 0).modDup fun x => { x with missing := false }
    match d.sentUp with
    | some s => d.refusedUp s.handle 8
    | none => d
  else d

/-- The keyholder's island, 400 µs after its own last renewal: safe outputs off, DN drivers off; the module is a lodger from
then on (R483). -/
def keyholderSelfRelease (d : Dev) : Dev :=
  if !d.duplex ∨ d.dup.ownAt = none then d
  else
    let d := forAll 16 d fun d n => (d.setSout n false).modSafOut n fun x => { x with releasing := none }
    let d := d.modDup fun x => { x with ownAt := none, dnOff := true }
    ((d.set Reg.DUP_STATUS_ROLE 2).set Reg.DUP_STATUS_SYNCED 0).set Reg.DUP_STATUS_REDUCED 0

/-- The keyholder hands over at a control-period boundary: it stops renewing and goes on in Standby, unsynced, with a rejoin
(R487, R495). -/
def Dev.handOver (d : Dev) : Dev :=
  if !d.dup.surrender then d
  else
    let d := d.modDup fun x => { x with surrender := false, lostAt := some d.now, dnOff := true }
    let d := ((d.set Reg.DUP_STATUS_ROLE 2).set Reg.DUP_STATUS_SYNCED 0).set Reg.DUP_STATUS_REDUCED 0
    if d.mode = .idle ∨ d.mode = .serve ∨ (d.mode = .island ∧ d.fab.islandAt + 1 < d.period) then
      ((d.enterMode .standby).settleCan).startRejoin
    else d.settleCan

/-- The taker switches on the outputs of an outlet whose wires read on, where its own latches permit the outlet (R457). -/
def Dev.takeWires (d : Dev) (n : Nat) (plus minus : Bool) : Dev :=
  let ok := d.mayClose n
  let d := (d.setBit Reg.SAF_SOUTSTAT_BITS (2 * n) (ok && plus)).setBit Reg.SAF_SOUTSTAT_BITS (2 * n + 1) (ok && minus)
  d.modOut n fun o => { o with contReq := ok && (plus || minus) }

/-- What a module does on taking the key (R473, R484, R457): `wires` are the safe outputs whose wire read on when the lease
lapsed. -/
def Dev.takeKey (d : Dev) (wires : Nat) : Dev :=
  let d := (((d.set Reg.DUP_STATUS_ROLE 1).set Reg.DUP_STATUS_SYNCED 0).set Reg.DUP_STATUS_ELIGIBLE 0).modDup fun x =>
    { x with rejoin := none, dispute := none, run := 0, missing := false, barred := false }
  let d := d.renew
  let d := d.addSat Reg.DUP_SWITCH_COUNT 1
  let d := d.enterMode d.servingMode
  let d := forAll 16 d fun d n => d.takeWires n (wires.testBit (2 * n)) (wires.testBit (2 * n + 1))
  let d := forAll 48 d fun d ch => if d.auxShared ch then d.showAux ch else d
  let st := d.get Reg.TB_TB2STAT_STATE
  let d := if st = 1 ∨ st = 3 then d.set Reg.TB_TB2STAT_STATE 2 else d
  -- R480, R35: sessions resume from their checkpoints; R492: insulation monitors start a new cycle
  let d := forAll 16 d fun d n => if sessServing (d.sess n) then (d.resume n).startInjection n else d.resume n
  (d.settleCan).raise 88 0

/-- A lodger in Standby hears neither the lease nor a down frame. -/
def Dev.quiet (d : Dev) (heard : Bool) : Bool :=
  d.lodger && decide (d.mode = .standby) && decide (d.get Reg.DUP_LEASE_VALID = 0) && !heard

/-- The guard of 50 µs after the expiry has passed. `heard`: a valid down frame in the last 100 µs; `gap`: the switch-over gap in
µs (R484, R491). -/
def keyTake (heard : Bool) (wires gap : Nat) (d : Dev) : Dev :=
  if d.quiet heard ∧ d.mayTake then (d.takeKey wires).setSat Reg.DUP_SWITCH_GAP gap else d

/-- At start-up, with no lease heard since Boot: the partner's unique ID is unknown and 10 ms have passed, or both start together
and this module's ID, by what the twin wayport has told, is the lower (R94, R486). -/
def startupKeyWait (heard : Bool) (d : Dev) : Dev :=
  let uid := d.get64 Reg.DUP_PARTNER_LO_UID Reg.DUP_PARTNER_HI_UID
  if d.quiet heard ∧ d.dup.leaseAt = none ∧ (uid = 0 ∨ d.get64 Reg.SYS_UID_LO_UID Reg.SYS_UID_HI_UID < uid) then d.takeKey 0 else d

/-- A mirrored session ends without a record of its own: its outlet in ENDED, or VACANT without a vehicle (R485). -/
def Dev.dropMirror (d : Dev) (n : Nat) : Dev :=
  if d.sess n < 2 ∨ 14 ≤ d.sess n then d
  else
    let d := (d.unreserve n).modTally fun t => { t with live := t.live.filter fun l => l.outlet ≠ n }
    let d := (d.modOut n OutCtx.clear).unmatch n true
    let d := d.set (Reg.OUT_SESS_STATE n) (if d.get (Reg.OUT_SESS_CONN n) = 0 then 1 else 14)
    ((d.setI (Reg.OUT_DEMAND_IREQ n) 0).closeMonitors n).dissolve n

/-- DUP_CMD.TAKE on an ineligible lodger; `heard`: a down frame in the last 100 ms. Elsewhere the write is refused with code 6
(R485). -/
def dupCmdTake (heard : Bool) (d : Dev) : Dev :=
  if d.quiet heard ∧ d.get Reg.DUP_STATUS_ELIGIBLE = 0 then (forAll 16 d Dev.dropMirror).takeKey 0
  else d.refuse 6 Reg.DUP_CMD_TAKE.addr

/-- DUP_CMD.SURRENDER on a keyholder whose partner reports itself eligible (R487); elsewhere refused with code 6. -/
def dupCmdSurrender (d : Dev) : Dev :=
  if d.keyholder ∧ d.dup.partEligible then d.modDup fun x => { x with surrender := true }
  else d.refuse 6 Reg.DUP_CMD_SURRENDER.addr

/-- DUP_CMD.REJOIN on a lodger (R495); elsewhere refused with code 6. -/
def dupCmdRejoin (d : Dev) : Dev := if d.lodger then d.startRejoin else d.refuse 6 Reg.DUP_CMD_REJOIN.addr

/-- Three whole rounds were compared with no mismatched period; digest and level equal the keyholder's (R476, R495). -/
def rejoinComplete (digestEqual levelEqual : Bool) (d : Dev) : Dev :=
  match d.dup.rejoin with
  | some (k, _) =>
    if d.lodger ∧ 3 ≤ k ∧ digestEqual ∧ levelEqual then
      ((d.set Reg.DUP_STATUS_SYNCED 1).modDup fun x => { x with rejoin := none, barred := false, run := 0 }).settleEligible
    else d
  | none => d

/-- At a round boundary: a rejoin counts a clean round; the keyholder of an unsynced partner sends its snapshot (R495). -/
def Dev.rejoinRound (d : Dev) : Dev :=
  if d.lodger then
    d.modDup fun x => { x with rejoin := x.rejoin.map fun r => (if r.2 then r.1 + 1 else 0, true) }
  else if d.keyholder ∧ d.get Reg.DUP_STATUS_PARTNER = 1 ∧ !d.dup.partSynced then d.emit (.snapshot d.engines)
  else d

/-- 10 ms after hearing the new keyholder's down frame, a former keyholder switches its shared channels off (R474). -/
def sharedChannelsOff (d : Dev) : Dev :=
  if !d.lodger then d
  else forAll 48 d fun d ch => if d.auxShared ch then d.setBit2 Reg.AUX_ON_LO_BITS Reg.AUX_ON_HI_BITS ch false else d

/-! ### Comparison and disputes (R488 to R490) -/

/-- The frame of the period a string's engine has computed: none, a BLOCK, or its last frame. -/
def Dev.computed (d : Dev) (s : Nat) : Option DownFrame :=
  let x := d.str s
  let typ := if x.inflight ≠ 0 then x.inflight else x.opened
  if !d.present s ∨ typ = 0 then none else if typ = 3 then some blockFrame else some x.last

/-- A heard frame by its bits: the BLOCK of R196 in 16 bits, else the 68 bits from TYPE to CRC. -/
def heardFrame (w : Nat) : Option DownFrame := if w < 65536 ∧ decodeBlock w then some blockFrame else decodeDown w

/-- The result of one string: 0 match, 1 mismatch, 2 uncompared. `heard`: none, or the bits where the symbols were valid. -/
def Dev.compareOne (d : Dev) (s : Nat) (heard : Option (Option Nat)) (touched : Bool) : Nat :=
  let arc := d.courseArc (s / 4)
  let own := decide (arc < 16) && match (d.out arc).blockAt with
    | some p => decide (d.period ≤ p + 1)
    | none => false
  if own ∨ touched then 2
  else match heard with
    | none => if d.computed s = none then 0 else 1
    | some none => 2
    | some (some w) => match heardFrame w with
      | none => 2
      | some f => if d.computed s = some f then 0 else 1

/-- A dispute is raised by the lodger: it names the first mismatched period of the run (R489). -/
def Dev.raiseDispute (d : Dev) (p : Nat) : Dev :=
  let d := (d.addSat Reg.DUP_DISPUTE_COUNT 1).set Reg.DUP_DISPUTE_PERIOD p
  ((d.modDup fun x => { x with dispute := some (p, true, 0), run := 0 }).raise 89 0).emit (.twin 3 [p])

/-- The lodger compares the frames it heard in a period with those it computed: string and, where its symbols were valid, its
bits. `touched`: arcs that the keyholder's island blocked in this period or the one before (R488, R489). -/
def downFrameCompare (period : Nat) (heard : List (Nat × Option Nat)) (touched : Nat) (d : Dev) : Dev :=
  if !d.lodger then d
  else
    let look := fun s => (heard.find? fun h => h.1 = s).map (·.2)
    let strs := (List.range 64).filter d.present
    let rs := strs.map fun s => d.compareOne s (look s) (touched.testBit (d.courseArc (s / 4)))
    let bad := rs.contains 1
    let stay := d.dup.dispute.isSome || d.dup.rejoin.isSome || !d.synced || decide (d.dup.fwdPeriod < period)
    if stay then
      let d := d.addSat Reg.DUP_CMPCNT_UNCOMP 1
      if bad then d.modDup fun x => { x with rejoin := x.rejoin.map fun r => (r.1, false) } else d
    else if bad then
      let d := d.addSat Reg.DUP_CMPCNT_MISMATCH 1
      let d := d.modDup fun x => { x with run := x.run + 1, firstBad := if x.run = 0 then period else x.firstBad }
      if d.get Reg.DUP_CFG_NMIS ≤ d.dup.run then d.raiseDispute d.dup.firstBad else d
    else if rs.contains 0 then d.modDup fun x => { x with run := 0 }
    else d.addSat Reg.DUP_CMPCNT_UNCOMP 1

/-- The lodger is ineligible until a completed rejoin. -/
def Dev.bar (d : Dev) : Dev :=
  if d.lodger then (d.modDup fun x => { x with barred := true }).settleEligible else d

/-- On a dispute each module re-executes period p and sends its verdict and its digest (R490). A period older than 16 periods is
no longer in the log: the lodger is ineligible. -/
def dispute (p : Nat) (pass : Bool) (digest : Nat) (d : Dev) : Dev :=
  if !d.duplex ∨ (d.lodger ∧ (!d.synced ∨ d.dup.dispute = none)) then d
  else
    let d := if d.keyholder then ((d.addSat Reg.DUP_DISPUTE_COUNT 1).set Reg.DUP_DISPUTE_PERIOD p).raise 89 0 else d
    if p + 16 < d.period then (d.modDup fun x => { x with dispute := none }).bar
    else (d.modDup fun x => { x with dispute := some (p, pass, digest) }).emit (.twin 4 [flag pass, digest])

/-- The partner's verdict and digest: the outcome by the table of R490. -/
def disputeVerdict (pass : Bool) (digest : Nat) (d : Dev) : Dev :=
  match d.dup.dispute with
  | none => d
  | some (_, own, mine) =>
    let d := d.modDup fun x => { x with dispute := none }
    let k := if d.keyholder then own else pass
    let l := if d.keyholder then pass else own
    let result := fun (d : Dev) r => d.set Reg.DUP_DISPUTE_RESULT r
    match k, l with
    | false, true =>
      let d := (result d 1).raise 89 0
      if d.keyholder then d.modDup fun x => { x with surrender := true } else d
    | true, false =>
      let d := ((result d 2).raise 89 0).bar
      if d.keyholder then d.raise 90 0 else d
    | false, false =>
      let d := ((result d 3).raise 89 0).bar
      if d.keyholder then d.raise 90 0 else d
    | true, true =>
      let d := if mine = digest then (result d 4).raise 91 0 else (result d 5).raise 89 0
      if d.lodger then d.startRejoin else d

/-! ### Health (R493, R494) -/

/-- Corrected errors in owned banks in the last hour. -/
def Dev.ownedErrors (d : Dev) : Nat :=
  ((List.range 64).map fun b =>
    if d.owner b = 0 then 0
    else ((tget [] d.mem.ces b).filter fun t => decide (d.now / 1000000000 < t + 3600)).length).foldl (· + ·) 0

/-- Every 10 ms (R493). `fails`: items 0 to 4 of the table that fail by their own test, item 1 for an uncorrectable error. -/
def healthScore (fails : Nat) (d : Dev) : Dev :=
  if !d.lodger then d
  else
    let ce := d.ownedErrors
    let lane := decide (d.get Reg.DUP_STATUS_LANES ≠ 3)
    let plaus := decide (d.get Reg.DUP_PLAUS_CLASS ≠ 0)
    let cost := (if fails.testBit 0 then 40 else 0) + (if fails.testBit 1 then 40 else min 20 (5 * ce)) +
      (if fails.testBit 2 then 30 else 0) + (if fails.testBit 3 then 30 else 0) + (if fails.testBit 4 then 10 else 0) +
      (if lane then 20 else 0) + (if plaus then 20 else 0)
    let det := flag (fails.testBit 0) + 2 * flag (fails.testBit 1 || decide (0 < ce)) + 4 * flag (fails.testBit 2) +
      8 * flag (fails.testBit 3) + 16 * flag (fails.testBit 4) + 32 * flag lane + 64 * flag plaus
    let d := ((d.set Reg.DUP_STATUS_HEALTH (100 - cost)).set Reg.DUP_HEALTHDET_FAIL det).settleEligible
    d.emit (.twin 2 ([100 - cost, d.get Reg.DUP_STATUS_ELIGIBLE, d.get Reg.DUP_STATUS_SYNCED] ++ d.leaseBody))

/-- A HEALTH message of the partner tells who it is (R486), and tells the keyholder how it is. -/
def healthReceived (m : PartnerHealth) (eligible synced : Bool) (d : Dev) : Dev :=
  if !d.duplex then d
  else if !d.keyholder then d.meet m.uid.toNat m.station.toNat
  else
    let d := (d.meet m.uid.toNat m.station.toNat).set Reg.DUP_STATUS_PARTHEALTH m.score.toNat
    let d := d.modDup fun x => { x with partEligible := eligible, partSynced := synced }
    if eligible && synced then d.set Reg.DUP_STATUS_REDUCED 0 else d

/-- The partner has been absent, unsynced or ineligible for 1 s (R494). -/
def reducedAvailability (absent : Bool) (d : Dev) : Dev :=
  let d := if d.duplex ∧ absent then d.set Reg.DUP_STATUS_PARTNER 0 else d
  if d.keyholder ∧ (absent ∨ !d.dup.partEligible ∨ !d.dup.partSynced) ∧ d.get Reg.DUP_STATUS_REDUCED = 0 then
    (d.set Reg.DUP_STATUS_REDUCED 1).raise 90 0
  else d

/-! ### Twin lanes -/

/-- The port is the twin wayport of a duplex module. -/
def Dev.isTwin (d : Dev) (p : Nat) : Bool := d.duplex && decide (d.get Reg.DUP_CFG_TWINPORT = p)

/-- A twin lane goes down, EV092, or gains block lock (R497, R518). -/
def Dev.twinLane (d : Dev) (lane : Nat) (up : Bool) : Dev :=
  let was := d.bit Reg.DUP_STATUS_LANES lane
  let d := d.setBit Reg.DUP_STATUS_LANES lane up
  if was ∧ !up then d.raise 92 0 else d

end Sys2Proof.Machine
end

