-- ==== Sys2Proof/Machine/Fabric.lean ====
section
/-! DEFINITION. The Caravan fabric: links, discovery, authentication, addresses, membership, routing, time, posts, fabric loss
and rejoin, the device certificate (R93, R497 to R517, R586). -/

namespace Sys2Proof.Machine

def Dev.modFab (d : Dev) (f : FabCtx → FabCtx) : Dev := { d with fab := f d.fab }
def Dev.peer (d : Dev) (a : Nat) : Peer := tget {} d.fab.peers a
def Dev.modPeer (d : Dev) (a : Nat) (f : Peer → Peer) : Dev := d.modFab fun x => { x with peers := tput {} x.peers a (f (d.peer a)) }
def Dev.fport (d : Dev) (p : Nat) : PortCtx := tget {} d.fab.ports p
def Dev.modPort (d : Dev) (p : Nat) (f : PortCtx → PortCtx) : Dev :=
  d.modFab fun x => { x with ports := tput {} x.ports p (f (d.fport p)) }

def Dev.uid (d : Dev) : Nat := d.get64 Reg.SYS_UID_LO_UID Reg.SYS_UID_HI_UID
def Dev.portState (d : Dev) (p : Nat) : Nat := d.get (Reg.FAB_PORT_STATE p)
def Dev.portUp (d : Dev) (p : Nat) : Bool := decide (d.portState p = 4)

/-- The port is enabled for the fabric; the twin wayport never is (R470). -/
def Dev.portOn (d : Dev) (p : Nat) : Bool := d.bit Reg.FAB_CFG_PORTEN p && !d.isTwin p

/-- The address held: FAB_STATUS.ADDR where ADDRSRC says how (R93). -/
def Dev.addr? (d : Dev) : Option Nat :=
  if d.get Reg.FAB_STATUS_ADDRSRC = 0 then none else some (d.get Reg.FAB_STATUS_ADDR)

/-- Ports that the configuration switches on begin training, others are off. -/
def Dev.settlePorts (d : Dev) : Dev :=
  forAll 6 d fun d p =>
    if d.isTwin p then d.set (Reg.FAB_PORT_STATE p) 6
    else if !d.portOn p then (d.set (Reg.FAB_PORT_STATE p) 0).modPort p fun _ => {}
    else if d.portState p = 0 ∨ d.portState p = 6 then d.set (Reg.FAB_PORT_STATE p) 1
    else d

/-! ### Membership and guests (R504, R506) -/

/-- Neighbours over the ports that are up. -/
def Dev.neighbours (d : Dev) : List Nat := ((List.range 6).filter d.portUp).map fun p => d.get (Reg.FAB_PORT_PEER p)

/-- Stations with the digest they hold: this one, and each that is reachable; once per station number. -/
def Dev.stationDigests (d : Dev) : List (Nat × List Byte) :=
  let own := d.get Reg.FAB_CFG_STATION
  (List.range 32).filterMap fun s =>
    if s = own then some (s, d.siteDigest)
    else
      match (List.range 32).find? fun a => decide (d.get (Reg.FAB_ROUTE_REACH a) = 1) && (d.peer a).known && decide ((d.peer a).station = s) with
      | some a => some (s, (d.peer a).digest)
      | none => none

/-- The fabric digest: held by the most stations, among equals by the lowest station number (R506). -/
def Dev.fabricDigest (d : Dev) : List Byte :=
  let l := d.stationDigests
  let count := fun (x : List Byte) => (l.filter fun e => e.2 = x).length
  (l.foldl (fun (best : List Byte × Nat) e => if best.2 < count e.2 then (e.2, count e.2) else best) (d.siteDigest, 0)).1

/-- FAB_MEMBERS, FAB_GUESTS, FAB_REFUSED and this module's own part. -/
def Dev.settleMembers (d : Dev) : Dev :=
  let dig := d.fabricDigest
  let own := d.addr?
  let mem := fun a => decide (own = some a) || decide (d.get (Reg.FAB_ROUTE_REACH a) = 1)
  let d := d.set Reg.FAB_MEMBERS_BITS ((List.range 32).foldl (fun acc a => if mem a then acc + 2 ^ a else acc) 0)
  let d := d.set Reg.FAB_GUESTS_BITS ((List.range 32).foldl (fun acc a =>
    let guest := if own = some a then decide (d.siteDigest ≠ dig) else (d.peer a).known && decide ((d.peer a).digest ≠ dig)
    if mem a ∧ guest then acc + 2 ^ a else acc) 0)
  let d := d.set Reg.FAB_REFUSED_BITS ((List.range 32).foldl (fun acc a =>
    if (List.range 6).any fun p => decide (d.portState p = 5) && decide (((d.fport p).hail.map (·.addr)) = some a) then acc + 2 ^ a
    else acc) 0)
  let member := own.isSome && (List.range 6).any d.portUp
  (d.set Reg.FAB_STATUS_MEMBER (flag member)).set Reg.FAB_STATUS_GUEST (flag (member && decide (d.siteDigest ≠ dig)))

/-! ### Routing (R507) -/

/-- One more layer of a breadth-first search: the addresses reached so far with their hop counts. -/
def growLayer (links : Nat → List Nat) (k : Nat) (seen : List (Nat × Nat)) : List (Nat × Nat) :=
  (seen.filter fun p => p.2 = k).foldl (fun seen p =>
    (links p.1).foldl (fun seen a => if seen.any fun q => q.1 = a then seen else seen ++ [(a, k + 1)]) seen) seen

/-- Hop counts from an address over the links advertised, not through the address `own`. -/
def hopsFrom (links : Nat → List Nat) (own a : Nat) : List (Nat × Nat) :=
  (List.range 32).foldl (fun seen k => growLayer (fun x => (links x).filter fun y => y ≠ own) k seen) [(a, 0)]

/-- Shortest paths by hop count, ties by the lower next-hop address and then the lower port number. -/
def Dev.settleRoutes (d : Dev) : Dev :=
  let own := d.addr?.getD 32
  let links := fun a => (d.peer a).links
  let ways : List (Nat × Nat × List (Nat × Nat)) := ((List.range 6).filter d.portUp).map fun p =>
    let a := d.get (Reg.FAB_PORT_PEER p)
    (p, a, hopsFrom links own a)
  let better := fun (x y : Nat × Nat × Nat) =>  -- hops, next hop, port
    decide (x.1 < y.1 ∨ (x.1 = y.1 ∧ (x.2.1 < y.2.1 ∨ (x.2.1 = y.2.1 ∧ x.2.2 < y.2.2))))
  forAll 32 d fun d a =>
    let best : Option (Nat × Nat × Nat) := ways.foldl (fun (b : Option (Nat × Nat × Nat)) w =>
      match (w.2.2.find? fun q => q.1 = a).map (·.2) with
      | none => b
      | some h =>
        let x := (h + 1, w.2.1, w.1)
        match b with
        | none => some x
        | some y => if better x y then some x else b) none
    match best with
    | some (h, _, p) =>
      if a = own then ((d.set (Reg.FAB_ROUTE_REACH a) 0).set (Reg.FAB_ROUTE_PORT a) 0).set (Reg.FAB_ROUTE_HOPS a) 0
      else ((d.set (Reg.FAB_ROUTE_REACH a) 1).set (Reg.FAB_ROUTE_PORT a) p).setSat (Reg.FAB_ROUTE_HOPS a) h
    | none => ((d.set (Reg.FAB_ROUTE_REACH a) 0).set (Reg.FAB_ROUTE_PORT a) 0).set (Reg.FAB_ROUTE_HOPS a) 0

/-- Floods this module's LSA (R507); SEQ counts. -/
def Dev.floodLsa (d : Dev) : Dev :=
  if d.addr? = none then d
  else
    let d := d.modFab fun x => { x with seq := (x.seq + 1) % 65536 }
    d.emit (.fabric 255 3 (d.fab.seq :: d.neighbours))

/-- What follows a change of the links: paths, membership, an LSA. -/
def Dev.relink (d : Dev) : Dev := ((d.settleRoutes).settleMembers).floodLsa

/-! ### Time (R508 to R511) -/

/-- Whether a station may be the source, with its number: a member, no guest, no lodger, not in Island, with synced time. -/
def Dev.sourceOf (d : Dev) (a : Nat) : Option Nat :=
  let ts := d.get Reg.FAB_STATUS_TIMESTATE
  if d.addr? = some a then
    if d.get Reg.FAB_STATUS_GUEST = 0 ∧ d.drives ∧ d.mode ≠ .island ∧ ts ≠ 0 ∧ ts ≠ 3 then some (d.get Reg.FAB_CFG_STATION) else none
  else
    let x := d.peer a
    if d.get (Reg.FAB_ROUTE_REACH a) = 1 ∧ x.known ∧ !d.bit Reg.FAB_GUESTS_BITS a ∧ x.role ≠ 2 ∧ !x.inIsland ∧ x.synced then
      some x.station
    else none

/-- The source: the keyholder of the lowest-numbered such station. -/
def Dev.timeSource (d : Dev) : Option Nat :=
  ((List.range 32).foldl (fun (b : Option (Nat × Nat)) a => match d.sourceOf a, b with
    | some s, some (t, _) => if s < t then some (s, a) else b
    | some s, none => some (s, a)
    | none, b => b) none).map (·.2)

/-- Follows the source; a module that is its own source has no error. -/
def Dev.follow (d : Dev) (src : Option Nat) : Dev :=
  match src with
  | none => d
  | some a =>
    let d := d.set Reg.FAB_STATUS_TIMESRC a
    if d.addr? = some a then
      ((d.set Reg.FAB_STATUS_TIMESTATE 2).set Reg.FAB_STATUS_HOPS 0).set Reg.FAB_TIMEERR_NS 0
    else
      let d := if d.get Reg.FAB_STATUS_TIMESTATE = 2 then d.set Reg.FAB_STATUS_TIMESTATE 1 else d
      d.set Reg.FAB_STATUS_HOPS (d.get (Reg.FAB_ROUTE_HOPS a))

/-- The source leaves, and the next station in the order becomes source from its present time, without a step; where none holds
synced time, the lowest-numbered member does (R508, R518). -/
def timeSourceChange (d : Dev) : Dev :=
  if d.addr? = none then d
  else
    let src := match d.timeSource with
      | some a => some a
      | none =>
        let mine := d.get Reg.FAB_CFG_STATION
        if d.drives ∧ !((List.range 32).any fun a => decide (d.get (Reg.FAB_ROUTE_REACH a) = 1) && (d.peer a).known &&
            decide ((d.peer a).station < mine)) then d.addr? else none
    match src with
    | none => d
    | some a =>
      if d.get Reg.FAB_STATUS_TIMESRC = a ∧ d.get Reg.FAB_STATUS_TIMESTATE ≠ 0 then d.follow src else (d.follow src).raise 94 0

/-- The two-way exchange of a port, every 10 ms (R509): own send and receive t1, t4, the peer's receive and send t2, t3, in ns.
The peer says whether its time is synced and whether it is in Island (R508). -/
def timeExchange (p : Nat) (t1 t2 t3 t4 : Int) (synced inIsland : Bool) (d : Dev) : Dev :=
  if !d.portUp p then d
  else
    let d := d.modPeer (d.get (Reg.FAB_PORT_PEER p)) fun x => { x with synced := synced, inIsland := inIsland }
    let src := d.get Reg.FAB_STATUS_TIMESRC
    if d.get Reg.FAB_STATUS_TIMESTATE = 2 ∨ d.get (Reg.FAB_ROUTE_REACH src) = 0 ∨ d.get (Reg.FAB_ROUTE_PORT src) ≠ p then d
    else
      let off := quot ((t2 - t1) - (t4 - t3)) 2
      let d := d.setI Reg.FAB_TIMEERR_NS (max (-2147483648) (min 2147483647 off))
      let d := d.set Reg.FAB_STATUS_HOPS (d.get (Reg.FAB_ROUTE_HOPS src))
      if off.natAbs ≤ 1000 then
        ((d.set Reg.FAB_STATUS_TIMESTATE 1).modFab fun x => { x with step := none }).setBit Reg.FAB_ISLAND_CAUSE 1 false
      else (d.set Reg.FAB_STATUS_TIMESTATE 3).modFab fun x => { x with step := some off }

/-- Moves fabric time by an error. -/
def Dev.stepTime (d : Dev) (e : Int) : Dev :=
  let d := d.set64 Reg.TB_TIME_LO_TIME Reg.TB_TIME_HI_TIME ((d.time : Int) + e).toNat
  (((d.modFab fun x => { x with step := none }).set Reg.FAB_STATUS_TIMESTATE 1).set Reg.FAB_TIMEERR_NS 0).raise 94 0

/-- Fabric time lies in the middle third of a round. -/
def Dev.midRound (d : Dev) : Bool :=
  let l := d.roundNs
  let t := d.time % max 1 l
  decide (l ≤ 3 * t ∧ 3 * t < 2 * l)

/-- At a control-period boundary: an error of 1 µs to 1 ms is stepped in the middle third of a round (R510). -/
def timeStep (d : Dev) : Dev :=
  match d.fab.step with
  | some e => if e.natAbs ≤ 1000000 ∧ d.midRound then d.stepTime e else d
  | none => d

/-! ### Island (R511, R516, R517, R56, R68) -/

/-- FAB_ISLAND takes a cause; EV095 when one newly stands. -/
def Dev.islandCause (d : Dev) (bit : Nat) (stands : Bool) : Dev :=
  let was := d.bit Reg.FAB_ISLAND_CAUSE bit
  let d := d.setBit Reg.FAB_ISLAND_CAUSE bit stands
  let d := d.set Reg.FAB_STATUS_ISLAND (flag (decide (d.get Reg.FAB_ISLAND_CAUSE ≠ 0)))
  if stands ∧ !was then d.raise 95 0 else d

/-- Idle and Serve go to Island while a condition stands, or where the keyholder before was in Island, unless the fabric is of
one station (R56, R57, R477). -/
def Dev.settleIsland (d : Dev) : Dev :=
  if d.multi ∧ (d.get Reg.FAB_ISLAND_CAUSE ≠ 0 ∨ d.islandWanted) ∧ (d.mode = .idle ∨ d.mode = .serve) then
    (d.modFab fun x => { x with islandAt := d.period }).enterMode .island
  else d

/-- An error above 1 ms enters Island; there the module steps to the source's time (R511). -/
def timeErrorIsland (d : Dev) : Dev :=
  match d.fab.step with
  | some e =>
    if !d.multi ∨ e.natAbs ≤ 1000000 then d
    else
      let d := (d.islandCause 1 true).settleIsland
      d.stepTime e
  | none => d

/-- The fabric at a round boundary: the conditions of R516, and the return of R517. -/
def Dev.fabricRound (d : Dev) : Dev :=
  if !d.multi then d
  else
    let d := (d.settlePorts).settleMembers
    let set_ := d.postedSet (d.round - 1)  -- a guest is a member (glossary)
    -- in Island the station posts nothing (R173) and counts itself (log 40)
    let own := d.get Reg.FAB_CFG_STATION
    let self := decide (d.mode = .island) && !(set_.any fun q => q.station = own)
    let n := set_.length + flag self
    let all := d.get Reg.FAB_SITECFG_STATIONS
    let low := (set_.any fun q => decide (q.station = 0)) || (self && decide (own = 0))
    let minor := decide (2 * n < all) || (decide (2 * n = all) && !low)
    let d := d.modFab fun x => { x with
      minority := if minor then x.minority + 1 else 0,
      goodRounds := if minor then 0 else x.goodRounds + 1 }
    let d := d.islandCause 0 (decide (5 ≤ d.fab.minority))
    let d := d.islandCause 1 (d.get Reg.FAB_STATUS_TIMESTATE ≠ 2 && decide (1000000 < (d.getI Reg.FAB_TIMEERR_NS).natAbs))
    let d := d.islandCause 2 (d.addr? = none)
    let d := d.islandCause 3 ((List.range 6).all fun p => !d.portOn p || !d.portUp p)
    if d.mode = .island then
      if d.get Reg.FAB_ISLAND_CAUSE = 0 ∧ d.get Reg.FAB_STATUS_MEMBER = 1 ∧ 2 ≤ d.fab.goodRounds ∧
          (d.getI Reg.FAB_TIMEERR_NS).natAbs ≤ 1000 then ({ d with islandWanted := false }.enterMode d.servingMode).raise 95 0
      else d
    else d.settleIsland

/-! ### Addresses (R93, R505) -/

/-- An address that a peer holds or claims. -/
def Dev.claimed (d : Dev) (a : Nat) : Bool :=
  decide (d.get (Reg.FAB_ROUTE_REACH a) = 1) ||
  (List.range 6).any fun p => decide (((d.fport p).hail.map (·.addr)) = some a)

/-- Takes an address by a step of R93. -/
def Dev.holdAddr (d : Dev) (a src : Nat) : Dev :=
  ((d.set Reg.FAB_STATUS_ADDR a).set Reg.FAB_STATUS_ADDRSRC src).modFab fun x => { x with lastAddr := a }

/-- No address is held: EV095 (R505, R516). -/
def Dev.loseAddr (d : Dev) : Dev :=
  let d := (d.set Reg.FAB_STATUS_ADDR 0).set Reg.FAB_STATUS_ADDRSRC 0
  if d.bit Reg.FAB_ISLAND_CAUSE 2 then d else (d.islandCause 2 true).settleIsland

/-- The steps of R93 from a given one: the seat, the address last held, a claim of the lowest address that no peer claims. -/
def Dev.acquireFrom (d : Dev) (step : Nat) : Dev :=
  if step ≤ 1 ∧ d.get Reg.FAB_CFG_SEATEN = 1 then d.holdAddr (d.get Reg.FAB_CFG_SEAT) 1
  else if step ≤ 2 ∧ d.fab.lastAddr < 32 ∧ !d.claimed d.fab.lastAddr then d.holdAddr d.fab.lastAddr 2
  else match (List.range 32).find? fun a => !d.claimed a with
    | some a => d.holdAddr a 3
    | none => d.loseAddr

/-- The address at Boot (R91, R93). -/
def Dev.acquire (d : Dev) : Dev := (d.set Reg.FAB_STATUS_ADDRSRC 0).acquireFrom 1

/-! ### Discovery and authentication (R501 to R504) -/

/-- Sends HAIL on an enabled port (R501). -/
def hail (p : Nat) (d : Dev) : Dev :=
  let d := d.settlePorts
  if !d.portOn p ∨ d.portState p < 2 then d
  else d.emit (.fabric 254 1 ([p, d.uid, d.addr?.getD 255, d.get Reg.FAB_CFG_SEAT, d.get Reg.FAB_CFG_STATION,
    d.get Reg.FAB_ID_LEVEL, d.get Reg.FAB_ID_FW, d.get Reg.DUP_STATUS_ROLE] ++ d.siteDigest.map BitVec.toNat))

/-- The port carries HAIL only: REFUSED, EV093 (R502). -/
def Dev.refusePort (d : Dev) (p : Nat) : Dev :=
  if d.portState p = 5 then d
  else (((d.set (Reg.FAB_PORT_STATE p) 5).set (Reg.FAB_PORT_ENC p) 0).relink).raise 93 0

/-- A peer on port p claims this module's address: the lower unique ID keeps it. A configured seat that is lost leaves no address, and
the module is refused (R505). -/
def Dev.settleClaim (d : Dev) (p : Nat) (h : Hail) : Dev :=
  if d.addr? ≠ some h.addr ∨ d.uid ≤ h.uid then d
  else
    let src := d.get Reg.FAB_STATUS_ADDRSRC
    if src = 1 then (d.loseAddr).refusePort p else ((d.set Reg.FAB_STATUS_ADDRSRC 0).acquireFrom (src + 1)).relink

/-- Sends AUTH on a port: the device certificate, where one is installed, and a signature over both sides' nonces, whose digest is free
(R502, R503). -/
def Dev.sendAuth (d : Dev) (p : Nat) : Dev :=
  let (k, d) := d.free
  let chain := d.fab.chain.getD []
  let sig := match d.box.fabric with
    | some key => Config.ecdsaSign key k (leBytes 8 (Config.freeNat k))
    | none => []
  d.emit (.fabric 254 2 (p :: chain.length :: (chain ++ sig).map BitVec.toNat))

/-- A HAIL from the peer: its address, the level it must share, and the start of authentication. -/
def hailReceived (p : Nat) (h : Hail) (d : Dev) : Dev :=
  let d := d.settlePorts
  if !d.portOn p ∨ d.portState p < 2 then d
  else
    let d := (d.modPort p fun x => { x with hail := some h }).set (Reg.FAB_PORT_PEER p) (if h.addr < 32 then h.addr else 0)
    let d := if h.addr < 32 then
        d.modPeer h.addr fun x => { x with uid := h.uid, station := h.station, digest := h.digest, fw := h.fw, role := h.role,
                                           level := h.level, known := true }
      else d
    let d := d.settleClaim p h
    if h.level ≠ d.get Reg.FAB_ID_LEVEL then d.refusePort p
    else if d.portState p = 2 then (d.set (Reg.FAB_PORT_STATE p) 3).sendAuth p
    else if d.portUp p then d.settleMembers
    else d

/-- The peer's AUTH: its certificate chain, the leaf's public key, the digest of both nonces, its signature, and its ENC setting
(R502). This side must hold a certificate and an address of its own (R505). -/
def authFrame (p : Nat) (chain key digest sig : List Byte) (enc : Bool) (d : Dev) : Dev :=
  if !d.portOn p ∨ (d.portState p ≠ 3 ∧ d.portState p ≠ 5) then d
  else
    let ok := Config.chainVerifies chain [d.tab.siteCa] && Config.chainNamesKey chain key && Config.ecdsaVerify key digest sig
    let own := d.bit Reg.FAB_CFG_ENC p
    if !ok ∨ d.fab.chain = none ∨ d.addr? = none ∨ enc ≠ own ∨ ((d.fport p).hail.map (·.level)) ≠ some (d.get Reg.FAB_ID_LEVEL) then d.refusePort p
    else
      let d := (d.set (Reg.FAB_PORT_STATE p) 4).set (Reg.FAB_PORT_ENC p) (flag (own && enc))
      (d.modPort p fun x => { x with keyAt := d.now, keyNum := x.keyNum + 1, txCtr := 0, rxCtr := 0 }).relink

/-- A link key has served 2³² frames in one direction, or 24 h (R502). -/
def Dev.keyWorn (d : Dev) (p : Nat) : Bool :=
  let x := d.fport p
  decide (2 ^ 32 ≤ x.txCtr) || decide (2 ^ 32 ≤ x.rxCtr) || decide (x.keyAt + 86400000000000 ≤ d.now)

/-- After 2³² frames or 24 h (R502). -/
def linkRekey (p : Nat) (d : Dev) : Dev :=
  if d.portUp p ∧ d.get (Reg.FAB_PORT_ENC p) = 1 ∧ d.keyWorn p then
    d.modPort p fun x => { x with keyAt := d.now, keyNum := x.keyNum + 1, txCtr := 0, rxCtr := 0 }
  else d

/-- A link is taken down (R500, R497). -/
def Dev.linkDown (d : Dev) (p : Nat) : Dev :=
  let d := ((d.set (Reg.FAB_PORT_STATE p) (if d.get (Reg.FAB_PORT_LANES p) = 0 then 1 else 2)).set (Reg.FAB_PORT_ENC p) 0)
  (d.modPort p fun x => { x with hail := none }).relink

/-- A lane loses block lock: EV093; without a lane the link is down (R497). -/
def laneLoss (p lane : Nat) (d : Dev) : Dev :=
  let d := d.settlePorts
  if d.isTwin p then (d.setBit (Reg.FAB_PORT_LANES p) lane false).twinLane lane false
  else if !d.bit (Reg.FAB_PORT_LANES p) lane then d
  else
    let d := (d.setBit (Reg.FAB_PORT_LANES p) lane false).raise 93 0
    if d.get (Reg.FAB_PORT_LANES p) = 0 ∧ 2 ≤ d.portState p then d.linkDown p else d

/-- A lane gains block lock. -/
def laneBlockLock (p lane : Nat) (d : Dev) : Dev :=
  let d := ((d.tbRun 8).settlePorts).setBit (Reg.FAB_PORT_LANES p) lane true
  if d.isTwin p then d.twinLane lane true
  else if d.portState p = 1 then d.set (Reg.FAB_PORT_STATE p) 2
  else d

/-! ### Frames (R498 to R500) -/

/-- Minimum LEN by TYPE (R499). -/
def minLen : Nat → Option Nat
  | 1 => some 64 | 2 => some 64 | 3 => some 8 | 4 => some 32 | 5 => some 32 | 6 => some 0 | 7 => some 4 | 8 => some 48 | 9 => some 16
  | _ => none

/-- The header and payload of a frame in order (R498). -/
def FabFrame.bytes (f : FabFrame) : List Byte :=
  leBytes 1 f.dst ++ leBytes 1 f.src ++ leBytes 1 f.typ ++ leBytes 1 f.hops ++ leBytes 2 f.payload.length ++ leBytes 2 f.seq ++
    leBytes 2 f.epoch ++ leBytes 2 (flag f.enc) ++ f.payload

/-- The link key of a port, named by port and key number. -/
def Dev.linkKey (d : Dev) (p : Nat) : List Byte := leBytes 4 p ++ leBytes 4 (d.fport p).keyNum

/-- CHECK of a frame: CRC-32, or the tag of the encrypted link (R498, R502). -/
def Dev.checkOk (d : Dev) (p : Nat) (f : FabFrame) (check : List Byte) : Bool :=
  if f.enc then (Config.aeadOpen (d.linkKey p) (d.fport p).rxCtr (f.bytes ++ check)).isSome
  else decide (check = leBytes 4 (crc32Ieee f.bytes))

/-- The frame may use the port: any while it is up, under its encryption; HAIL and AUTH before that; HAIL alone when refused. -/
def Dev.mayCarry (d : Dev) (p : Nat) (f : FabFrame) : Bool :=
  match d.portState p with
  | 4 => decide (f.typ ≤ 2) || (f.enc == decide (d.get (Reg.FAB_PORT_ENC p) = 1))
  | 2 => decide (f.typ ≤ 2)
  | 3 => decide (f.typ ≤ 2)
  | 5 => decide (f.typ = 1)
  | _ => false

/-- Sends a frame on a port, encrypted where its link is, which counts its nonce (R502). -/
def Dev.sendOn (d : Dev) (q : Nat) (f : FabFrame) : Dev :=
  let enc := decide (d.get (Reg.FAB_PORT_ENC q) = 1)
  let d := if enc then d.modPort q fun x => { x with txCtr := x.txCtr + 1 } else d
  d.emit (.fabLink q { f with enc := enc })

/-- Sends a frame on over the ports it needs, HOPS less one; a frame whose HOPS reaches 0 is discarded (R500). -/
def Dev.passOn (d : Dev) (p : Nat) (f : FabFrame) : Dev :=
  let g := { f with hops := f.hops - 1 }
  if f.hops ≤ 1 then d.addSat (Reg.FAB_PORT_ERR p) 1
  else if f.dst = 255 then
    ((List.range 6).filter fun q => q ≠ p && d.portUp q).foldl (fun d q => d.sendOn q g) d
  else if f.dst < 32 ∧ d.get (Reg.FAB_ROUTE_REACH f.dst) = 1 then d.sendOn (d.get (Reg.FAB_ROUTE_PORT f.dst)) g
  else d

/-- A frame arrives on a port: discarded and counted, or acknowledged; then delivered, passed on, or, in a flood, both, once by its
SEQ. What a delivered frame brings is the command of its type (R499, R500). -/
def fabricFrameReceived (p : Nat) (f : FabFrame) (check : List Byte) (d : Dev) : Dev :=
  if d.isTwin p ∨ d.portState p < 2 then d
  else
    let bad : Bool := match minLen f.typ with
      | none => true
      | some n => decide (f.payload.length < n) || decide (1024 < f.payload.length)
    if bad ∨ !d.checkOk p f check ∨ !d.mayCarry p f then d.addSat (Reg.FAB_PORT_ERR p) 1
    else
      let d := if f.enc then d.modPort p fun x => { x with rxCtr := x.rxCtr + 1 } else d
      let d := d.emit (.fabLink p { dst := 254, src := d.addr?.getD 255, typ := 0, seq := f.seq })
      if f.dst = 254 ∨ d.addr? = some f.dst then d
      else if f.dst = 255 then
        let x := d.peer f.src
        let new : Bool := match x.floodSeq with
          | none => true
          | some q => decide (0 < (f.seq + 65536 - q) % 65536 ∧ (f.seq + 65536 - q) % 65536 < 32768)
        if f.src < 32 ∧ d.addr? ≠ some f.src ∧ new then
          (d.modPeer f.src fun x => { x with floodSeq := some f.seq }).passOn p f
        else d
      else d.passOn p f

/-- A frame was not acknowledged within 20 µs: it is sent again, and after 8 tries the link is taken down with EV093 (R500). `tries`:
how often it has been sent again. -/
def fabricAckTimeout (p tries : Nat) (f : FabFrame) (d : Dev) : Dev :=
  if d.isTwin p ∨ d.portState p < 2 then d
  else if tries < 8 then (d.addSat (Reg.FAB_PORT_ERR p) 1).sendOn p f
  else (d.linkDown p).raise 93 0

/-- Every 1 s this module floods its LSA; on receipt of another's, paths are computed again (R507). -/
def lsa (received : Option (Nat × Nat × List Nat)) (d : Dev) : Dev :=
  match received with
  | none => d.floodLsa
  | some (src, seq, links) =>
    let x := d.peer src
    let new : Bool := match x.lsaSeq with
      | none => true
      | some q => decide (0 < (seq + 65536 - q) % 65536 ∧ (seq + 65536 - q) % 65536 < 32768)
    if 32 ≤ src ∨ d.addr? = some src ∨ !new then d
    else ((d.modPeer src fun x => { x with lsaSeq := some seq, links := links.filter fun a => decide (a < 32) }).settleRoutes).settleMembers

/-! ### Posts and notifications -/

/-- A station's post: late after (r − 1) × L + 5 ms for the division of round r; a differing set digest caps this station's share
(R514). -/
def postReceived (q : Post) (d : Dev) : Dev :=
  if !d.multi ∨ 32 ≤ q.addr ∨ q.station = d.get Reg.FAB_CFG_STATION ∧ some q.addr = d.addr? then d
  else
    let d := d.modPeer q.addr fun x => { x with station := q.station, digest := q.digest, known := true }
    let d := d.settleMembers
    if q.round * d.roundNs + 5000000 < d.time then d.addSat Reg.FAB_SETDIG_LATE 1
    else
      let d := d.modPurse fun p => { p with posts := p.posts ++ [q] }
      if q.setDigest = d.purse.setDigest then d
      else ((d.addSat Reg.FAB_SETDIG_MISMATCH 1).modPurse fun p => { p with capShare := true }).raise 93 0

/-- A NOTIFY frame: its sender and event (R586). -/
def notifyReceived (src event : Nat) (d : Dev) : Dev := ((d.set Reg.EVT_MISC_NADDR src).set Reg.EVT_MISC_NEVENT event).raise 15 0

/-! ### The device certificate (R503) -/

def fabCertcmdGenerate (d : Dev) : Dev :=
  if d.mode ≠ .commission then d.refuseMode Reg.FAB_CERTCMD_OP
  else if d.lifecycle = 3 then d.refuse 10 Reg.FAB_CERTCMD_OP.addr
  else
    let (k, d) := d.free
    let d := { d with box := { d.box with fabric := some (Config.newSecret k) } }
    (d.modFab fun x => { x with chain := none }).set Reg.FAB_CERTSTAT_STATE 1

/-- INSTALL: the chain of `len` bytes at the start of the host window, with the checks of R350 against the site CA. -/
def fabCertcmdInstall (len : Nat) (d : Dev) : Dev :=
  if d.mode ≠ .commission then d.refuseMode Reg.FAB_CERTCMD_OP
  else if len = 0 ∨ 4096 < len then d.refuse 5 Reg.FAB_CERTCMD_LEN.addr
  else
    let chain := d.sramBytes d.hostWin 0 len
    let fits := match d.box.fabric with
      | some k => Config.chainNamesKey chain (Config.publicKey k)
      | none => false
    if !fits then d.set Reg.FAB_CERTSTAT_STATE 3
    else if !Config.chainVerifies chain [d.tab.siteCa] ∨ !d.inDate chain then d.set Reg.FAB_CERTSTAT_STATE 4
    else (d.modFab fun x => { x with chain := some chain }).set Reg.FAB_CERTSTAT_STATE 2

def fabCertcmdErase (d : Dev) : Dev :=
  if d.mode ≠ .commission then d.refuseMode Reg.FAB_CERTCMD_OP
  else ({ d with box := { d.box with fabric := none } }.modFab fun x => { x with chain := none }).set Reg.FAB_CERTSTAT_STATE 0

end Sys2Proof.Machine
end

