-- ==== Sys2Proof/Machine/Modes.lean ====
section
/-! DEFINITION. Resets and what survives them, Boot, Selftest, Last gasp, Safe hold and its acknowledge, the die's shutdown and
Recovery (R54 to R103, R382, R388 to R392, R427, R544 to R546, R562, R598, R599, R661). -/

namespace Sys2Proof.Machine

/-! ### What survives (R91) -/

/-- The address lies in a register block. -/
def inBlock (lo hi a : Nat) : Bool := decide (lo ≤ a ∧ a < hi)

/-- Session numbers, which MRAM holds (R322, R547). -/
def sessNumKey (key : Nat) : Bool := (List.range 16).any fun n => decide (key = (Reg.OUT_SESSNUM_NUM n).key)

/-- Outlet and string retry counters, latched string faults, thermal latches (R91), and session numbers. -/
def latchKey (key : Nat) : Bool :=
  let a := key / 32
  [Reg.OUT_STRLATCH_LO_LATCH.addr, Reg.OUT_STRLATCH_HI_LATCH.addr, Reg.THM_STRLATCH_LO_LATCH.addr,
   Reg.THM_STRLATCH_HI_LATCH.addr].contains a ||
  decide (key = Reg.CAB_STATUS_LATCH.key) ||
  (List.range 16).any (fun n => decide (key = (Reg.CAB_STAT_LATCH n).key) || decide (key = (Reg.OUT_RETRY_COUNT n).key) ||
    decide (key = (Reg.OUT_RETRY_FROZEN n).key) || decide (key = (Reg.OUT_RETRY_LOCKOUT n).key) ||
    decide (key = (Reg.OUT_RETRY_NEXT n).key) || decide (key = (Reg.OUT_RETRY_SOFT n).key)) || sessNumKey key ||
  (inBlock 0x400E0100 0x400E0200 a)

/-- Counters kept since power-on. -/
def sincePowerOn (key : Nat) : Bool :=
  [Reg.STR_BLOCKSTAT_COUNT.key, Reg.TAL_RECSTAT_SKIPPED.key, Reg.MEM_PORTER_LAPS.key, Reg.MEM_MRAMSTAT_CORR.key].contains key ||
  (List.range 16).any (fun n => decide (key = (Reg.VLK_BLANK_COUNT n).key) || decide (key = (Reg.VLK_ERASE_COUNT n).key) ||
    decide (key = (Reg.VLK_PBERR_COUNT n).key) || decide (key = (Reg.VLK_RETRY_COUNT n).key)) ||
  (List.range 64).any fun b => decide (key = (Reg.MEM_BANKERR_UE b).key)

/-- Where a field's value comes from (R13). -/
def srcOf (key : Nat) : Src :=
  match fieldAt key with
  | some f => f.src
  | none => .por

/-- Fields that a cold reset keeps: MRAM, trim and fixed values; the settings, until Boot applies the image again; the safety island,
the power die and the auxiliary channels but for their event causes; TB0 and TB9; the pigeonholes; latches and counters
(R72, R74, R81, R91, R92). -/
def coldKeeps (key : Nat) : Bool :=
  let a := key / 32
  decide (srcOf key ≠ .por) ||
  (inBlock 0x40160000 0x40180000 a && decide (key ≠ Reg.SAF_EVCAUSE_CAUSE.key)) ||
  (inBlock 0x401D0000 0x401E0000 a && decide (key ≠ Reg.PWR_EVCAUSE_CAUSE.key)) ||
  inBlock 0x401A0000 0x401B0000 a || inBlock 0x40020000 0x40030000 a ||
  [Reg.TB_TIME_LO_TIME.key, Reg.TB_TIME_HI_TIME.key, Reg.TB_RTC_SEC_SEC.key, Reg.TB_RTC_FRAC_TICKS.key,
   Reg.TB_TB10_MEAS_FREQ.key, Reg.TB_COMP_RTC_PPM.key].contains key ||
  latchKey key || sincePowerOn key

/-- Fields that a power-on reset keeps: MRAM, trim and fixed values, thermal latches, and the counters they freeze. -/
def Dev.powerKeeps (d : Dev) (key : Nat) : Bool :=
  let a := key / 32
  (decide (srcOf key ≠ .por) && decide (srcOf key ≠ .tab)) || sessNumKey key ||
  [Reg.THM_STRLATCH_LO_LATCH.addr, Reg.THM_STRLATCH_HI_LATCH.addr].contains a || decide (key = Reg.CAB_STATUS_LATCH.key) ||
  (List.range 16).any (fun n => decide (key = (Reg.CAB_STAT_LATCH n).key) ||
    (decide (d.get (Reg.OUT_RETRY_FROZEN n) = 1) && latchKey key && decide (a = (Reg.OUT_RETRY_COUNT n).addr))) ||
  (List.range 64).any fun s => decide (d.get (Reg.OUT_STRCNT_FROZEN s) = 1) && decide (a = (Reg.OUT_STRCNT_COUNT s).addr) &&
    decide (key ≠ (Reg.OUT_STRCNT_LATCHED s).key)

/-- Calibration of commits that have been accepted stands in MRAM though its boundary has not come (R402). -/
def Dev.keepCalibration (d : Dev) : Dev :=
  d.scheds.foldl (fun d s => (s.writes.filter fun w => calibration (w.1 / 32)).foldl Dev.applyOne d) d

/-- The register file at a reset: power-on values, and the fields that are kept. -/
def Dev.resetRegs (d : Dev) (keeps : Nat → Bool) : Tbl Nat :=
  (d.regs.filter fun e => keeps e.1).foldl (fun r e => tput 0 r e.1 e.2) porRegs

/-- Retry counters of outlets and strings by a predicate, and nothing else of their contexts. -/
def Dev.keptOuts (d : Dev) (p : Nat → Bool) : Tbl OutCtx :=
  (d.outs.filter fun e => p e.1).foldl (fun t e => tput {} t e.1 { clock := e.2.clock, retries := e.2.retries }) []

def Dev.keptStrs (d : Dev) (p : Nat → Bool) : Tbl StrCtx :=
  (d.strs.filter fun e => p e.1).foldl
    (fun t e => tput {} t e.1 { clock := e.2.clock, retries := e.2.retries, readmit := e.2.readmit, thermHold := e.2.thermHold }) []

/-- What is common to both resets: flash, MRAM, the Strongbox, the Guestbook, the TAP. -/
def Dev.carried (d : Dev) : Dev :=
  { flash := d.flash, sealed := d.sealed, now := d.now, freeCtr := d.freeCtr, emitted := d.emitted, resetLow := d.resetLow,
    pinned := d.pinned, gb := d.gb, gbNext := d.gbNext, epochs := d.epochs, tally := d.tally, box := d.box,
    purse := { winStart := d.purse.winStart, winAt := d.purse.winAt }, jtag := d.jtag,
    mem := { spareOf := d.mem.spareOf, log := d.mem.log, newest := d.mem.newest, readTotal := d.mem.readTotal,
             unproven := d.mem.unproven },
    fab := { chain := d.fab.chain, lastAddr := d.fab.lastAddr }, bootsel := d.bootsel, testN := d.testN }

/-- Strings that hold a latch stay out of use (R316, R373). -/
def Dev.latchedStrings (d : Dev) : Dev :=
  forAll 64 d fun d s =>
    if d.strFrozen s then d.set (Reg.INK_STRING_STATE s) 7
    else if d.bit2 Reg.OUT_STRLATCH_LO_LATCH Reg.OUT_STRLATCH_HI_LATCH s then d.set (Reg.INK_STRING_STATE s) 5
    else d

/-- The epochs of the device agents: stewards and event unit (R91). -/
def Dev.nextEpochs (d : Dev) (agents : List Nat) : Dev :=
  agents.foldl (fun d a => d.setEpoch a 0 ((tget 0 d.epochs a + 1) % 65536)) d

def deviceAgents : List Nat := [3, 4, 5, 6, 7, 8, 9, 10, 13]

/-- Records a reset: SYS_RESETCAUSE and EV001; EV000 for the mode (R76). -/
def Dev.noteReset (d : Dev) (kind steward : Nat) : Dev :=
  (((d.set Reg.SYS_RESETCAUSE_KIND kind).set Reg.SYS_RESETCAUSE_STEWARD steward).raise 1 0)

/-- A power-on reset: everything but MRAM, flash, trim and thermal latches (R72, R91). -/
def Dev.powerOn (d : Dev) : Dev :=
  let d := d.keepCalibration
  let outs := d.keptOuts fun n => decide (d.get (Reg.OUT_RETRY_FROZEN n) = 1)
  let strs := d.keptStrs fun s => decide (d.get (Reg.OUT_STRCNT_FROZEN s) = 1)
  let d := { d.carried with regs := d.resetRegs d.powerKeeps, outs := outs, strs := strs }
  let d := (d.latchedStrings).nextEpochs deviceAgents
  (d.noteReset 0 0).raise 0 0

/-- The partner carries on the sessions that a stop of this module would end (R80, R429); Boot and Selftest serve none. -/
def Dev.noteContinued (d : Dev) : Dev :=
  if d.mode = .boot ∨ d.mode = .selftest then d
  else
    let b := d.duplex && (d.dup.partEligible || decide (d.get Reg.DUP_STATUS_ROLE = 2))
    d.modTally fun t => { t with continued := b }

/-- A cold reset (R72 to R81, R91): the main logic starts afresh; the island holds the safe outputs of live outlets, but for a
duplex station with an eligible lodger. -/
def Dev.coldReset (d : Dev) (kind : Nat) (internal : Bool) : Dev :=
  let holds := (List.range 16).filter d.soutOn
  let taken := d.duplex && d.dup.partEligible
  let was := d.mode
  let d := (d.noteContinued).keepCalibration
  let r := { d.carried with
    regs := d.resetRegs coldKeeps, outs := d.keptOuts fun _ => true, strs := d.keptStrs fun _ => true,
    running := d.running, tab := d.tab, roots := d.roots, gbWait := d.gbWait, gbLast := d.gbLast,
    stage := d.stage, pghResult := d.pghResult, tieCmd := d.tieCmd, auxApplied := d.auxApplied, spiFail := d.spiFail,
    saf := { d.saf with exempt := true, trig := 0, ack := false }, internalCold := internal,
    coldHold := if taken then [] else holds, dup := { ownAt := d.dup.ownAt } }
  let r := if r.duplex then r.set Reg.DUP_STATUS_ROLE 2 else r
  let r := (r.latchedStrings).nextEpochs deviceAgents
  let r := forAll 32 r fun r h => if r.get (Reg.PGH_STAT_STATE h) ≠ 0 then r.set (Reg.PGH_STAT_RCV_EPOCH_CHANGED h) 1 else r
  let r := r.noteReset kind 0
  if was = .boot then r else r.raise 0 0

/-- VSUP rises through the threshold and every rail is in regulation (R57, R72). `mv`: VSUP in mV. -/
def powerOnReset (mv : Nat) (d : Dev) : Dev := if d.mode = .off then (d.powerOn).noteVsup (mv / 10) else d

/-- RESET_N is held low for `ns` (R73, R77); ignored in Last gasp (R69). -/
def resetNAssert (ns : Nat) (d : Dev) : Dev :=
  if d.mode = .off ∨ d.mode = .lastGasp ∨ d.resetLow ∨ ns < 1000 then d
  else
    let (k, e) := d.free
    if 10000 ≤ ns then { d.coldReset 1 false with resetLow := true }
    else if Config.shortReset k then { e.coldReset 1 false with resetLow := true }
    else e

/-- RESET_N is released: Boot begins (R57). -/
def resetNRelease (d : Dev) : Dev := { d with resetLow := false }

/-- After a cold reset the island releases a live outlet's safe outputs: 1 ms below 5 A, or the deadline of R79 has passed. -/
def coldResetOutputRelease (n : Nat) (d : Dev) : Dev :=
  if d.coldHold.contains n then { d with coldHold := d.coldHold.filter fun m => m ≠ n }.outputsOff n else d

/-! ### Boot (R96 to R98, R561, R562, R610, R82) -/

/-- BOOTSEL0 to BOOTSEL2, and TEST_N, 1 ms after the release (R96); an internal cold reset does not sample them (R61). -/
def bootselSample (code : Nat) (testN : Bool) (d : Dev) : Dev :=
  if d.mode = .boot ∧ !d.internalCold then { d with bootsel := code, testN := testN } else d

/-- Vendor test is selected (R96, R98). -/
def Dev.vendorTest (d : Dev) : Bool := d.bootsel = 7 && !d.testN && decide (d.lifecycle = 0) && !d.internalCold

/-- The code as Boot takes it (R61, R96). -/
def Dev.bootCode (d : Dev) : Nat :=
  if d.bootsel = 6 ∨ d.bootsel = 7 ∨ (d.internalCold ∧ (d.bootsel = 4 ∨ d.bootsel = 5)) then 0 else d.bootsel

/-- A copy passes all checks of R561. -/
def Dev.copyPasses (d : Dev) (b : Bool) : Bool :=
  d.copyOk b && match d.copyImage b with
    | some img => d.check6 img
    | none => false

/-- The copy that Boot takes: the forced one, or the pointer's with the other as its fall-back. -/
def Dev.bootCopy (d : Dev) : Option Bool :=
  match d.bootCode with
  | 1 => if d.copyPasses false then some false else none
  | 2 => if d.copyPasses true then some true else none
  | _ => if d.copyPasses d.pointer then some d.pointer else if d.copyPasses (!d.pointer) then some (!d.pointer) else none

/-- The AUXBOOT policies of a copy. -/
def Dev.copyPolicy (d : Dev) (b : Bool) : List Nat :=
  match (d.copyImage b).bind imageSections with
  | some ss => (bodyOf ss 9).map BitVec.toNat
  | none => []

/-- Every tie's command against its feedback: one that differs is stuck; then the courses of every tie that reads closed leave by
steps 2 and 3, which command it open (R82, R110, R131). -/
def Dev.reconcileTies (d : Dev) (fb : Nat) : Dev :=
  let d := forAll 16 d fun d t =>
    if (d.tieCfg t).isNone then d
    else
      let d := d.setBit Reg.INK_TIESTATE_CLOSED t (fb.testBit t)
      if d.tieCmd.testBit t = fb.testBit t then d
      else ((if fb.testBit t then d.setBit Reg.INK_TIESTUCK_SHUT t true else d.setBit Reg.INK_TIESTUCK_OPEN t true)).raise 9 0
  let d := forAll 16 d Dev.settleStuck
  forAll 16 d fun d c => if d.get (Reg.INK_COURSE_STATE c) = 0 then d.leaveOrPark c c else d

/-- The first session state of each outlet: DISABLED without a type, LOCKOUT where it is kept, else VACANT. -/
def Dev.firstStates (d : Dev) : Dev :=
  forAll 16 d fun d n =>
    if d.get (Reg.OUT_CFG_TYPE n) = 0 then d.set (Reg.OUT_SESS_STATE n) 0
    else if d.get (Reg.OUT_RETRY_LOCKOUT n) = 1 then d.set (Reg.OUT_SESS_STATE n) 15
    else d.set (Reg.OUT_SESS_STATE n) 1

/-- No copy gives the settings: they stand at their reset values. -/
def Dev.dropSettings (d : Dev) : Dev :=
  { d with regs := d.regs.filter fun e => srcOf e.1 ≠ .tab, running := [], tab := {}, roots := [] }

/-! ### Items of MRAM lost in both copies (R548) -/

/-- Every thermal latch and every retry counter stands; each is released by its own rule. -/
def Dev.standAll (d : Dev) : Dev :=
  let d := (d.set Reg.THM_STRLATCH_LO_LATCH (2 ^ 32 - 1)).set Reg.THM_STRLATCH_HI_LATCH (2 ^ 32 - 1)
  let d := forAll 16 (d.set Reg.CAB_STATUS_LATCH 65535) fun d n =>
    (((d.set (Reg.CAB_STAT_LATCH n) 1).set (Reg.OUT_RETRY_FROZEN n) 1).set (Reg.OUT_RETRY_COUNT n) 3).modOut n fun o =>
      { o with retries := List.replicate 3 o.clock }
  (forAll 64 d fun d s =>
    ((d.set (Reg.OUT_STRCNT_FROZEN s) 1).set (Reg.OUT_STRCNT_COUNT s) 3).modStr s fun x =>
      { x with retries := List.replicate 3 x.clock, thermHold := false }).latchedStrings

/-- The fields of a calibration (R402). -/
def calibrationKeys : List Fld := imageRegs.flatMap fun r =>
  if calibration r.1 then r.2.map fun f => ⟨32 * r.1 + f.lo, f.width⟩ else []

/-- What the loss of an item does: most take their power-on reset value. -/
def Dev.loseItem (d : Dev) : MramItem → Dev
  | .strongbox => d.wipeBox
  | .lifecycle => d.set Reg.SYS_LIFECYCLE_STATE 0
  | .pointer => d.set Reg.SYS_TAB_ACTIVE 0
  | .resetCause => (d.set Reg.SYS_RESETCAUSE_KIND 0).set Reg.SYS_RESETCAUSE_STEWARD 0
  | .fabricAddress => { d with fab := { d.fab with lastAddr := 32 } }
  | .sessionNumbers => forAll 16 d fun d n => d.set (Reg.OUT_SESSNUM_NUM n) 0
  | .calibration =>
    ((calibrationKeys.foldl (fun d f => d.set f 0) d).set Reg.TAL_CALID_ID 0).modTally fun t => { t with calLost := true }
  | .retiredList => { (d.set Reg.MEM_RETIRED_LO_RETIRED (2 ^ 32 - 1)).set Reg.MEM_RETIRED_HI_RETIRED (2 ^ 32 - 1) with
      mem := { d.mem with spareOf := [], unproven := true } }
  | .journal => d.modTally fun t => { t with slotA := {}, slotB := {}, journalLost := true }
  | .records => (d.set Reg.TAL_RECHEAD_SEQ 0).modTally fun t => { t with recs := [] }
  | .windowCounts => { d with purse := { d.purse with winStart := 0, winAt := [], winOn := 0 } }
  | .shutdown =>
    [Reg.THM_SHUT0_SEC, Reg.THM_SHUT1_VALID, Reg.THM_SHUT1_RELEASED, Reg.THM_SHUT1_CAUSE, Reg.THM_SHUT1_MODE, Reg.THM_SHUT1_TEMP,
      Reg.THM_SHUT2_DWELL, Reg.THM_SHUT2_PEAK].foldl (fun d f => d.set f 0) d
  | .latches => d.standAll
  | .lockouts => forAll 16 d fun d n => (d.set (Reg.OUT_RETRY_LOCKOUT n) 0).set (Reg.OUT_RETRY_SOFT n) 0
  | .errorLog => ({ d with mem := { d.mem with log := [], newest := [], readTotal := 0 } }.set Reg.MEM_LOGHEAD_TOTAL 0).refreshLog
  | .guestbook => { d with gb := [], gbNext := 0 }.set Reg.EVT_GBHEAD_VALUE 0

/-- What Boot finds when it reads MRAM (R547, R548); a wipe that was pending is completed first (R551). -/
def Dev.readMram (d : Dev) (m : MramReport) : Dev :=
  let d := if d.get Reg.MEM_TAMPSTAT_PENDING = 1 then d.tamperWipe else d
  let d := d.mramRead (m.corrected.map BitVec.toNat) (m.rewritten.map BitVec.toNat)
  m.lost.foldl (fun d i => ((d.loseItem i).addSat Reg.MEM_MRAMSTAT_LOST 1).raise 27 0) d

/-- The Tally without its journal (R548): each scope counts on from its newest held record, and its next record carries
TAIL_UNSEALED with the bound of R428. `cold`: the stop was a cold reset. -/
def Dev.countOn (d : Dev) (cold : Bool) : Dev :=
  if !d.tally.journalLost then d
  else
    let tj := d.get Reg.TAL_CFG_JOURNAL * 100000
    let slowest := (List.range 16).foldl (fun r n => max r (d.get (Reg.INK_OUTCFG_RUNDOWN n))) 0
    let d := d.modTally fun t => { t with journalLost := false }
    forAll 20 d fun d c =>
      let held := d.tally.recs.filter fun r => r.body.getD 10 0#8 = BitVec.ofNat 8 c
      let newest := held.foldl (fun (b : Option MeterRec) r => match b with
        | some x => if x.seq < r.seq then some r else some x
        | none => some r) none
      let body := (newest.map (·.body)).getD []
      let imp := ofLe (slice body 48 8)
      let exp := ofLe (slice body 56 8)
      let ts := d.tailStop cold (if c < 16 then d.get (Reg.INK_OUTCFG_RUNDOWN c) else slowest)
      ((d.setImpCount c imp).setExpCount c exp).modScope c fun x => { x with
        impRes := 0, expRes := 0, prevImp := imp, prevExp := exp, flags := x.flags ||| 1,
        tail := tailBound (d.ratedW c) tj ts }

/-- What Boot applies of a copy (R79 to R83, R93, R351, R429, R441, R461). -/
def Dev.applyCopy (d : Dev) (b : Bool) (tieFb hostBank : Nat) : Dev :=
  match d.copyImage b with
  | none => d
  | some img =>
    let d := d.loadImage b img
    let d := d.applyAuxBoot (some d.tab.auxBoot)
    let d := if d.duplex then d.set Reg.DUP_STATUS_ROLE 2 else d.set Reg.DUP_STATUS_ROLE 0
    let cold := decide (d.get Reg.SYS_RESETCAUSE_KIND ≠ 0)
    let d := ((d.tallyRestore).bootClose cold).countOn cold
    let d := ((d.copyRatings).startPurse).rebuildBanks hostBank
    let d := forAll 16 d Dev.startConn
    let d := ((d.firstStates).reconcileTies tieFb).countHealthy
    ((((d.settlePorts).acquire).refreshRecs).showUnpersisted).showIds

/-- Boot moves the pointer to the copy it fell back to (R562). -/
def Dev.fallBack (d : Dev) (b : Bool) : Dev :=
  if d.bootCode = 1 ∨ d.bootCode = 2 ∨ d.pointer = b then d
  else ((d.set Reg.SYS_TAB_ACTIVE (flag b)).set Reg.SYS_TAB_FALLBACK 1).raise 2 0

/-- The flash as SFDP describes it (R620); no valid SFDP raises EV118. -/
def Dev.showFlash (d : Dev) (mib : Nat) (octal : Bool) : Dev :=
  let d := (d.set Reg.NVM_INFO_SIZE mib).set Reg.NVM_INFO_MODE (flag (octal && decide (mib ≠ 0)))
  if mib = 0 then d.raise 118 0 else d

/-- A thermal shutdown record stands unreleased (R57, R391). -/
def Dev.shutRecord (d : Dev) : Bool := d.deviceLatch

/-- Boot is done (R57): to Safe hold on a demand, to Recovery without a copy, with a shutdown record or by BOOTSEL, else to Selftest.
`mib`, `octal`: the flash; `tieFb`: tie feedback; `hostBank`: where the host window is placed; `mram`: what reading MRAM found. -/
def bootComplete (mib : Nat) (octal : Bool) (tieFb hostBank : Nat) (mram : MramReport) (d : Dev) : Dev :=
  if d.mode ≠ .boot then d
  else
    let d := (d.readMram mram).showIds
    let d := d.showFlash mib octal
    let d := if d.bootsel = 6 ∨ d.bootsel = 7 then d.raise 11 0 else d
    let recover := fun (d : Dev) (dwell : Bool) => { d with recoveryDwell := dwell }.enterMode .recovery
    match d.bootCopy with
    | none =>
      let d := (((d.dropSettings).applyAuxBoot none).rebuildBanks hostBank).raise 2 0
      let d := if d.duplex then d else d.set Reg.DUP_STATUS_ROLE 0
      recover d d.shutRecord
    | some b =>
      if d.bootCode = 4 then
        let policy := d.copyPolicy b
        recover (((d.dropSettings).applyAuxBoot (some policy)).rebuildBanks hostBank) false
      else
        let d := (d.fallBack b).applyCopy b tieFb hostBank
        if d.shutRecord then recover d true
        else if d.saf.trig ≠ 0 then { d with safeFrom := 1 }.enterMode .safeHold
        else d.enterMode .selftest

/-! ### Selftest (R57, R59, R544 to R546, R27, R598, R599, R365, R430) -/

/-- A bank that failed its March pass is retired, with a spare where R541 gives one; `none` where the failure is fatal (R59, R546). -/
def Dev.marchFail (d : Dev) (b : Nat) : Option Dev :=
  let role := d.get (Reg.MEM_BANKOWN_ROLE b)
  let note := fun (d : Dev) => (d.logError 6 0 0 b 0 0).raise 22 b
  if d.retired b then some d
  else if role = 1 ∨ role = 3 then some (note (d.dropBank b))
  else if role = 2 then
    if d.retired 59 ∨ d.get (Reg.MEM_BANKOWN_ROLE 59) = 2 then none else some (note (d.switchBank b 59 false 0))
  else match d.freeSpare with
    | some x => some (note (d.switchBank b x false (d.bankPwr b)))
    | none => none

/-- After the loss of the retired list the March pass decides afresh which banks serve (R548). -/
def Dev.proveBanks (d : Dev) : Dev :=
  if !d.mem.unproven then d
  else
    let d := (d.set Reg.MEM_RETIRED_LO_RETIRED 0).set Reg.MEM_RETIRED_HI_RETIRED 0
    (d.modMem fun m => { m with unproven := false }).rebuildBanks (d.get Reg.MEM_HOSTWIN_BANK)

/-- The retirements of Selftest, and whether one was fatal; the failed spares leave service first. -/
def Dev.marchAll (d : Dev) (bad : List Nat) : Dev × Bool :=
  let order := (bad.filter fun b => decide (56 ≤ b ∧ b < 60)) ++ bad.filter fun b => decide (b < 56 ∨ 60 ≤ b)
  order.foldl (fun (acc : Dev × Bool) b => match acc.1.marchFail b with
    | some d => (d, acc.2)
    | none => (acc.1, true)) (d, false)

/-- The hold-up measurement (R598, R599): C in µF is 80 µAs over the mean fall, and AVAIL_MJ = ⌊½ × C × 147 V² − 1 mJ⌋. -/
def Dev.holdUp (d : Dev) (vsup : Nat) (falls : List Nat) : Dev :=
  let sum : Nat := falls.foldl (· + ·) 0
  let n : Nat := falls.length
  let even := falls.all fun f => decide ((((n * f : Nat) : Int) - (sum : Nat)).natAbs * 100 ≤ 5 * sum)
  -- C = 80,000,000 × n / sum in µF
  let ok := decide (20000 ≤ vsup) && decide (n = 16) && decide (sum ≠ 0) && even && decide (500 * sum ≤ 80000000 * n) &&
    decide (80000000 * n ≤ 20000 * sum)
  if ok then
    let d := (d.set Reg.PWR_HOLDUP_STATE 1).set Reg.PWR_HOLDUP_CAP (quot (80000000 * n) sum).toNat
    d.setSat Reg.PRS_HOLDUP_AVAIL_MJ ((80000000 * n * 147 - 2000 * sum) / (2000 * sum))
  else
    let d := (d.set Reg.PWR_HOLDUP_STATE 2).set Reg.PRS_HOLDUP_AVAIL_MJ 0
    d.raise 116 0

/-- The measured canary scale differs from the reference by more than 10 %. -/
def Dev.canaryOff (d : Dev) (scale : Nat) : Bool :=
  decide (d.get Reg.PRS_CANARY_REF < 10 * ((scale : Int) - d.get Reg.PRS_CANARY_REF).natAbs)

/-- Banks get the owners that the device places (R519, R525, R544); the Strongbox banks and the host window stand. -/
def Dev.place (d : Dev) (l : List (Nat × Nat)) : Dev :=
  l.foldl (fun d p =>
    if (d.handable p.1 ∧ d.owner p.1 = 0) ∨ (d.get (Reg.MEM_BANKOWN_ROLE p.1) = 2 ∧ !d.retired p.1) then
      (d.set (Reg.MEM_BANKOWN_OWNER p.1) p.2).set (Reg.MEM_BANKOWN_PWR p.1) 0
    else d) d

/-- PLC front ends that passed wake; one that failed refuses sessions with EV103. -/
def Dev.startLinks (d : Dev) (fail : Nat) : Dev :=
  let d := { d with links := { d.links with plcFail := fail } }
  forAll 16 d fun d n =>
    if d.get (Reg.OUT_CFG_TYPE n) = 1 ∧ fail.testBit n then d.raiseVlk 103 n else d.wakeLink n

/-- The mode that follows a passed Selftest, unless a device-wide latch stands. -/
def Dev.firstMode (d : Dev) : Mode :=
  if d.bootCode = 3 ∨ d.lifecycle = 0 ∨ d.lifecycle = 3 then .commission else if d.duplex then .standby else .idle

/-- Entry to Standby starts a rejoin (R495). -/
def Dev.toFirst (d : Dev) (m : Mode) : Dev :=
  let d := d.enterMode m
  if d.mode = .standby then d.startRejoin else d

/-- Causes of safe inputs and safe connections that still stand set their latches again before Selftest completes, by the roles
that the image gave (R67, R91). -/
def Dev.safetyStands (d : Dev) : Dev :=
  let d := forAll 16 d fun d i => if d.sinDemands i then d.sinAct i else d
  if d.connDemands then d.demand 1 else d

/-- Selftest ends. -/
def selftestComplete (r : SelftestReport) (d : Dev) : Dev :=
  if d.mode ≠ .selftest then d
  else
    let bad := r.march.map Fin.val
    let d := { d with sram := [] }.modMem fun m => { m with poison := [] }
    let d := (d.set Reg.MEM_SELFTEST_CHECKER (flag r.checker)).set Reg.MEM_SELFTEST_EXT (flag (d.bootCode = 5))
    let count := ((List.range 64).filter bad.contains).length
    -- FAILED has six bits: what it reads where all 64 banks failed is free (log 48)
    let (k, d') := d.free
    let d := if count < 64 then d.set Reg.MEM_SELFTEST_FAILED count else d'.set Reg.MEM_SELFTEST_FAILED (Config.freeNat k)
    let d := forAll 64 d fun d b => d.setBit2 Reg.MEM_SELFFAIL_LO_FAIL Reg.MEM_SELFFAIL_HI_FAIL b (bad.contains b)
    let (d, lost) := d.proveBanks.marchAll bad
    let d := (d.place (r.placement.map fun p => (p.1.val, p.2.val))).modLinks id
    let off1 := d.canaryOff r.canary.toNat
    let off2 := off1 && d.canaryOff r.canaryAgain.toNat
    let d := d.set Reg.PRS_CANARY_SCALE (if off1 then r.canaryAgain.toNat else r.canary.toNat)
    let d := if off1 then d.holdRail else d
    let d := (((d.set Reg.PWR_RAIL_V5 r.v5.toNat).set Reg.PWR_RAIL_V33 r.v33.toNat).set Reg.PWR_RAIL_V18 r.v18.toNat).set
      Reg.PWR_RAIL_VCORE r.vcore.toNat
    let d := ((d.noteVsup (r.vsup / 10)).holdUp r.vsup r.falls).set Reg.PRS_HOLDUP_NEED_MJ 120
    let fatal := !r.checker || lost || !r.images || off2 || !r.island
    let d := ((((d.startLinks r.plcFail.toNat).affordCheck).startCables).set Reg.TAL_STATUS_RUN 1).safetyStands
    if fatal ∨ d.bootCode = 5 then { d with recoveryDwell := false }.enterMode .recovery
    else if d.get Reg.SAF_STATUS_DEVCAUSE ≠ 0 ∨ d.saf.romLatch then { d with safeFrom := d.firstMode.code }.enterMode .safeHold
    else d.toFirst d.firstMode

/-! ### Supply loss and Last gasp (R57, R70, R427, R451, R392) -/

/-- The device is off: nothing is driven. -/
def Dev.switchOff (d : Dev) : Dev :=
  let d := forAll 16 d Dev.outputsOff
  let d := (d.set Reg.AUX_ON_LO_BITS 0).set Reg.AUX_ON_HI_BITS 0
  { d.set Reg.SYS_STATUS_MODE 0 with resetLow := false, coldHold := [] }

/-- VSUP below 14.0 V for 50 µs. -/
def supplyLoss (mv : Nat) (d : Dev) : Dev :=
  if d.mode = .off ∨ d.mode = .lastGasp then d
  else if d.resetLow then d.switchOff
  else
    let d := ((d.noteContinued).noteVsup (mv / 10)).blockAll
    let d := forAll 16 d fun d n => d.release n (d.currentMa n)
    let d := d.enterMode .lastGasp
    let d := forAll 16 d fun d n => ((d.set (Reg.VLK_LINK_LSTATE n) 0).setBit Reg.VLK_STATUS_MATCHED n false).setBit Reg.VLK_STATUS_T1SUP n false
    let d := forAll 6 d fun d p => (d.set (Reg.FAB_PORT_STATE p) 0).set (Reg.FAB_PORT_LANES p) 0
    let d := (d.set Reg.DUP_STATUS_LANES 0)
    forAll 2 d fun d p => d.set (Reg.HST_STAT_LINK p) 0

/-- Writes the waiting Guestbook entries to MRAM; EVT_GBHEAD counts them (R587). -/
def Dev.flushGuestbook (d : Dev) : Dev :=
  let top := d.gbNext
  ({ d with gb := d.gbWait.foldl (fun (t : Tbl GbEntry) (e : Nat × GbEntry) => tput {} t (e.1 % 32768) e.2) d.gb, gbWait := [] }).set Reg.EVT_GBHEAD_VALUE top

/-- The shutdown record (R389): time, temperature, the mode left, and the cause, 1 for the trip. The device thermal latch
stands from here on (R374). -/
def Dev.writeShutdown (d : Dev) (left cause : Nat) : Dev :=
  let t := d.get Reg.THM_DIODE_TEMP
  let d := (d.set Reg.THM_SHUT0_SEC d.rtc).set Reg.THM_SHUT1_TEMP t
  let d := ((d.set Reg.THM_SHUT1_VALID 1).set Reg.THM_SHUT1_RELEASED 0).set Reg.THM_SHUT1_CAUSE cause
  ((d.set Reg.THM_SHUT1_MODE left).set Reg.THM_SHUT2_PEAK t).freezeAll

/-- Last gasp is over: step 1 always, steps 2 and 3 where the remaining energy in mJ before each covers its cost; then Boot as a
cold reset if VSUP is back, else Off (R427, R392, R57). -/
def lastGaspComplete (mv e2 e3 : Nat) (d : Dev) : Dev :=
  if d.mode ≠ .lastGasp then d
  else
    let d := (d.noteVsup (mv / 10)).writeJournal true true
    let d := if 22 ≤ e2 ∧ d.therm.gaspTrip then (d.writeShutdown 11 1).raise 66 0 else d
    let d := if 22 ≤ e2 ∧ 34 ≤ e3 then d.flushGuestbook else d
    let d := d.modTherm fun t => { t with gaspTrip := false }
    if 15500 ≤ mv then { d.coldReset 2 true with coldHold := [] } else d.switchOff

/-! ### Stewards (R75, R76, R85 to R87, R535) -/

/-- What every restart of stewards does: the open transaction aborts with code 13, a migration is abandoned, epochs move on. -/
def Dev.restart (d : Dev) (agents : List Nat) (kind steward : Nat) : Dev :=
  ((((d.abortTxn 13).abandonMove).nextEpochs agents).noteReset kind steward)

/-- A host write of SYS_CMD.WARM. -/
def sysCmdWarm (d : Dev) : Dev :=
  if d.mode = .lastGasp then d
  else if d.mode = .boot ∨ d.mode = .selftest ∨ d.mode = .thermal ∨ d.mode = .recovery then d.refuse 3 Reg.SYS_CMD_WARM.addr
  else if d.warming then d
  else { d with warming := true }.restart [3, 4, 5, 6, 7, 8, 9, 10] 3 0

/-- The stewards have restarted; each resumes its sessions from their checkpoints (R35). -/
def warmRestartDone (d : Dev) : Dev := if d.warming then forAll 16 { d with warming := false } Dev.resume else d

/-- The sessions that a steward drives resume from their checkpoints (R35). -/
def Dev.resumeOf (d : Dev) (k : Nat) : Dev := forAll 16 d fun d n => if d.get (Reg.OUT_SESS_STEWARD n) = k then d.resume n else d

/-- A steward's watchdog expires; absorbed by a device warm reset that runs. -/
def stewardWatchdog (k : Nat) (d : Dev) : Dev :=
  if d.warming ∨ d.mode = .boot ∨ d.mode = .lastGasp then d else (d.restart [3 + k] 4 k).resumeOf k

/-- A steward's image reloaded from flash overwrites a word of its bank; the image's content is open, so the word is free (R535). -/
def Dev.reloadWord (d : Dev) (bank word : Nat) : Dev :=
  if d.bankPwr bank ≠ 0 then d
  else
    let (k, d) := d.free
    (d.setSramWord bank word (Config.freeNat k % 2 ^ 64)).setPoison bank word false

/-- An uncorrectable instruction fetch: logged, EV025, and the steward reloads its image and resets (R535). -/
def stewardFetchTrap (k bank word synd : Nat) (d : Dev) : Dev :=
  if d.warming ∨ d.mode = .boot ∨ d.mode = .lastGasp then d
  else (((d.uncorrectable 0 (1 + k) bank word synd).raise 25 bank).reloadWord bank word).restart [3 + k] 4 k |>.resumeOf k

/-! ### Safe hold (R57, R58, R66, R88 to R90, R448, R450) -/

/-- A device-wide demand takes the device to Safe hold. -/
def Dev.safeHoldDue (d : Dev) : Bool :=
  match d.mode with
  | .boot | .selftest => decide (d.saf.trig ≠ 0)
  | .commission | .standby | .idle | .serve | .island => decide (d.get Reg.SAF_STATUS_DEVCAUSE ≠ 0) || d.saf.romLatch
  | _ => false

def Dev.enterSafeHold (d : Dev) : Dev :=
  if d.safeHoldDue then { d with safeFrom := d.mode.code }.enterMode .safeHold else d

/-- The device-wide causes whose conditions are absent at the boundary (R88). -/
def Dev.inactive (d : Dev) (bit : Nat) : Bool :=
  match bit with
  | 0 => !((List.range 16).any fun i => decide (d.sinRole i = 1) && d.sinDemands i)
  | 1 => !d.connDemands
  | 2 => !d.saf.active.testBit 2 && decide (d.get Reg.PWR_STATUS_RAILFLT = 0)
  | 3 => !d.saf.active.testBit 3 && !d.bit Reg.TB_STATUS_FAULT 0
  | b => !d.saf.active.testBit b

/-- Where an acknowledge leads (R90). -/
def Dev.leaveTo (d : Dev) : Dev :=
  if d.safeFrom = 1 ∨ d.safeFrom = 2 then d.coldReset 2 true
  else if d.safeFrom = 3 ∨ d.lifecycle = 0 ∨ d.lifecycle = 3 ∨ d.bootCode = 3 then d.enterMode .commission
  else if d.lodger then d.toFirst .standby
  else if d.multi ∧ (d.get Reg.FAB_ISLAND_CAUSE ≠ 0 ∨ d.islandWanted) then d.enterMode .island
  else d.enterMode .idle

/-- An accepted acknowledge acts at the control-period boundary (R88, R448, R450). -/
def Dev.ackBoundary (d : Dev) : Dev :=
  if !d.saf.ack then d
  else
    let d := d.modSaf fun x => { x with ack := false }
    if d.mode ≠ .safeHold then d
    else
      let was := d.get Reg.SAF_STATUS_DEVCAUSE
      let now := (List.range 6).foldl (fun acc b =>
        if was.testBit b ∧ (!d.inactive b ∨ d.saf.trig.testBit b) then acc + 2 ^ b else acc) 0
      let d := (d.set Reg.SAF_STATUS_DEVCAUSE now).modSaf fun x => { x with romLatch := x.romLatch && x.romBad }
      let d := if was % 4 ≠ 0 ∧ now % 4 = 0 then d.raise 80 0 else d
      -- R437: the faults of inputs that do not act as SF6
      let d := if now.testBit 0 then d else forAll 16 d fun d i =>
        if d.sinRole i ≠ 2 ∧ d.sinFaultGone i then d.setBit Reg.SAF_SINSTAT_FAULT i false else d
      if now ≠ 0 ∨ d.saf.romLatch then (d.set Reg.SAF_ACK_RESULT 2).raise 86 0
      else
        let d := d.set Reg.SAF_ACK_RESULT 1
        -- R89: every course stays in BLOCK until it is brought into use
        let d := forAll 16 d fun d c => d.modCourse c fun x => { x with blocked := true }
        let d := forAll 16 d fun d n => if d.live n then d else d.setBit Reg.STR_BLOCKSTAT_HELD n false
        let d := forAll 16 d Dev.leaveSafe
        d.leaveTo

/-! ### The die (R382, R385, R388 to R392) -/

/-- The end cause of a session that Thermal shutdown ends: the list of causes names none (free). -/
def Dev.endByHeat (d : Dev) : Dev :=
  forAll 16 d fun d n =>
    if 3 ≤ d.sess n ∧ d.sess n ≤ 11 then
      let (k, d) := d.free
      let c := Config.freeNat k
      if d.sess n ≤ 6 then d.goto n 14 c 5 else d.stopSafe n c 5
    else d

/-- Thermal shutdown (R389, R390): a keyholder with an eligible lodger demands no BLOCK and ends no session. -/
def Dev.enterThermal (d : Dev) (cause : Nat) : Dev :=
  let left := d.mode.code
  let d := if d.keyholder && d.dup.partEligible then d else (d.blockAll).endByHeat
  let d := (d.writeShutdown left cause).enterMode .thermal
  { d with recoveryDwell := false }.raise 66 0

/-- The absolute shutdown level in 1/16 K, and the release level (R391). -/
def Dev.shutLevel (d : Dev) : Int := 16 * (d.get Reg.THM_ABSCFG_SHUT : Int)
def Dev.releaseLevel (d : Dev) : Int := 16 * ((d.get Reg.THM_ABSCFG_SHUT : Int) - d.get Reg.THM_ABSCFG_HYST)

/-- The Recovery dwell at a good conversion (R391). -/
def Dev.dwell (d : Dev) (t : Int) : Dev :=
  if d.mode ≠ .recovery ∨ !d.recoveryDwell then d
  else if d.releaseLevel ≤ t then (d.modTherm fun x => { x with dwellStart := none }).set Reg.THM_SHUT2_DWELL 0
  else match d.therm.dwellStart with
    | none => d.modTherm fun x => { x with dwellStart := some d.now }
    | some s => d.set Reg.THM_SHUT2_DWELL (min 60 ((d.now - s) / 1000000000))

/-- The comparisons of a conversion against the shutdown and release levels. -/
def Dev.shutdownLevels (d : Dev) (t : Int) : Dev :=
  match d.mode with
  | .boot | .selftest | .commission | .recovery => if d.shutLevel ≤ t then d.enterThermal 0 else d.dwell t
  | .thermal =>
    if t < d.releaseLevel then
      ({ d.modTherm fun x => { x with dwellStart := some d.now } with recoveryDwell := true }.set Reg.THM_SHUT2_DWELL 0).enterMode .recovery
    else d
  | _ => d

/-- A conversion of the die's diode, in 1/16 K (R380, R382, R383, R385). -/
def diodeConversion (raw : Int) (d : Dev) : Dev :=
  let jump : Bool := match d.therm.lastConv with
    | some p => decide (160 < (raw - p).natAbs)
    | none => false
  let d := d.modTherm fun x => { x with lastConv := some raw }
  let absolute := decide (d.get Reg.THM_STATUS_REGIME = 1)
  if raw < -880 ∨ 2800 < raw ∨ jump then
    let d := d.modTherm fun x => { x with goodRun := 0 }
    let d := if d.get Reg.THM_STATUS_DIODEFLT = 1 then d else (d.set Reg.THM_STATUS_DIODEFLT 1).raise 71 0
    let d := if absolute then d.levelFlags (d.getI Reg.THM_DIODE_TEMP) else d
    d.setFrac 5120000
  else
    let d := d.modTherm fun x => { x with goodRun := x.goodRun + 1 }
    if d.get Reg.THM_STATUS_DIODEFLT = 1 then d
    else
      let d := d.setI Reg.THM_DIODE_TEMP raw
      let d := if d.get Reg.THM_STATUS_REGIME = 0 then d.modTherm fun x => { x with sum := x.sum + raw, n := x.n + 1 }
        else if absolute then d.absoluteLevels raw else d
      d.shutdownLevels raw

/-- The comparator at 150 °C (R388, R392). -/
def hardwareTrip (d : Dev) : Dev :=
  match d.mode with
  | .off | .thermal => d
  | .lastGasp => d.modTherm fun x => { x with gaspTrip := true }
  | _ => d.enterThermal 1

/-- 10 ms after the BLOCK of a shutdown the island releases the safe outputs (R389). -/
def shutdownOutputRelease (d : Dev) : Dev :=
  if d.mode = .thermal ∧ !(d.keyholder && d.dup.partEligible) then forAll 16 d Dev.outputsOff else d

/-- Every 100 ms: the peak in the shutdown record (R389). -/
def shutdownPeakUpdate (d : Dev) : Dev :=
  if d.mode = .thermal ∧ d.getI Reg.THM_SHUT2_PEAK < d.getI Reg.THM_DIODE_TEMP then
    d.setI Reg.THM_SHUT2_PEAK (d.getI Reg.THM_DIODE_TEMP)
  else d

/-- 60 s below release: the record is released with EV066, and Boot follows as a cold reset where a valid copy is present
(R57, R61, R62, R391). -/
def recoveryDwellComplete (d : Dev) : Dev :=
  if d.mode ≠ .recovery ∨ !d.recoveryDwell ∨ d.therm.dwellStart = none then d
  else
    let d := (((d.set Reg.THM_SHUT1_RELEASED 1).set Reg.THM_SHUT2_DWELL 60).unfreezeAll).raise 66 0
    if d.copyPasses false ∨ d.copyPasses true then d.coldReset 2 true else d

end Sys2Proof.Machine
end

