-- ==== Sys2Proof/Machine/HostAccess.lean ====
section
/-! DEFINITION. Host accesses to registers and to the host window, and the host ports: UDP, ARP, ICMP, SPI, NOTIFY (R8, R9,
R45 to R48, R230, R564, R566, R573 to R578, R584, R587, R619). -/

namespace Sys2Proof.Machine

/-! ### Addresses -/

/-- The index of an address in a row of registers. -/
def indexAt (base stride n a : Nat) : Option Nat :=
  if base ≤ a ∧ (a - base) % stride = 0 ∧ (a - base) / stride < n then some ((a - base) / stride) else none

/-- The host window aperture (R45). -/
def inAperture (a : Nat) : Bool := decide (0x50000000 ≤ a ∧ a < 0x50040000)

/-! ### The host window (R45, R529, R535) -/

/-- A read of a word of the host window: nothing where the word is uncorrectable or the bank is not On. -/
def Dev.windowRead (d : Dev) (env : HostEnv) (o : Nat) : Dev × Option Nat :=
  let b := d.hostWin
  let w := o / 8
  if d.bankPwr b ≠ 0 then (d, none)
  else if d.poisoned b w ∨ env.bad.any (fun x => x.val = w) then (d.uncorrectable 1 14 b w 0, none)
  else (d, some (ofLe (d.sramBytes b o 4)))

/-- A write of a word of the host window: a write of four bytes of a 64-bit word (R529). -/
def Dev.windowWrite (d : Dev) (env : HostEnv) (o v : Nat) : Dev × Bool :=
  let b := d.hostWin
  let w := o / 8
  if d.bankPwr b ≠ 0 then (d, false)
  else
    let d := if d.poisoned b w ∨ env.bad.any (fun x => x.val = w) then d.cleanPartial 14 b w else d
    (d.putSram b o (leBytes 4 v), true)

/-! ### Commands by register -/

/-- Runs an operation where a bit of the written word is 1. -/
def Dev.onBit (d : Dev) (v bit : Nat) (f : Dev → Dev) : Dev := if v.testBit bit then f d else d

/-- The operations of NVM_CMD; other values are refused as out of range (R621, R622). -/
def Dev.nvmCmd (d : Dev) (v : Nat) : Dev :=
  let copy := v / 2 ^ 27 % 2
  match v / 2 ^ 28 % 16 with
  | 1 => nvmErase d
  | 2 => nvmProgram d
  | 3 => nvmRead d
  | 4 => nvmCheck copy d
  | 5 => nvmActivate copy d
  | 6 => nvmRelease d
  | _ => if d.nvm.isSome then d.refuse 1 Reg.NVM_CMD_OP.addr else d.nvmRefuse (if d.mode.nvmRefuses then 1 else 4)

/-- The operations of PGH_OP (R579). -/
def Dev.pghCmd (d : Dev) (agent v : Nat) : Dev :=
  let h := v / 2 ^ 24 % 32
  let arg := v % 65536
  match v / 2 ^ 29 % 8 with
  | 1 => pghPost agent h arg [] 0 0 d
  | 2 => pghTake agent h d
  | 3 => pghAck agent h arg d
  | 4 => pghDone agent h d
  | 5 => pghFlush agent h d
  | _ => d

/-- The operations of VLK_IDCMD (R350). -/
def Dev.idCmd (d : Dev) (v : Nat) : Dev :=
  let i := v / 2 ^ 28 % 4
  match v / 2 ^ 30 % 4 with
  | 1 => vlkIdcmdGenerate i (v / 2 ^ 27 % 2) d
  | 2 => vlkIdcmdInstall i (v % 2 ^ 14) d
  | 3 => vlkIdcmdErase i d
  | _ => d

/-- The operations of FAB_CERTCMD (R503). -/
def Dev.certCmd (d : Dev) (v : Nat) : Dev :=
  match v / 2 ^ 30 % 4 with
  | 1 => fabCertcmdGenerate d
  | 2 => fabCertcmdInstall (v % 2 ^ 13) d
  | 3 => fabCertcmdErase d
  | _ => d

/-- Bits of OUT_CMD in ascending order. -/
def Dev.outCmd (d : Dev) (n v : Nat) : Dev :=
  let d := ((d.onBit v 0 (outCmdEnable n)).onBit v 1 (outCmdDisable n)).onBit v 2 (outCmdStop n)
  ((d.onBit v 3 (outCmdAuthok n)).onBit v 4 (outCmdAuthno n)).onBit v 5 (outCmdDummyrun n)

/-- Clears INK_TIESTUCK bits of ties whose feedback agrees with their command (R110). -/
def Dev.clearTieStuck (d : Dev) (v : Nat) : Dev :=
  forAll 16 d fun d t =>
    if d.bit Reg.INK_TIESTATE_CLOSED t ≠ d.tieCmd.testBit t then d
    else
      let d := if v.testBit t then d.setBit Reg.INK_TIESTUCK_SHUT t false else d
      if v.testBit (16 + t) then d.setBit Reg.INK_TIESTUCK_OPEN t false else d

/-- A register whose write is a command, or whose W1C bits have a condition: the effect of the written word. Where a word sets
several command bits they act in ascending order. -/
def Dev.special (d : Dev) (agent a v : Nat) (env : HostEnv) : Option Dev :=
  if a = Reg.SYS_CMD_WARM.addr then some (d.onBit v 0 sysCmdWarm)
  else if a = Reg.PGH_OP_OP.addr then some (d.pghCmd agent v)
  else if a = Reg.TXN_COMMIT_HANDLE.addr then some (d.commitTxn agent (v % 65536) (v.testBit 31)).1
  else if a = Reg.TXN_ABORT_HANDLE.addr then some (d.closeTxn agent (v % 65536)).1
  else if a = Reg.MEM_ATOMSET_MASK.addr then some (memAtomset v d)
  else if a = Reg.MEM_ATOMCLR_MASK.addr then some (memAtomclr v d)
  else if a = Reg.STR_CMD_CLRCNT.addr then some ((d.onBit v 0 strCmdClrcnt).onBit v 1 strCmdReident)
  else if a = Reg.TUN_CMD_PLUCK.addr then
    some (((((d.onBit v 0 tunCmdPluck).onBit v 1 tunCmdPluckstop).onBit v 2 tunCmdBow).onBit v 3 tunCmdBowstop).onBit v 4 tunCmdCapfree)
  else if a = Reg.VLK_IDCMD_OP.addr then some (d.idCmd v)
  else if a = Reg.TAL_CMD_LATCH.addr then some (d.onBit v 0 talCmdLatch)
  else if a = Reg.TAL_RECACK_SEQ.addr then some (talRecack v d)
  else if a = Reg.SAF_ACK_CODE.addr then some (safAck (v % 65536) d)
  else if a = Reg.SAF_OUTCLR_CODE.addr then some (safOutclr (v / 65536 % 65536) (v % 65536) d)
  else if a = Reg.DUP_CMD_REJOIN.addr then
    some (((d.onBit v 0 dupCmdRejoin).onBit v 1 dupCmdSurrender).onBit v 2 (dupCmdTake env.heard))
  else if a = Reg.FAB_CERTCMD_OP.addr then some (d.certCmd v)
  else if a = Reg.NVM_CMD_OP.addr then some (d.nvmCmd v)
  else if a = Reg.INK_TIESTUCK_SHUT.addr then some (d.clearTieStuck v)
  else if a = Reg.OUT_STRLATCH_LO_LATCH.addr then
    some (forAll 32 d fun d i => d.onBit v i (outStrlatchClear i))
  else if a = Reg.OUT_STRLATCH_HI_LATCH.addr then
    some (forAll 32 d fun d i => d.onBit v i (outStrlatchClear (32 + i)))
  else if a = Reg.AUX_FLT_LO_BITS.addr then
    some (forAll 32 d fun d i => d.onBit v i (auxFaultClear i (env.absent.getLsbD i)))
  else if a = Reg.AUX_FLT_HI_BITS.addr then
    some (forAll 16 d fun d i => d.onBit v i (auxFaultClear (32 + i) (env.absent.getLsbD (32 + i))))
  else match indexAt (Reg.OUT_CMD_ENABLE 0).addr 256 16 a with
  | some n => some (d.outCmd n v)
  | none =>
  match indexAt (Reg.AUX_CHOUT_DUTY 0).addr 4 48 a with
  | some i => some (auxDutyWrite i (v % 2 ^ 14) d)
  | none =>
  match indexAt (Reg.CAN_RXSTAT_POP 0).addr 1024 4 a with
  | some k => some (d.onBit v 31 (canRxstatPop k))
  | none =>
  match indexAt (Reg.CAN_TXCMD_SEND 0).addr 1024 4 a with
  | some k => some (d.onBit v 31 (canTxcmdSend k))
  | none => none

/-- An epoch of a host port changes: the pigeonholes' flags, and the end of the transaction it owns (R568, R577, R581). -/
def Dev.hostEpoch (d : Dev) (p v : Nat) : Dev :=
  if d.epochNow p 0 = v % 65536 then d
  else
    let d := d.setEpoch p 0 v
    match d.txn with
    | some t => if t.agent = p then d.abortTxn 9 else d
    | none => d

/-- A write to a field of no transaction: RW stores, W1C clears, RO and WO ignore it (R10), as does a field that is RO or reserved
for its index (R9). -/
def plainField (a v : Nat) (d : Dev) (f : FieldDesc) : Dev :=
  let x : Fld := { key := 32 * a + f.lo, width := f.width }
  let n := v / 2 ^ f.lo % 2 ^ f.width
  if fixedField a f.lo then d
  else match f.acc with
  | .rw | .rwl => d.set x n
  | .w1c => d.set x (d.get x - (d.get x &&& n))
  | .ro | .wo => d

/-- A directly written value outside its stated range: OUT_DUMMYSP above the outlet's ratings, RSPLEN above 8,192, a Guestbook
index above 32,767. -/
def Dev.plainRange (d : Dev) (a v : Nat) : Bool :=
  match indexAt (Reg.OUT_DUMMYSP_V 0).addr 256 16 a with
  | some n => decide (d.get (Reg.OUT_RATING_VMAX n) < v / 65536 % 65536) || decide (d.get (Reg.OUT_RATING_IMAX n) < v % 65536)
  | none =>
  match indexAt (Reg.VLK_RELAY_RSPLEN 0).addr 256 16 a with
  | some _ => decide (8192 < v % 2 ^ 14)
  | none => decide (a = Reg.EVT_GBSEL_VALUE.addr ∧ 32767 < v)

/-- A write of a register without a command. -/
def Dev.plainWrite (d : Dev) (agent a v : Nat) (fs : List FieldDesc) : Dev :=
  if d.plainRange a v then d.refuse 5 a
  else match indexAt (Reg.PGH_STAGE_DATA 0).addr 4 64 a with
  | some w => if agent < 3 then { d with stage := tput 0 d.stage (64 * agent + w) v } else d
  | none =>
  match indexAt (Reg.HST_EPOCH_EPOCH 0).addr 4 3 a with
  | some p => d.hostEpoch p v
  | none =>
    let d := fs.foldl (plainField a v) d
    if a = Reg.TAL_RECSEL_SEQ.addr then d.refreshRecs else d

/-! ### A write (R8, R564, R566) -/

/-- The outcome of an access: status 0 OK, 1 ACCESS, 2 REFUSED, and the code it left in SYS_REFUSE. A refusal because of the mode
and one outside a transaction are access errors (R448, R564). -/
def statusOf (code : Nat) : Nat := if code = 0 then 0 else if code = 3 ∨ code = 11 then 1 else 2

/-- Runs a register operation and tells the code it refused with. -/
def Dev.coded (d : Dev) (f : Dev → Dev) : Dev × Nat :=
  let was := d.get Reg.SYS_REFUSE_CODE
  let d := f (d.set Reg.SYS_REFUSE_CODE 0)
  let code := d.get Reg.SYS_REFUSE_CODE
  (if code = 0 then d.set Reg.SYS_REFUSE_CODE was else d, code)

/-- A write of transaction fields: to the owner's shadows, or refused with 9 or 11. -/
def Dev.txnWrite (d : Dev) (agent a v : Nat) (fs : List FieldDesc) : Dev :=
  let d := match d.txn with
    | some t => if d.txnExpired t then d.abortTxn 7 else d
    | none => d
  match d.txn with
  | none => d.refuse 11 a
  | some t => if t.agent = agent then d.shadowWrite t a v fs else d.refuse 9 a

/-- A 32-bit write by an agent: status and code. -/
def Dev.writeWord (d : Dev) (agent a v : Nat) (env : HostEnv) : Dev × Nat × Nat :=
  if a % 4 ≠ 0 then (d, 1, 0)
  else if inAperture a then
    let (d, ok) := d.windowWrite env (a - 0x50000000) v
    (d, if ok then 0 else 1, 0)
  else match regAt a with
  | none => (d, 1, 0)
  | some r =>
    let (d, code) := d.coded fun d =>
      let fs := r.fields.filter (txnField a)
      if fs ≠ [] then d.txnWrite agent a v fs
      else match d.special agent a v env with
      | some d => d
      | none => d.plainWrite agent a v r.fields
    (d, statusOf code, code)

/-! ### A read (R8, R45, R48, R230, R566) -/

/-- The high word that a read of a low word latches, by the low word's address: TB_TIME, TB_PERIOD, and the counts of the
scopes. -/
def highOf (a : Nat) : Option Nat :=
  if a = Reg.TB_TIME_LO_TIME.addr ∨ a = Reg.TB_PERIOD_LO_PERIOD_NUM.addr then some (a + 4)
  else if 0x40140400 ≤ a ∧ a < 0x40140400 + 64 * 20 ∧ a % 64 < 0x20 ∧ a % 8 = 0 then some (a + 4)
  else none

/-- A register whose read restarts a peak. -/
def peakReg (a : Nat) : Bool :=
  decide (0x400A1400 ≤ a ∧ a < 0x400A1C00) || decide (0x400A1D00 ≤ a ∧ a < 0x400A1F00) ||
  decide (a = Reg.TUN_STATUS_PATHMAX.addr ∨ a = Reg.PWR_VSUP_MIN.addr ∨ a = Reg.AUX_TOTAL_PEAK.addr)

/-- A read restarts the peak that the register holds (R230): it is seeded with the next value. -/
def Dev.restartPeak (d : Dev) (a : Nat) : Dev :=
  let q := a % 16 / 4
  if 0x400A1400 ≤ a ∧ a < 0x400A1800 then d.modStr ((a - 0x400A1400) / 16) fun x => { x with seeds := withBit x.seeds q true }
  else if 0x400A1800 ≤ a ∧ a < 0x400A1C00 then d.modStr ((a - 0x400A1800) / 16) fun x => { x with seeds := withBit x.seeds (4 + q) true }
  else if 0x400A1D00 ≤ a ∧ a < 0x400A1E00 then
    let n := (a - 0x400A1D00) / 16
    d.setOutTel n { d.outTel n with seeds := withBit (d.outTel n).seeds q true }
  else if 0x400A1E00 ≤ a ∧ a < 0x400A1F00 then
    let n := (a - 0x400A1E00) / 16
    d.setOutTel n { d.outTel n with seeds := withBit (d.outTel n).seeds (4 + q) true }
  else if a = Reg.TUN_STATUS_PATHMAX.addr then d.set Reg.TUN_STATUS_PATHMAX 0
  else if a = Reg.PWR_VSUP_MIN.addr then d.set Reg.PWR_VSUP_MIN 0
  else if a = Reg.AUX_TOTAL_PEAK.addr then d.set Reg.AUX_TOTAL_PEAK 0
  else d

/-- Brings registers that show a selected item up to date before a read: identity pages, the Guestbook entry, the error log, public
keys, the capture bank. -/
def Dev.showSelected (d : Dev) (a : Nat) : Dev :=
  if a = Reg.STR_IDSEL_VALID.addr ∨ a = Reg.STR_IDDATA_DATA.addr then
    let x := d.str (d.get Reg.STR_IDSEL_STRING)
    let p := d.get Reg.STR_IDSEL_PAGE
    let ok := x.identGot.testBit p
    (d.set Reg.STR_IDSEL_VALID (flag ok)).set Reg.STR_IDDATA_DATA (if ok then tget 0 x.pages p else 0)
  else if 0x40010040 ≤ a ∧ a < 0x40010060 then
    let ws := (tget {} d.gb (d.get Reg.EVT_GBSEL_VALUE)).allWords
    forAll 8 d fun d w => d.set (Reg.EVT_GBDATA_DATA w) (ws.getD w 0)
  else if 0x40040028 ≤ a ∧ a < 0x40040038 then d.refreshLog
  else if 0x40040200 ≤ a ∧ a < 0x40040300 then d.showErrors ((a - 0x40040200) / 4)
  else if 0x401E0020 ≤ a ∧ a < 0x401E0040 + 132 then d.showPublic
  else if 0x400C00A0 ≤ a ∧ a < 0x400C00B0 then
    let w := (a - 0x400C00A0) / 4
    d.set (Reg.TUN_CAPDATA_WORD w) (d.capWord w)
  else d

/-- The word an agent reads at a register address: its shadows, its own staging area, results and pending bits. -/
def Dev.viewWord (d : Dev) (agent a : Nat) (fs : List FieldDesc) : Nat :=
  if a = Reg.PGH_PEND_PEND.addr then d.pghPend agent
  else if a = Reg.PGH_RESULT_CODE.addr then tget 0 d.pghResult agent
  else match indexAt (Reg.PGH_STAGE_DATA 0).addr 4 64 a with
  | some w => if agent < 3 then tget 0 d.stage (64 * agent + w) else 0
  | none =>
    fs.foldl (fun acc f =>
      let key := 32 * a + f.lo
      if f.acc = .wo then acc
      else
        let v := match d.shadowRead agent key with
          | some v => v
          | none => match tget none d.running key with
            | some v => if txnField a f then v else tget 0 d.regs key
            | none => tget 0 d.regs key
        acc + v * 2 ^ f.lo) 0

/-- A 32-bit read by an agent: the word, or nothing where the access fails. -/
def Dev.readWord (d : Dev) (agent a : Nat) (env : HostEnv) : Dev × Option Nat :=
  if a % 4 ≠ 0 then (d, none)
  else if inAperture a then d.windowRead env (a - 0x50000000)
  else if a = Reg.TXN_BEGIN_HANDLE.addr then
    let (d, h) := d.openTxn agent
    (d, some h)
  else match regAt a with
  | none => (d, none)
  | some r =>
    match tget none d.hiLatch a with
    | some v => ({ d with hiLatch := tput none d.hiLatch a none }, some v)
    | none =>
      let d := d.showSelected a
      let v := d.viewWord agent a r.fields
      let d := match highOf a with
        | some hi => { d with hiLatch := tput none d.hiLatch hi (some (d.word hi)) }
        | none => d
      let d := if a = Reg.MEM_LOGHEAD_TOTAL.addr then d.modMem fun m => { m with readTotal := v } else d
      (d.restartPeak a, some v)

/-! ### Single accesses -/

/-- A host command: none arrives in Last gasp, which powers the host ports down (R427). -/
def State.host (f : Dev → Dev) (s : State) : Host.Outcome State Fault Refusal :=
  s.main fun d => if d.mode = .lastGasp then d else f d

/-- A host write. `narrow`: an access narrower than 32 bits, which has no effect (R8). -/
def registerWrite (agent a v : Nat) (narrow : Bool) (env : HostEnv) (d : Dev) : Dev :=
  if narrow then d.emit (.answer 1 0 [])
  else
    let (d, st, code) := d.writeWord agent a v env
    d.emit (.answer st code [])

/-- Answers a single read; an access error carries data 0 (R535). -/
def Dev.answerRead (d : Dev) (r : Option Nat) : Dev :=
  match r with
  | some v => d.emit (.answer 0 0 [v])
  | none => d.emit (.answer 1 0 [0])

/-- A read of a peak register (R230); of another register it has no effect here. `narrow`: an access narrower than 32 bits, which
has no effect and fails (R8). -/
def peakRead (agent a : Nat) (narrow : Bool) (d : Dev) : Dev :=
  if narrow then d.answerRead none
  else if peakReg a then
    let (d, r) := d.readWord agent a {}
    d.answerRead r
  else d

/-- A read of the low word of a 64-bit register; of another register it has no effect here. -/
def highWordLatchRead (agent a : Nat) (narrow : Bool) (d : Dev) : Dev :=
  if narrow then d.answerRead none
  else if (highOf a).isSome then
    let (d, r) := d.readWord agent a {}
    d.answerRead r
  else d

/-- A write of 1s to EVT_RAW[k] with the raises that arrive in the same handshake, by bit and detail: clear first, raise second
(R584). -/
def evtRawClear (k mask : Nat) (raised : List (Nat × Nat)) (d : Dev) : Dev :=
  let f := Reg.EVT_RAW_BITS k
  let d := d.set f (d.get f - (d.get f &&& mask))
  (raised.foldl (fun d e => d.raise (32 * k + e.1) e.2) d).emit (.answer 0 0 [])

/-- The waiting entries go to MRAM, every 100 ms from the end of Selftest (R587). -/
def guestbookFlush (d : Dev) : Dev := if d.mode = .boot ∨ d.mode = .selftest then d else d.flushGuestbook

/-! ### The Ethernet ports (R573, R574, R619) -/

/-- The port is enabled and its link is up. -/
def Dev.ethUp (d : Dev) (p : Nat) : Bool :=
  decide (d.get (Reg.HST_PORTCFG_EN p) = 1) && decide (d.get (Reg.HST_STAT_LINK p) = 1)

/-- The link of a port comes up, with its speed (0: 100 Mbit/s, 1: 1,000 Mbit/s), or goes down. -/
def ethernetLinkChange (p : Nat) (up : Bool) (speed : Nat) (d : Dev) : Dev :=
  if d.get (Reg.HST_STAT_LINK p) = flag up ∧ (!up ∨ d.get (Reg.HST_STAT_SPEED p) = speed % 2) then d
  else
    let d := d.set (Reg.HST_STAT_LINK p) (flag up)
    (if up then (d.tbRun 7).set (Reg.HST_STAT_SPEED p) speed else d).raise (108 + p) 0

/-- The MAC address of a port: 0x02, then bits 39:0 of the unique ID with the last bit replaced by p (R573). -/
def Dev.mac (d : Dev) (p : Nat) : List Byte := 0x02#8 :: beBytes 5 (d.uid % 2 ^ 40 / 2 * 2 + p % 2)

/-- A source the port answers: any while every HST_ALLOW entry is 0 (R573). -/
def Dev.allowed (d : Dev) (src : Nat) : Bool :=
  ((List.range 8).all fun i => decide (d.get (Reg.HST_ALLOW_ADDR i) = 0)) ||
  (decide (src ≠ 0) && (List.range 8).any fun i => decide (d.get (Reg.HST_ALLOW_ADDR i) = src))

/-- EV111, at most once per second per port (R588). -/
def Dev.raise111 (d : Dev) (p : Nat) : Dev :=
  match tget none d.lastEv111 p with
  | some t => if d.now < t + 1000000000 then d else { d with lastEv111 := tput none d.lastEv111 p (some d.now) }.raise 111 0
  | none => { d with lastEv111 := tput none d.lastEv111 p (some d.now) }.raise 111 0

/-- Counts a request of a source that HST_ALLOW does not name. -/
def Dev.countDenied (d : Dev) (p : Nat) : Dev := d.addSat (Reg.HST_STAT_DENIED p) 1

/-- An ARP request for an address, from a MAC and an IPv4 address: the port answers for its own. The bytes are the sender and
target pairs of the reply, sent to the request's source MAC. -/
def arpRequest (p : Nat) (srcMac : List Byte) (src target : Nat) (d : Dev) : Dev :=
  let ip := d.get (Reg.HST_IP_ADDR p)
  if !d.ethUp p ∨ target ≠ ip then d
  else if !d.allowed src then d.countDenied p
  else d.emit (.ether p 0 (d.mac p ++ beBytes 4 ip ++ srcMac ++ beBytes 4 src))

/-- An ICMP echo request to an address: the reply goes to the source MAC with the same payload. -/
def icmpEchoRequest (p : Nat) (srcMac : List Byte) (src target : Nat) (payload : List Byte) (d : Dev) : Dev :=
  let ip := d.get (Reg.HST_IP_ADDR p)
  if !d.ethUp p ∨ target ≠ ip then d
  else if !d.allowed src then d.countDenied p
  else d.emit (.ether p 1 (srcMac ++ d.mac p ++ beBytes 4 ip ++ beBytes 4 src ++ payload))

/-! ### The host protocol (R574 to R577) -/

/-- What a request answers. -/
structure UdpReply where
  status : Nat
  count : Nat
  data : List Nat
deriving DecidableEq, Repr

/-- A datagram of the host protocol: the header of R574 and DATA words, every integer little-endian (R15). -/
def udpBytes (op tag count addr status epoch : Nat) (data : List Nat) : List Byte :=
  leBytes 2 0x4658 ++ leBytes 1 1 ++ leBytes 1 op ++ leBytes 2 tag ++ leBytes 2 count ++ leBytes 4 addr ++ leBytes 2 status ++
    leBytes 2 epoch ++ data.flatMap (leBytes 4)

/-- The reply to a request: OP + 0x80, its TAG, and the host's epoch on the port. -/
def Dev.replyBytes (d : Dev) (p op tag : Nat) (r : UdpReply) : List Byte :=
  udpBytes (op + 0x80) tag r.count (Config.replyAddr op tag) r.status (d.get (Reg.HST_EPOCH_EPOCH p)) r.data

/-- Sends a reply. -/
def Dev.reply (d : Dev) (p op tag : Nat) (r : UdpReply) : Dev := d.emit (.udp p (d.replyBytes p op tag r))

/-- Keeps a reply among the port's last 16 (R576). -/
def Dev.keep (d : Dev) (p op : Nat) (h : UdpHead) (r : UdpReply) : Dev :=
  let x : KeptReply := { port := p, src := h.src.toNat, udp := h.udp.toNat, tag := h.tag.toNat, time := d.now,
                         bytes := d.replyBytes p op h.tag.toNat r }
  let mine := (d.kept.filter fun k => decide (k.port = p)) ++ [x]
  { d with kept := (d.kept.filter fun k => decide (k.port ≠ p)) ++ mine.drop (mine.length - 16) }

/-- The kept reply that a request repeats, while it is less than 1 s old (R576). -/
def Dev.keptFor (d : Dev) (p : Nat) (h : UdpHead) : Option KeptReply :=
  d.kept.find? fun k => decide (k.port = p ∧ k.src = h.src.toNat ∧ k.udp = h.udp.toNat ∧ k.tag = h.tag.toNat ∧ d.now < k.time + 1000000000)

/-- A FORMAT reply: counted, and EV111. -/
def Dev.formatReply (d : Dev) (p : Nat) : Dev × UdpReply :=
  ((d.addSat (Reg.HST_STAT_FORMAT p) 1).raise111 p, { status := 3, count := 0, data := [] })

/-- A request with a well-formed header: source, kept reply, OVERLOAD, `bad` form, epoch, then its action. -/
def Dev.request (d : Dev) (p op : Nat) (h : UdpHead) (bad : Bool) (run : Dev → Dev × UdpReply) : Dev :=
  let tag := h.tag.toNat
  if !d.ethUp p then d
  else if !d.allowed h.src.toNat then ((d.countDenied p).raise111 p).reply p op tag { status := 4, count := 0, data := [] }
  else match d.keptFor p h with
  | some k => d.emit (.udp p k.bytes)
  | none =>
    if 8 < h.busy then d.reply p op tag { status := 5, count := 0, data := [] }
    else
      let (d, r) := if bad then d.formatReply p else run (d.hostEpoch p h.epoch.toNat)
      (d.keep p op h r).reply p op tag r

/-- Reads words until one fails. -/
def Dev.readWords (env : HostEnv) (agent : Nat) : Nat → Nat → Dev → List Nat → Dev × UdpReply
  | 0, _, d, got => (d, { status := 0, count := got.length, data := got })
  | n + 1, a, d, got =>
    match d.readWord agent a env with
    | (d, some v) => Dev.readWords env agent n (a + 4) d (got ++ [v])
    | (d, none) => (d, { status := 1, count := got.length, data := got })

/-- Writes words until one fails; the code of a refusal is data word 0. -/
def Dev.writeWords (env : HostEnv) (agent : Nat) : List Nat → Nat → Dev → Nat → Dev × UdpReply
  | [], _, d, n => (d, { status := 0, count := n, data := [] })
  | v :: rest, a, d, n =>
    match d.writeWord agent a v env with
    | (d, 0, _) => Dev.writeWords env agent rest (a + 4) d (n + 1)
    | (d, st, code) => (d, { status := st, count := n, data := if st = 2 then [code] else [] })

/-- OP 0x01. -/
def hostRead (p : Nat) (h : UdpHead) (count addr : Nat) (env : HostEnv) (d : Dev) : Dev :=
  d.request p 1 h (decide (count = 0 ∨ 256 < count ∨ (addr = Reg.TXN_BEGIN_HANDLE.addr ∧ 1 < count))) fun d =>
    Dev.readWords env p count addr d []

/-- The DATA words of a datagram (R15). -/
def dataWords (bytes : List Byte) : List Nat := (List.range (bytes.length / 4)).map fun w => ofLe ((bytes.drop (4 * w)).take 4)

/-- OP 0x02. -/
def hostWrite (p : Nat) (h : UdpHead) (count addr : Nat) (bytes : List Byte) (env : HostEnv) (d : Dev) : Dev :=
  d.request p 2 h (decide (count = 0 ∨ 256 < count ∨ bytes.length ≠ 4 * count)) fun d =>
    Dev.writeWords env p (dataWords bytes) addr d 0

/-- Puts bytes into a port's staging area. -/
def Dev.stageBytes (d : Dev) (p : Nat) (bytes : List Byte) : Dev :=
  forAll ((min bytes.length 256 + 3) / 4) d fun d w => { d with stage := tput 0 d.stage (64 * p + w) (ofLe ((bytes.drop (4 * w)).take 4)) }

/-- OP 0x03: the reply is PGH_RESULT. A number that names no pigeonhole is an access error. -/
def hostPost (p : Nat) (h : UdpHead) (hole : Nat) (bytes : List Byte) (d : Dev) : Dev :=
  d.request p 3 h (decide (1024 < bytes.length)) fun d =>
    if 32 ≤ hole then (d, { status := 1, count := 0, data := [] })
    else
      let d := pghPost p hole bytes.length [] 0 0 (d.stageBytes p bytes)
      (d, { status := 0, count := 1, data := [tget 0 d.pghResult p] })

/-- OP 0x04: PGH_STAT, PGH_EPOCH, PGH_ACKCODE, and the words of the payload. -/
def hostPghget (p : Nat) (h : UdpHead) (hole : Nat) (d : Dev) : Dev :=
  d.request p 4 h false fun d =>
    if 32 ≤ hole then (d, { status := 1, count := 0, data := [] })
    else
      let n := (d.get (Reg.PGH_STAT_LEN hole) + 3) / 4
      let ws := [d.word (Reg.PGH_STAT_LEN hole).addr, d.word (Reg.PGH_EPOCH_RCV hole).addr, d.word (Reg.PGH_ACKCODE_CODE hole).addr] ++
        (List.range n).map fun w => d.get (Reg.PGH_DATA_DATA hole w)
      (d, { status := 0, count := ws.length, data := ws })

/-- OP 0x05, which the device sends when a source routed to a line was raised, at most every 10 ms (R574). -/
def hostNotify (p : Nat) (d : Dev) : Dev :=
  let early : Bool := match tget none d.lastNotify p with
    | some t => decide (d.now < t + 10000000)
    | none => false
  if !d.ethUp p ∨ d.get (Reg.HST_NOTIFY_ADDR p) = 0 ∨ !d.notifyDue.testBit p ∨ early then d
  else
    { d with notifyDue := withBit d.notifyDue p false, lastNotify := tput none d.lastNotify p (some d.now) }.emit
      (.udp p (udpBytes 5 (Config.notifyField 0) (Config.notifyField 1) (Config.notifyField 2) (Config.notifyField 3)
        (d.get (Reg.HST_EPOCH_EPOCH p)) ((List.range 4).map fun k => d.get (Reg.EVT_RAW_BITS k))))

/-- A datagram from a source that HST_ALLOW does not name, or with a wrong MAGIC, VERSION or OP: DENIED, or FORMAT. A request of
well-formed header from a permitted source is no case of this. -/
def hostRequestDenied (p : Nat) (h : UdpHead) (magic version op : Nat) (d : Dev) : Dev :=
  let wrong := decide (magic ≠ 0x4658 ∨ version ≠ 1 ∨ op = 0 ∨ 4 < op)
  if d.allowed h.src.toNat ∧ !wrong then d else d.request p (op % 128) h wrong fun d => (d, { status := 0, count := 0, data := [] })

/-! ### The SPI port (R578) -/

/-- The SPI port is enabled; before an image is loaded it is the port through which one is written. -/
def Dev.spiOn (d : Dev) : Bool := decide (d.get (Reg.HST_PORTCFG_EN 2) = 1) || !d.tab.loaded

/-- An SPI transfer that ends inside a word: that last word is an access narrower than 32 bits, which fails (R8, R578); EV110. -/
def Dev.spiCut (d : Dev) : Dev := { d with spiFail := true }.raise 110 0

/-- Command 0x02: every word is one access. `whole`: the transfer ends on a word boundary. -/
def spiWrite (addr : Nat) (words : List Nat) (whole : Bool) (env : HostEnv) (d : Dev) : Dev :=
  if !d.spiOn then d
  else
    let x : Dev × Nat := words.foldl (fun (x : Dev × Nat) v =>
      let (d, st, _) := x.1.writeWord 2 x.2 v env
      ({ d with spiFail := decide (st ≠ 0) }, x.2 + 4)) (d, addr)
    if whole then x.1 else x.1.spiCut

/-- Command 0x0B. What a failed word shifts out is open, but for an uncorrectable word of the window, which reads 0 (R535). -/
def spiRead (addr count : Nat) (whole : Bool) (env : HostEnv) (d : Dev) : Dev :=
  if !d.spiOn then d
  else
    let x : Dev × List Nat := (List.range count).foldl (fun (x : Dev × List Nat) i =>
      let a := addr + 4 * i
      match x.1.readWord 2 a env with
      | (d, some v) => ({ d with spiFail := false }, x.2 ++ [v])
      | (d, none) =>
        let d := { d with spiFail := true }
        if inAperture a then (d, x.2 ++ [0])
        else
          let (k, d) := d.free
          (d, x.2 ++ [Config.freeNat k % 2 ^ 32])) (d, [])
    let d := x.1.emit (.spi x.2)
    if whole then d else d.spiCut

/-- Command 0x05: bit 0 is set when the last word failed. -/
def spiStatus (d : Dev) : Dev := if d.spiOn then d.emit (.spi [flag d.spiFail]) else d

end Sys2Proof.Machine
end

