-- ==== Sys2Proof/Machine/Period.lean ====
section
/-! DEFINITION. The two boundaries that the timebase brings: the control period and the allocation round (R39, R41 to R43, R49 to
R51, R55, R88, R113, R117, R143, R159, R161, R442, R653). -/

namespace Sys2Proof.Machine

/-! ### Time -/

/-- Device time on TB0 and fabric time, in ns, and corrected TB9 cycles pass; the ages that follow them. -/
def Dev.passTime (d : Dev) (ns fabric ticks : Nat) : Dev :=
  let d := { d with now := d.now + ns }.set64 Reg.TB_TIME_LO_TIME Reg.TB_TIME_HI_TIME (d.time + fabric)
  let t := d.get Reg.TB_RTC_FRAC_TICKS + ticks
  let d := (d.set Reg.TB_RTC_FRAC_TICKS t).set Reg.TB_RTC_SEC_SEC (d.rtc + t / 32768)
  let d := match d.dup.leaseAt with
    | some t => d.setSat Reg.DUP_LEASE_AGE ((d.now - t) / 1000)
    | none => d
  (d.agePurse).tickCounters ns

/-! ### Strings and outlets at a boundary -/

/-- The sync mark of each string's frame opens the period: what it sent is what its up frame must echo (R215). -/
def Dev.openStrings (d : Dev) : Dev :=
  forAll 64 d fun d s =>
    d.modStr s fun x => { x with
      opened := x.inflight, inflight := 0, fresh := false, heard := false, expect := if d.present s then x.seq else 0 }

/-- The outlets' transitions take effect (R278), with a checkpoint of each session whose state changes (R35, R477); frames that wait
contend for their PLC links (R327). -/
def Dev.settleOutlets (d : Dev) : Dev :=
  forAll 16 d fun d n =>
    let was := d.sess n
    let d := (d.settleOutlet n).macAccess n
    if d.sess n ≠ was then d.checkpoint n else d

/-- Strings that became faulted or latched leave their arcs (R143); the state of a thermally latched one reads so (R373). -/
def Dev.dropStrings (d : Dev) : Dev :=
  (forAll 64 d fun d s =>
    let d := if d.strFrozen s ∧ 1 ≤ d.inkState s ∧ d.inkState s ≤ 3 then
        (d.set (Reg.INK_STRING_STATE s) 7).modStr s fun x => { x with staged := none }
      else d
    if 4 ≤ d.inkState s ∧ d.inkState s ≠ 6 then d.setWeight s 0 else d).countHealthy

/-- Weights and phases at a boundary: an aborted shed (R159, R162), an inked one (R158), a rejoin (R161), strings removed (R143), a
ramp (R653), an open shed window (R158). -/
def Dev.settleWeights (d : Dev) : Dev :=
  forAll 16 d fun d n =>
    let d := if d.shedAbort.testBit n then { d with shedAbort := withBit d.shedAbort n false }.abortShed n else d
    let d := d.inkShed n
    let d := if d.rejoin.testBit n then { d with rejoin := withBit d.rejoin n false }.rejoinShed n else d
    let d := if d.arcDirty.testBit n then { d with arcDirty := withBit d.arcDirty n false }.reshareArc n else d
    (d.rampStep n).shedStep n

/-- Idle and Serve (R55). -/
def Dev.settleServe (d : Dev) : Dev :=
  if d.mode = .idle ∨ d.mode = .serve then d.enterMode d.servingMode else d

/-- Triggers that coincide at a boundary, below Safe hold: Island, then Standby for a module that hands its key over, or that a
higher mode kept from Standby until now, then Idle or Serve (R55, R57, R66). -/
def Dev.settleModes (d : Dev) : Dev :=
  let d := (d.settleIsland).handOver
  if d.lodger ∧ (d.mode = .idle ∨ d.mode = .serve) then (d.toFirst .standby).settleCan else d.settleServe

/-- A keyholder that has stopped renewing stops driving its `DN` pairs (R481). -/
def Dev.dropDn (d : Dev) : Dev :=
  if d.keyholder ∧ d.dup.lostAt.isSome then d.modDup fun x => { x with dnOff := true } else d

/-- The period check of R39 waits until the main logic drives the cell link again (R39, R661). -/
def Dev.endExempt (d : Dev) : Dev :=
  if d.drives ∧ (d.mode.drivesLink ∨ d.mode.blockOnly) then d.modSaf fun x => { x with exempt := false } else d

/-- The safety island at a boundary: its cross-check, an accepted acknowledge, Safe hold, and the triggers of the next period
(R39, R57, R58, R88, R442, R450). -/
def Dev.settleIslandPeriod (d : Dev) (mismatch : Nat) : Dev :=
  let d := (((d.crossCheck mismatch).ackBoundary).enterSafeHold).modSaf fun x => { x with trig := 0 }
  forAll 16 d fun d n => (d.endHold n).showLock n

/-- The sync mark of TB2 opens a control period (R51). `opened`: the main logic advanced the period number; `ns`, `fabric`: time
passed on TB0 and as fabric time, slewed by at most R510; `ticks`: corrected TB9 cycles; `mismatch`: outlets whose
safety-function state differs from the island's. Where the period number does not advance, the island's check fails (R39) and the
island acts alone (R58). -/
def periodBoundary (opened : Bool) (ns fabric ticks mismatch : Nat) (d : Dev) : Dev :=
  let d := d.passTime ns fabric ticks
  if !opened then (if d.saf.exempt then d else d.demand 5).settleIslandPeriod mismatch
  else if d.mode = .lastGasp then d
  else
    let d := ((d.tbRun 1).tbRun 2).set64 Reg.TB_PERIOD_LO_PERIOD_NUM Reg.TB_PERIOD_HI_PERIOD_NUM (d.period + 1)
    let d := (((d.openStrings).hostActs).dropDn).settleOutlets
    let d := ((d.dropStrings.settleWeights).applyDuties).thermalSps
    let d := ((d.settleIslandPeriod mismatch).endExempt).settleModes
    let d := d.settleEligible
    let d := if d.keyholder then d.emit (.twin 1 [34, d.period, d.get Reg.AUX_GPIOIN_LEVEL]) else d
    if d.get Reg.TB_TB2CFG_SYNCOUT_EN = 1 then d.emit .syncOut else d

/-! ### The round -/

/-- An outlet's pencil triggers as they are forwarded: of each kind an entry that clears it, then outlet, kind, start, amount and
base of each trigger (R147, R477). -/
def Dev.triggerBody (d : Dev) (n : Nat) : List Nat :=
  let x := d.out n
  let say := fun (kind : Nat) (ts : List Trigger) =>
    [n, kind + 4, 0, 0, 0] ++ ts.flatMap fun t => [n, kind, t.at_, t.amount, ofSigned 64 t.base]
  say 1 x.plugin.toList ++ say 2 x.schedule ++ say 3 x.depart.toList

/-- What a keyholder forwards with a round: its number, the station share in W, whether it is in Island, fabric time, and the pencil
triggers (R477). -/
def Dev.forwardRound (d : Dev) : Dev :=
  if d.keyholder then
    d.emit (.twin 1 ([32, d.period, d.round, d.purse.share, flag (decide (d.mode = .island)), d.time] ++
      (List.range 16).flatMap d.triggerBody))
  else d

/-- A round boundary (R113): commits due take effect first (R117), then the fabric's conditions, then the snapshot and the round's
result; requested tests and persists start. -/
def roundBoundary (d : Dev) : Dev :=
  let d := { d with round := d.time / max 1 d.roundNs }.applyDue
  let d := d.fabricRound
  let d := if d.mode.innkeeps then d.runRound else d.set Reg.INK_STATUS_RUN 0
  ((((d.startPluck).startBow).startPersist).rejoinRound).forwardRound

end Sys2Proof.Machine
end

