-- ==== Sys2Proof/Machine/Commands.lean ====
section
/-! DEFINITION. What the commands' meanings share: where a command acts, and the words by which a keyholder forwards an input. -/

namespace Sys2Proof.Machine

/-- A register command of a host or a steward, and its answer (R8, R535, R566). -/
def State.command (f : Dev → Dev) (s : State) : Host.Outcome State Fault Refusal :=
  s.host fun d =>
    let (d, code) := d.coded f
    d.emit (.answer (statusOf code) code [])

/-- A change of VSUP, in mV: beyond the absolute maximum ratings the spec gives no behaviour (R589, R633). -/
def State.supplied (mv : Int) (f : Dev → Dev) (s : State) : Host.Outcome State Fault Refusal :=
  if beyondAbsMax mv then .fault .absMaxExceeded else s.hard f

/-- The end of Boot: vendor test "lies outside this manual" (R96). -/
def State.booted (f : Dev → Dev) (s : State) : Host.Outcome State Fault Refusal :=
  if s.dev.mode = .boot ∧ s.dev.vendorTest ∧ !s.dev.resetLow then .refused .vendorTest else s.main f

/-- A message of the vehicle's session, as an input: the steward's response from parameter discovery to the pause carries the values of
R303 (R345), and the steward checkpoints the session (R35). -/
def State.message (kind : Nat) (body : List Nat) (n : Nat) (f : Dev → Dev) (s : State) : Host.Outcome State Fault Refusal :=
  s.input kind body fun d => ((f d).respond n).checkpoint n

/-- A message that the device sends, after which the steward checkpoints the session (R35). -/
def State.sends (n : Nat) (f : Dev → Dev) (s : State) : Host.Outcome State Fault Refusal := s.main fun d => (f d).checkpoint n

/-- A signed number as a forwarded word. -/
def wireInt (x : Int) : Nat := (x % 4294967296).toNat

/-- A CAN frame as forwarded words. -/
def wireCan (f : CanFrame) : List Nat :=
  [f.id, flag f.ide, flag f.fdf, flag f.brs, flag f.esi, flag f.rtr, f.dlc, f.stamp] ++ f.data.map (·.toNat)

/-- A cipher suite and a curve as forwarded words. -/
def wireSuite : TlsSuite → Nat
  | .iso2 => 0
  | .aes256GcmSha384 => 1
  | .other => 2
def wireCurve : TlsCurve → Nat
  | .p256 => 0
  | .secp521r1 => 1
  | .ed448 => 2
  | .other => 3

/-- A session protocol message as forwarded words. -/
def wireV2g : V2g → List Nat
  | .tls h => [0, flag h.v13, wireSuite h.suite, wireCurve h.curve, flag h.ok, h.alert.toNat]
  | .profile entries => 1 :: entries.flatMap fun e => [e.1, e.2]
  | .departure dynamic sec wh => [2, flag dynamic, sec.toNat, wh.toNat]
  | .weldingDetection => [6]
  | .certificate update request => [3, flag update] ++ request.map (·.toNat)
  | .unsupported service => [4, service]
  | .other => [5]

/-- An outlet sense snapshot as forwarded words. -/
def wireSense (xs : List (Int × Int × Int)) : List Nat :=
  xs.flatMap fun x => [wireInt x.1, wireInt x.2.1, wireInt x.2.2]

end Sys2Proof.Machine
end

