-- ==== Sys2Proof/Machine/CommandsConfig.lean ====
section
/-! DEFINITION. The commands' meanings: Transactions, pigeonholes, events, flash. -/

namespace Sys2Proof.Machine

/-- TXN_BEGIN (R565). -/
def execTxnBegin (agent : Fin 11) (s : State) : Host.Outcome State Fault Refusal :=
  s.host <| txnBegin agent.val

/-- TXN_COMMIT (R567). -/
def execTxnCommit (agent : Fin 11) (handle : BitVec 16) (persist : Bool) (s : State) : Host.Outcome State Fault Refusal :=
  s.host <| txnCommit agent.val handle.toNat persist

/-- TXN_ABORT (R568). -/
def execTxnAbort (agent : Fin 11) (handle : BitVec 16) (s : State) : Host.Outcome State Fault Refusal :=
  s.host <| txnAbort agent.val handle.toNat

/-- TXN_TIMEOUT_EXPIRY (R568). -/
def execTxnTimeoutExpiry (s : State) : Host.Outcome State Fault Refusal :=
  s.main <| txnTimeoutExpiry

/-- PERSIST_WRITE_COMPLETE (R569). -/
def execPersistWriteComplete (ok : Bool) (s : State) : Host.Outcome State Fault Refusal :=
  s.main <| persistWriteComplete ok

/-- TXN_PREPARE_RECEIVED (R571). -/
def execTxnPrepareReceived (station : BitVec 8) (handle : BitVec 16) (writes : List (Nat × Nat))
    (s : State) : Host.Outcome State Fault Refusal :=
  s.main <| txnPrepareReceived station.toNat handle.toNat writes

/-- TXN_PREPARE_REPLY (R571). -/
def execTxnPrepareReply (station : BitVec 8) (code : BitVec 4) (s : State) : Host.Outcome State Fault Refusal :=
  s.main <| txnPrepareReply station.toNat code.toNat

/-- TXN_PREPARE_TIMEOUT (R571). -/
def execTxnPrepareTimeout (s : State) : Host.Outcome State Fault Refusal :=
  s.main <| txnPrepareTimeout

/-- TXN_FABRIC_COMMIT (R571). -/
def execTxnFabricCommit (station : BitVec 8) (round : Nat) (s : State) : Host.Outcome State Fault Refusal :=
  s.main <| txnFabricCommit station.toNat round

/-- TXN_FABRIC_ABORT (R571). -/
def execTxnFabricAbort (station : BitVec 8) (s : State) : Host.Outcome State Fault Refusal :=
  s.main <| txnFabricAbort station.toNat

/-- TXN_PREPARE_HOLD_EXPIRY (R571). -/
def execTxnPrepareHoldExpiry (s : State) : Host.Outcome State Fault Refusal :=
  s.main <| txnPrepareHoldExpiry

/-- PGH_POST (R579). -/
def execPghPost (agent : Fin 13) (h : Fin 32) (len : BitVec 16) (payload : List Byte) (addr : Fin 32) (epoch : BitVec 16)
    (s : State) : Host.Outcome State Fault Refusal :=
  s.main <| pghPost agent.val h.val len.toNat payload addr.val epoch.toNat

/-- PGH_TAKE (R579). -/
def execPghTake (agent : Fin 13) (h : Fin 32) (s : State) : Host.Outcome State Fault Refusal :=
  s.main <| pghTake agent.val h.val

/-- PGH_ACK (R579). -/
def execPghAck (agent : Fin 13) (h : Fin 32) (code : BitVec 16) (s : State) : Host.Outcome State Fault Refusal :=
  s.main <| pghAck agent.val h.val code.toNat

/-- PGH_DONE (R579). -/
def execPghDone (agent : Fin 13) (h : Fin 32) (s : State) : Host.Outcome State Fault Refusal :=
  s.main <| pghDone agent.val h.val

/-- PGH_FLUSH (R579). -/
def execPghFlush (agent : Fin 13) (h : Fin 32) (s : State) : Host.Outcome State Fault Refusal :=
  s.main <| pghFlush agent.val h.val

/-- EVT_RAW_CLEAR (R584). -/
def execEvtRawClear (k : Fin 4) (mask : BitVec 32) (raised : List (Fin 32 × BitVec 8))
    (s : State) : Host.Outcome State Fault Refusal :=
  s.host <| evtRawClear k.val mask.toNat (raised.map fun e => (e.1.val, e.2.toNat))

/-- GUESTBOOK_FLUSH (R587). -/
def execGuestbookFlush (s : State) : Host.Outcome State Fault Refusal :=
  s.main <| guestbookFlush

/-- NVM_ERASE (R621). -/
def execNvmErase (s : State) : Host.Outcome State Fault Refusal :=
  s.command <| nvmErase

/-- NVM_PROGRAM (R621). -/
def execNvmProgram (s : State) : Host.Outcome State Fault Refusal :=
  s.command <| nvmProgram

/-- NVM_READ (R621). -/
def execNvmRead (s : State) : Host.Outcome State Fault Refusal :=
  s.command <| nvmRead

/-- NVM_CHECK (R621). -/
def execNvmCheck (copy : Fin 2) (s : State) : Host.Outcome State Fault Refusal :=
  s.command <| nvmCheck copy.val

/-- NVM_ACTIVATE (R621). -/
def execNvmActivate (copy : Fin 2) (s : State) : Host.Outcome State Fault Refusal :=
  s.command <| nvmActivate copy.val

/-- NVM_RELEASE (R623). -/
def execNvmRelease (s : State) : Host.Outcome State Fault Refusal :=
  s.command <| nvmRelease

/-- NVM_OP_COMPLETE (R621). -/
def execNvmOpComplete (ok : Bool) (s : State) : Host.Outcome State Fault Refusal :=
  s.main <| nvmOpComplete ok

end Sys2Proof.Machine
end

