-- ==== Sys2Proof/Machine/CommandsDuplex.lean ====
section
/-! DEFINITION. The commands' meanings: The duplex pair. -/

namespace Sys2Proof.Machine

/-- FORWARDED_INPUTS (R477). -/
def execForwardedInputs (period : Nat) (inputs : List Fwd) (sense : List (Int × Int × Int)) (poison : List (Fin 128))
    (late : List (Fin 64)) (s : State) : Host.Outcome State Fault Refusal :=
  s.main <| forwardedInputs period inputs sense (poison.map (·.val)) (late.map (·.val))

/-- FORWARDED_INPUTS_MISSING (R480). -/
def execForwardedInputsMissing (s : State) : Host.Outcome State Fault Refusal :=
  s.main <| forwardedInputsMissing

/-- PLAUSIBILITY_DISAGREEMENT (R479). -/
def execPlausibilityDisagreement (j : Fin 8) (s : State) : Host.Outcome State Fault Refusal :=
  s.main <| plausibilityDisagreement j.val

/-- DOWN_FRAME_COMPARE (R488). -/
def execDownFrameCompare (period : Nat) (heard : List (Fin 64 × Option (BitVec 68))) (touched : BitVec 16)
    (s : State) : Host.Outcome State Fault Refusal :=
  s.main <| downFrameCompare period (heard.map fun h => (h.1.val, h.2.map (·.toNat))) touched.toNat

/-- DISPUTE (R490). -/
def execDispute (p : Nat) (pass : Bool) (digest : BitVec 64) (s : State) : Host.Outcome State Fault Refusal :=
  s.main <| dispute p pass digest.toNat

/-- DISPUTE_VERDICT (R490). -/
def execDisputeVerdict (pass : Bool) (digest : BitVec 64) (s : State) : Host.Outcome State Fault Refusal :=
  s.main <| disputeVerdict pass digest.toNat

/-- LEASE_RENEWAL (R481). -/
def execLeaseRenewal (s : State) : Host.Outcome State Fault Refusal :=
  s.main <| leaseRenewal

/-- LEASE_RECEIVED (R482). -/
def execLeaseReceived (pin : Bool) (uid : BitVec 64) (station : BitVec 8) (s : State) : Host.Outcome State Fault Refusal :=
  s.main <| leaseReceived pin uid.toNat station.toNat

/-- LEASE_EXPIRY (R482). -/
def execLeaseExpiry (s : State) : Host.Outcome State Fault Refusal :=
  s.main <| leaseExpiry

/-- KEYHOLDER_SELF_RELEASE (R483). -/
def execKeyholderSelfRelease (s : State) : Host.Outcome State Fault Refusal :=
  s.island <| keyholderSelfRelease

/-- KEY_TAKE (R484). -/
def execKeyTake (heard : Bool) (wires : BitVec 32) (gap : Nat) (s : State) : Host.Outcome State Fault Refusal :=
  s.main <| keyTake heard wires.toNat gap

/-- STARTUP_KEY_WAIT (R486). -/
def execStartupKeyWait (heard : Bool) (s : State) : Host.Outcome State Fault Refusal :=
  s.main <| startupKeyWait heard

/-- DUP_CMD_TAKE (R485). -/
def execDupCmdTake (heard : Bool) (s : State) : Host.Outcome State Fault Refusal :=
  s.command <| dupCmdTake heard

/-- DUP_CMD_SURRENDER (R487). -/
def execDupCmdSurrender (s : State) : Host.Outcome State Fault Refusal :=
  s.command <| dupCmdSurrender

/-- DUP_CMD_REJOIN (R495). -/
def execDupCmdRejoin (s : State) : Host.Outcome State Fault Refusal :=
  s.command <| dupCmdRejoin

/-- REJOIN_COMPLETE (R495). -/
def execRejoinComplete (digestEqual : Bool) (levelEqual : Bool) (s : State) : Host.Outcome State Fault Refusal :=
  s.main <| rejoinComplete digestEqual levelEqual

/-- HEALTH_SCORE (R493). -/
def execHealthScore (fails : BitVec 5) (s : State) : Host.Outcome State Fault Refusal :=
  s.main <| healthScore fails.toNat

/-- HEALTH_RECEIVED (R493). -/
def execHealthReceived (score : PartnerHealth) (eligible : Bool) (synced : Bool) (s : State) : Host.Outcome State Fault Refusal :=
  s.main <| healthReceived score eligible synced

/-- REDUCED_AVAILABILITY (R494). -/
def execReducedAvailability (absent : Bool) (s : State) : Host.Outcome State Fault Refusal :=
  s.main <| reducedAvailability absent

/-- SHARED_CHANNELS_OFF (R474). -/
def execSharedChannelsOff (s : State) : Host.Outcome State Fault Refusal :=
  s.main <| sharedChannelsOff

end Sys2Proof.Machine
end

