-- ==== Sys2Proof/Machine/CommandsFabric.lean ====
section
/-! DEFINITION. The commands' meanings: The caravan fabric. -/

namespace Sys2Proof.Machine

/-- HAIL (R501). -/
def execHail (p : Fin 6) (s : State) : Host.Outcome State Fault Refusal :=
  s.main <| hail p.val

/-- HAIL_RECEIVED (R501). -/
def execHailReceived (p : Fin 6) (h : Hail) (s : State) : Host.Outcome State Fault Refusal :=
  s.main <| hailReceived p.val h

/-- AUTH_FRAME (R502). -/
def execAuthFrame (p : Fin 6) (chain : List Byte) (key : List Byte) (digest : List Byte) (sig : List Byte) (enc : Bool)
    (s : State) : Host.Outcome State Fault Refusal :=
  s.main <| authFrame p.val chain key digest sig enc

/-- LINK_REKEY (R502). -/
def execLinkRekey (p : Fin 6) (s : State) : Host.Outcome State Fault Refusal :=
  s.main <| linkRekey p.val

/-- LANE_LOSS (R497). -/
def execLaneLoss (p : Fin 6) (lane : Fin 2) (s : State) : Host.Outcome State Fault Refusal :=
  s.main <| laneLoss p.val lane.val

/-- LANE_BLOCK_LOCK (R497). -/
def execLaneBlockLock (p : Fin 6) (lane : Fin 2) (s : State) : Host.Outcome State Fault Refusal :=
  s.main <| laneBlockLock p.val lane.val

/-- FABRIC_FRAME_RECEIVED (R500). -/
def execFabricFrameReceived (p : Fin 6) (f : FabFrame) (check : List Byte) (s : State) : Host.Outcome State Fault Refusal :=
  s.main <| fabricFrameReceived p.val f check

/-- FABRIC_ACK_TIMEOUT (R500). -/
def execFabricAckTimeout (p : Fin 6) (tries : Nat) (f : FabFrame) (s : State) : Host.Outcome State Fault Refusal :=
  s.main <| fabricAckTimeout p.val tries f

/-- LSA (R507). -/
def execLsa (received : Option (Fin 32 × BitVec 16 × List (Fin 32))) (s : State) : Host.Outcome State Fault Refusal :=
  s.main <| lsa (received.map fun x => (x.1.val, x.2.1.toNat, x.2.2.map (·.val)))

/-- TIME_EXCHANGE (R509). -/
def execTimeExchange (p : Fin 6) (t1 : Int) (t2 : Int) (t3 : Int) (t4 : Int) (synced : Bool) (inIsland : Bool)
    (s : State) : Host.Outcome State Fault Refusal :=
  s.main <| timeExchange p.val t1 t2 t3 t4 synced inIsland

/-- TIME_STEP (R510). -/
def execTimeStep (s : State) : Host.Outcome State Fault Refusal :=
  s.main <| timeStep

/-- TIME_ERROR_ISLAND (R511). -/
def execTimeErrorIsland (s : State) : Host.Outcome State Fault Refusal :=
  s.main <| timeErrorIsland

/-- TIME_SOURCE_CHANGE (R508). -/
def execTimeSourceChange (s : State) : Host.Outcome State Fault Refusal :=
  s.main <| timeSourceChange

/-- POST_RECEIVED (R514). -/
def execPostReceived (q : Post) (s : State) : Host.Outcome State Fault Refusal :=
  s.main <| postReceived q

/-- NOTIFY_RECEIVED (R586). -/
def execNotifyReceived (src : Fin 32) (event : Fin 128) (s : State) : Host.Outcome State Fault Refusal :=
  s.main <| notifyReceived src.val event.val

/-- FAB_CERTCMD_GENERATE (R503). -/
def execFabCertcmdGenerate (s : State) : Host.Outcome State Fault Refusal :=
  s.command <| fabCertcmdGenerate

/-- FAB_CERTCMD_INSTALL (R503). -/
def execFabCertcmdInstall (len : BitVec 13) (s : State) : Host.Outcome State Fault Refusal :=
  s.command <| fabCertcmdInstall len.toNat

/-- FAB_CERTCMD_ERASE (R503). -/
def execFabCertcmdErase (s : State) : Host.Outcome State Fault Refusal :=
  s.command <| fabCertcmdErase

end Sys2Proof.Machine
end

