-- ==== Sys2Proof/Machine/CommandsHost.lean ====
section
/-! DEFINITION. The commands' meanings: The host ports. -/

namespace Sys2Proof.Machine

/-- REGISTER_WRITE (R564). -/
def execRegisterWrite (agent : Fin 11) (a : BitVec 32) (v : BitVec 32) (narrow : Bool) (env : HostEnv)
    (s : State) : Host.Outcome State Fault Refusal :=
  s.host <| registerWrite agent.val a.toNat v.toNat narrow env

/-- HOST_READ (R575). -/
def execHostRead (p : Fin 2) (h : UdpHead) (count : BitVec 16) (addr : BitVec 32) (env : HostEnv)
    (s : State) : Host.Outcome State Fault Refusal :=
  s.host <| hostRead p.val h count.toNat addr.toNat env

/-- HOST_WRITE (R575). -/
def execHostWrite (p : Fin 2) (h : UdpHead) (count : BitVec 16) (addr : BitVec 32) (bytes : List Byte)
    (env : HostEnv) (s : State) : Host.Outcome State Fault Refusal :=
  s.host <| hostWrite p.val h count.toNat addr.toNat bytes env

/-- HOST_POST (R574). -/
def execHostPost (p : Fin 2) (h : UdpHead) (hole : BitVec 32) (bytes : List Byte)
    (s : State) : Host.Outcome State Fault Refusal :=
  s.host <| hostPost p.val h hole.toNat bytes

/-- HOST_PGHGET (R574). -/
def execHostPghget (p : Fin 2) (h : UdpHead) (hole : BitVec 32) (s : State) : Host.Outcome State Fault Refusal :=
  s.host <| hostPghget p.val h hole.toNat

/-- HOST_NOTIFY (R574). -/
def execHostNotify (p : Fin 2) (s : State) : Host.Outcome State Fault Refusal :=
  s.host <| hostNotify p.val

/-- HOST_REQUEST_DENIED (R573). -/
def execHostRequestDenied (p : Fin 2) (h : UdpHead) (magic : BitVec 16) (version : BitVec 8) (op : BitVec 8)
    (s : State) : Host.Outcome State Fault Refusal :=
  s.host <| hostRequestDenied p.val h magic.toNat version.toNat op.toNat

/-- ARP_REQUEST (R573). -/
def execArpRequest (p : Fin 2) (srcMac : List Byte) (src : BitVec 32) (target : BitVec 32)
    (s : State) : Host.Outcome State Fault Refusal :=
  s.host <| arpRequest p.val srcMac src.toNat target.toNat

/-- ICMP_ECHO_REQUEST (R573). -/
def execIcmpEchoRequest (p : Fin 2) (srcMac : List Byte) (src : BitVec 32) (target : BitVec 32) (payload : List Byte)
    (s : State) : Host.Outcome State Fault Refusal :=
  s.host <| icmpEchoRequest p.val srcMac src.toNat target.toNat payload

/-- SPI_WRITE (R578). -/
def execSpiWrite (addr : BitVec 32) (words : List (BitVec 32)) (whole : Bool) (env : HostEnv)
    (s : State) : Host.Outcome State Fault Refusal :=
  s.host <| spiWrite addr.toNat (words.map (·.toNat)) whole env

/-- SPI_READ (R578). -/
def execSpiRead (addr : BitVec 32) (count : Nat) (whole : Bool) (env : HostEnv)
    (s : State) : Host.Outcome State Fault Refusal :=
  s.host <| spiRead addr.toNat count whole env

/-- SPI_STATUS (R578). -/
def execSpiStatus (s : State) : Host.Outcome State Fault Refusal :=
  s.host <| spiStatus

/-- ETHERNET_LINK_CHANGE (R619). -/
def execEthernetLinkChange (p : Fin 2) (up : Bool) (speed : Fin 2) (s : State) : Host.Outcome State Fault Refusal :=
  s.host <| ethernetLinkChange p.val up speed.val

end Sys2Proof.Machine
end

