-- ==== Sys2Proof/Machine/CommandsMemory.lean ====
section
/-! DEFINITION. The commands' meanings: Memory banks and data integrity. -/

namespace Sys2Proof.Machine

/-- BANK_HANDOVER (R523). -/
def execBankHandover (b : Fin 64) (new : Fin 32) (compare : Fin 32) (dma : Bool)
    (s : State) : Host.Outcome State Fault Refusal :=
  s.main <| bankHandover b.val new.val compare.val dma

/-- BANK_WAKE (R532). -/
def execBankWake (b : Fin 64) (bad : List (Fin 32768)) (s : State) : Host.Outcome State Fault Refusal :=
  s.main <| bankWake b.val (bad.map (·.val))

/-- BANK_RETENTION_REQUEST (R533). -/
def execBankRetentionRequest (agent : Fin 32) (b : Fin 64) (s : State) : Host.Outcome State Fault Refusal :=
  s.main <| bankRetentionRequest agent.val b.val

/-- ALIAS_BIT_OPERATION (R530). -/
def execAliasBitOperation (agent : Fin 32) (b : Fin 64) (w : Fin 32768) (mask : BitVec 64) (set_ : Bool) (bad : Bool)
    (s : State) : Host.Outcome State Fault Refusal :=
  s.main <| aliasBitOperation agent.val b.val w.val mask.toNat set_ bad

/-- PARTIAL_WRITE (R529). -/
def execPartialWrite (agent : Fin 32) (b : Fin 64) (w : Fin 32768) (data : BitVec 64) (mask : BitVec 8) (bad : Bool)
    (s : State) : Host.Outcome State Fault Refusal :=
  s.main <| partialWrite agent.val b.val w.val data.toNat mask.toNat bad

/-- NIGHT_PORTER_SCRUB (R536). -/
def execNightPorterScrub (b : Fin 64) (w : Fin 32768) (result : Fin 3) (synd : BitVec 8)
    (s : State) : Host.Outcome State Fault Refusal :=
  s.main <| nightPorterScrub b.val w.val result.val synd.toNat

/-- NIGHT_PORTER_LAP_END (R536). -/
def execNightPorterLapEnd (s : State) : Host.Outcome State Fault Refusal :=
  s.main <| nightPorterLapEnd

/-- LAP_OVER_LAPMAX (R537). -/
def execLapOverLapmax (s : State) : Host.Outcome State Fault Refusal :=
  s.main <| lapOverLapmax

/-- MIGRATION_SWITCH (R543). -/
def execMigrationSwitch (s : State) : Host.Outcome State Fault Refusal :=
  s.main <| migrationSwitch

/-- MEM_ATOMSET (R531). -/
def execMemAtomset (mask : BitVec 32) (s : State) : Host.Outcome State Fault Refusal :=
  s.command <| memAtomset mask.toNat

/-- MEM_ATOMCLR (R531). -/
def execMemAtomclr (mask : BitVec 32) (s : State) : Host.Outcome State Fault Refusal :=
  s.command <| memAtomclr mask.toNat

/-- TAMPER (R551). -/
def execTamper (k : Fin 4) (s : State) : Host.Outcome State Fault Refusal :=
  s.main <| tamper k.val

/-- SHIELD_BREAK (R550). -/
def execShieldBreak (s : State) : Host.Outcome State Fault Refusal :=
  s.main <| shieldBreak

/-- TAMPER_LEVEL_CHANGE (R553). -/
def execTamperLevelChange (k : Fin 4) (pin : Bool) (s : State) : Host.Outcome State Fault Refusal :=
  s.main <| tamperLevelChange k.val pin

end Sys2Proof.Machine
end

