-- ==== Sys2Proof/Machine/CommandsOutlets.lean ====
section
/-! DEFINITION. The commands' meanings: Outlets: charging sessions. -/

namespace Sys2Proof.Machine

/-- CONNECTION_DETECTED (R279). -/
def execConnectionDetected (n : Fin 16) (read : ConnRead) (s : State) : Host.Outcome State Fault Refusal :=
  s.input 10 ([n.val, read.state.val, flag read.stood]) <| connectionDetected n.val read

/-- DISCONNECTION_DETECTED (R279). -/
def execDisconnectionDetected (n : Fin 16) (s : State) : Host.Outcome State Fault Refusal :=
  s.input 11 ([n.val]) <| disconnectionDetected n.val

/-- SESSION_SETUP_COMPLETE (R278). -/
def execSessionSetupComplete (n : Fin 16) (proto : BitVec 3) (eim : Bool) (s : State) : Host.Outcome State Fault Refusal :=
  s.message 12 ([n.val, proto.toNat, flag eim]) n.val <| sessionSetupComplete n.val proto.toNat eim

/-- CONTRACT_AUTHORISATION (R282). -/
def execContractAuthorisation (n : Fin 16) (chain : List Byte) (s : State) : Host.Outcome State Fault Refusal :=
  s.message 13 ([n.val] ++ chain.map (·.toNat)) n.val <| contractAuthorisation n.val chain

/-- OUT_CMD_AUTHOK (R282). -/
def execOutCmdAuthok (n : Fin 16) (s : State) : Host.Outcome State Fault Refusal :=
  s.command <| outCmdAuthok n.val

/-- OUT_CMD_AUTHNO (R282). -/
def execOutCmdAuthno (n : Fin 16) (s : State) : Host.Outcome State Fault Refusal :=
  s.command <| outCmdAuthno n.val

/-- STAGE_TIMEOUT (R281). -/
def execStageTimeout (n : Fin 16) (s : State) : Host.Outcome State Fault Refusal :=
  s.main <| stageTimeout n.val

/-- MESSAGE_TIMEOUT (R36). -/
def execMessageTimeout (n : Fin 16) (s : State) : Host.Outcome State Fault Refusal :=
  s.main <| messageTimeout n.val

/-- CHARGE_PARAMETERS (R284). -/
def execChargeParameters (n : Fin 16) (minV : BitVec 16) (maxV : BitVec 16) (maxI : BitVec 16) (disV : BitVec 16)
    (maxW : Option Nat) (s : State) : Host.Outcome State Fault Refusal :=
  s.message 14 ([n.val, minV.toNat, maxV.toNat, maxI.toNat, disV.toNat] ++ maxW.toList) n.val <| chargeParameters n.val minV.toNat maxV.toNat maxI.toNat disV.toNat maxW

/-- CABLE_CHECK_REQUEST (R285). -/
def execCableCheckRequest (n : Fin 16) (s : State) : Host.Outcome State Fault Refusal :=
  s.message 15 ([n.val]) n.val <| cableCheckRequest n.val

/-- LOCK_CONFIRMED (R286). -/
def execLockConfirmed (n : Fin 16) (s : State) : Host.Outcome State Fault Refusal :=
  s.input 6 ([n.val]) <| lockConfirmed n.val

/-- LOCK_TIMEOUT (R286). -/
def execLockTimeout (n : Fin 16) (s : State) : Host.Outcome State Fault Refusal :=
  s.main <| lockTimeout n.val

/-- INSULATION_CYCLE (R287). -/
def execInsulationCycle (n : Fin 16) (reading : IsoReading) (s : State) : Host.Outcome State Fault Refusal :=
  s.main <| insulationCycle n.val reading

/-- CABLE_CHECK_COMPLETE (R285). -/
def execCableCheckComplete (n : Fin 16) (s : State) : Host.Outcome State Fault Refusal :=
  s.sends n.val <| cableCheckComplete n.val

/-- PRECHARGE_REQUEST (R293). -/
def execPrechargeRequest (n : Fin 16) (vt : BitVec 16) (s : State) : Host.Outcome State Fault Refusal :=
  s.message 16 ([n.val, vt.toNat]) n.val <| prechargeRequest n.val vt.toNat

/-- CONTACTORS_CLOSED (R294). -/
def execContactorsClosed (n : Fin 16) (s : State) : Host.Outcome State Fault Refusal :=
  s.main <| contactorsClosed n.val

/-- CONTACTOR_CLOSE_TIMEOUT (R440). -/
def execContactorCloseTimeout (n : Fin 16) (s : State) : Host.Outcome State Fault Refusal :=
  s.main <| contactorCloseTimeout n.val

/-- PRECHARGE_CORRECTION (R294). -/
def execPrechargeCorrection (n : Fin 16) (s : State) : Host.Outcome State Fault Refusal :=
  s.main <| prechargeCorrection n.val

/-- SOFT_START_FAILURE (R295). -/
def execSoftStartFailure (n : Fin 16) (s : State) : Host.Outcome State Fault Refusal :=
  s.main <| softStartFailure n.val

/-- SOFT_START_RETRY (R296). -/
def execSoftStartRetry (n : Fin 16) (s : State) : Host.Outcome State Fault Refusal :=
  s.main <| softStartRetry n.val

/-- PRECHARGE_COMPLETE (R297). -/
def execPrechargeComplete (n : Fin 16) (s : State) : Host.Outcome State Fault Refusal :=
  s.sends n.val <| prechargeComplete n.val

/-- POWER_DELIVERY_START (R278). -/
def execPowerDeliveryStart (n : Fin 16) (s : State) : Host.Outcome State Fault Refusal :=
  s.message 17 ([n.val]) n.val <| powerDeliveryStart n.val

/-- CURRENT_DEMAND (R300). -/
def execCurrentDemand (n : Fin 16) (ireq : BitVec 16) (v : BitVec 16) (s : State) : Host.Outcome State Fault Refusal :=
  s.input 7 ([n.val, ireq.toNat, v.toNat]) fun d => (currentDemand n.val ireq.toInt v.toNat d).checkpoint n.val

/-- STANDBY_REQUEST (R304). -/
def execStandbyRequest (n : Fin 16) (s : State) : Host.Outcome State Fault Refusal :=
  s.message 18 ([n.val]) n.val <| standbyRequest n.val

/-- RESUME_REQUEST (R278). -/
def execResumeRequest (n : Fin 16) (s : State) : Host.Outcome State Fault Refusal :=
  s.message 19 ([n.val]) n.val <| resumeRequest n.val

/-- VEHICLE_STOP (R308). -/
def execVehicleStop (n : Fin 16) (s : State) : Host.Outcome State Fault Refusal :=
  s.message 20 ([n.val]) n.val <| vehicleStop n.val

/-- OUT_CMD_STOP (R278). -/
def execOutCmdStop (n : Fin 16) (s : State) : Host.Outcome State Fault Refusal :=
  s.command <| outCmdStop n.val

/-- OUT_CMD_DISABLE (R320). -/
def execOutCmdDisable (n : Fin 16) (s : State) : Host.Outcome State Fault Refusal :=
  s.command <| outCmdDisable n.val

/-- OUT_CMD_ENABLE (R278). -/
def execOutCmdEnable (n : Fin 16) (s : State) : Host.Outcome State Fault Refusal :=
  s.command <| outCmdEnable n.val

/-- OUT_CMD_DUMMYRUN (R276). -/
def execOutCmdDummyrun (n : Fin 16) (s : State) : Host.Outcome State Fault Refusal :=
  s.command <| outCmdDummyrun n.val

/-- GRANT_ZERO_TIMEOUT (R304). -/
def execGrantZeroTimeout (n : Fin 16) (s : State) : Host.Outcome State Fault Refusal :=
  s.main <| grantZeroTimeout n.val

/-- ARC_CAPACITY_ZERO (R313). -/
def execArcCapacityZero (n : Fin 16) (s : State) : Host.Outcome State Fault Refusal :=
  s.main <| arcCapacityZero n.val

/-- RUNDOWN_COMPLETE (R309). -/
def execRundownComplete (n : Fin 16) (s : State) : Host.Outcome State Fault Refusal :=
  s.main <| rundownComplete n.val

/-- RUNDOWN_OVERRUN (R309). -/
def execRundownOverrun (n : Fin 16) (s : State) : Host.Outcome State Fault Refusal :=
  s.main <| rundownOverrun n.val

/-- CONTACTORS_OPENED (R310). -/
def execContactorsOpened (n : Fin 16) (s : State) : Host.Outcome State Fault Refusal :=
  s.main <| contactorsOpened n.val

/-- WELD_VOLTAGE_CHECK (R310). -/
def execWeldVoltageCheck (n : Fin 16) (v2s : Nat) (s : State) : Host.Outcome State Fault Refusal :=
  s.main <| weldVoltageCheck n.val v2s

/-- UNLOCK_COMPLETE (R312). -/
def execUnlockComplete (n : Fin 16) (s : State) : Host.Outcome State Fault Refusal :=
  s.input 21 ([n.val]) <| unlockComplete n.val

/-- UNLOCK_TIMEOUT (R312). -/
def execUnlockTimeout (n : Fin 16) (s : State) : Host.Outcome State Fault Refusal :=
  s.main <| unlockTimeout n.val

/-- RETRY_DUE (R314). -/
def execRetryDue (n : Fin 16) (s : State) : Host.Outcome State Fault Refusal :=
  s.main <| retryDue n.val

/-- RETRY_EXPIRY (R315). -/
def execRetryExpiry (k : Fin 80) (s : State) : Host.Outcome State Fault Refusal :=
  s.main <| retryExpiry k.val

/-- OUT_STRLATCH_CLEAR (R317). -/
def execOutStrlatchClear (str : Fin 64) (s : State) : Host.Outcome State Fault Refusal :=
  s.command <| outStrlatchClear str.val

end Sys2Proof.Machine
end

