-- ==== Sys2Proof/Machine/CommandsSafety.lean ====
section
/-! DEFINITION. The commands' meanings: The safety island. -/

namespace Sys2Proof.Machine

/-- SAFE_INPUT_DEMAND (R433). -/
def execSafeInputDemand (ix : Fin 16) (isOpen : Bool) (s : State) : Host.Outcome State Fault Refusal :=
  s.island <| safeInputDemand ix.val isOpen

/-- PAIR_DISCREPANCY (R434). -/
def execPairDiscrepancy (k : Fin 8) (differ : Bool) (s : State) : Host.Outcome State Fault Refusal :=
  s.island <| pairDiscrepancy k.val differ

/-- TEST_PULSE (R435). -/
def execTestPulse (k : Fin 8) (bad : BitVec 16) (s : State) : Host.Outcome State Fault Refusal :=
  s.island <| testPulse k.val bad.toNat

/-- OUTPUT_OFF_TEST (R438). -/
def execOutputOffTest (j : Fin 32) (fell : Bool) (s : State) : Host.Outcome State Fault Refusal :=
  s.island <| outputOffTest j.val fell

/-- OUTPUT_DIAGNOSTIC_FAULT (R439). -/
def execOutputDiagnosticFault (j : Fin 32) (readsOn : Bool) (s : State) : Host.Outcome State Fault Refusal :=
  s.island <| outputDiagnosticFault j.val readsOn

/-- CONTACTOR_DISCREPANCY (R440). -/
def execContactorDiscrepancy (j : Fin 32) (s : State) : Host.Outcome State Fault Refusal :=
  s.island <| contactorDiscrepancy j.val

/-- CONTACTOR_WELD (R440). -/
def execContactorWeld (j : Fin 32) (s : State) : Host.Outcome State Fault Refusal :=
  s.island <| contactorWeld j.val

/-- SF2 (R443). -/
def execSf2 (n : Fin 16) (missing : Bool) (s : State) : Host.Outcome State Fault Refusal :=
  s.island <| sf2 n.val missing

/-- SF3 (R443). -/
def execSf3 (n : Fin 16) (s : State) : Host.Outcome State Fault Refusal :=
  s.island <| sf3 n.val

/-- SF5 (R443). -/
def execSf5 (n : Fin 16) (v : Nat) (s : State) : Host.Outcome State Fault Refusal :=
  s.island <| sf5 n.val v

/-- SF6 (R443). -/
def execSf6 (n : Fin 16) (k : Fin 4) (temp : Int) (lost : Bool) (s : State) : Host.Outcome State Fault Refusal :=
  s.island <| sf6 n.val k.val temp lost

/-- SF7 (R443). -/
def execSf7 (n : Fin 16) (level : Nat) (ceFault : Bool) (s : State) : Host.Outcome State Fault Refusal :=
  s.island <| sf7 n.val level ceFault

/-- SF8 (R443). -/
def execSf8 (n : Fin 16) (cur : Nat) (s : State) : Host.Outcome State Fault Refusal :=
  s.island <| sf8 n.val cur

/-- SAFE_OUTPUT_RELEASE (R445). -/
def execSafeOutputRelease (n : Fin 16) (ma : Nat) (elapsed : Bool) (s : State) : Host.Outcome State Fault Refusal :=
  s.island <| safeOutputRelease n.val ma elapsed

/-- SAFETY_CAUSE_INACTIVE (R443). -/
def execSafetyCauseInactive (n : Fin 16) (k : Fin 8) (s : State) : Host.Outcome State Fault Refusal :=
  s.island <| safetyCauseInactive n.val k.val

/-- SAF_ACK (R448). -/
def execSafAck (code : BitVec 16) (s : State) : Host.Outcome State Fault Refusal :=
  s.command <| safAck code.toNat

/-- SAF_OUTCLR (R449). -/
def execSafOutclr (code : BitVec 16) (mask : BitVec 16) (s : State) : Host.Outcome State Fault Refusal :=
  s.command <| safOutclr code.toNat mask.toNat

/-- SAFE_FRAME_RECEIVED (R460). -/
def execSafeFrameReceived (carrier : Fin 7) (bytes : List Byte) (s : State) : Host.Outcome State Fault Refusal :=
  s.island <| safeFrameReceived carrier.val bytes

/-- SAFE_CONNECTION_WATCHDOG (R461). -/
def execSafeConnectionWatchdog (k : Fin 16) (s : State) : Host.Outcome State Fault Refusal :=
  s.island <| safeConnectionWatchdog k.val

/-- SAFE_CONNECTION_WAIT (R461). -/
def execSafeConnectionWait (k : Fin 16) (s : State) : Host.Outcome State Fault Refusal :=
  s.island <| safeConnectionWait k.val

/-- SAFE_FRAME_SEND (R462). -/
def execSafeFrameSend (k : Fin 16) (s : State) : Host.Outcome State Fault Refusal :=
  s.island <| safeFrameSend k.val

/-- COMPARATOR_TEST (R453). -/
def execComparatorTest (t : CompTarget) (pass : Bool) (s : State) : Host.Outcome State Fault Refusal :=
  s.island <| comparatorTest t pass

/-- ISLAND_ROM_CHECK (R453). -/
def execIslandRomCheck (pass : Bool) (s : State) : Host.Outcome State Fault Refusal :=
  s.island <| islandRomCheck pass

/-- ENABLE_LINE_CHECK (R453). -/
def execEnableLineCheck (j : Fin 32) (ok : Bool) (s : State) : Host.Outcome State Fault Refusal :=
  s.island <| enableLineCheck j.val ok

/-- STUCK_ON_FAULT (R455). -/
def execStuckOnFault (j : Fin 32) (s : State) : Host.Outcome State Fault Refusal :=
  s.island <| stuckOnFault j.val

/-- LODGER_SAFETY_DEMAND (R456). -/
def execLodgerSafetyDemand (x : SafeDemand) (s : State) : Host.Outcome State Fault Refusal :=
  s.island <| lodgerSafetyDemand x

/-- DUPLEX_SAFETY_DISAGREEMENT (R456). -/
def execDuplexSafetyDisagreement (s : State) : Host.Outcome State Fault Refusal :=
  s.island <| duplexSafetyDisagreement

end Sys2Proof.Machine
end

