-- ==== Sys2Proof/Machine/CommandsSite.lean ====
section
/-! DEFINITION. The commands' meanings: Site power: rounds, moves, the Purse. -/

namespace Sys2Proof.Machine

/-- ROUND_BOUNDARY (R113). -/
def execRoundBoundary (s : State) : Host.Outcome State Fault Refusal :=
  s.main <| roundBoundary

/-- APPLY_BOUNDARY (R114). -/
def execApplyBoundary (ready : Bool) (s : State) : Host.Outcome State Fault Refusal :=
  s.main <| applyBoundary ready

/-- SHED_WINDOW_END (R158). -/
def execShedWindowEnd (n : Fin 16) (s : State) : Host.Outcome State Fault Refusal :=
  s.main <| shedWindowEnd n.val

/-- MOVE_TDOWN_ELAPSED (R131). -/
def execMoveTdownElapsed (c : Fin 16) (s : State) : Host.Outcome State Fault Refusal :=
  s.main <| moveTdownElapsed c.val

/-- MOVE_TCHECK_PASSED (R131). -/
def execMoveTcheckPassed (c : Fin 16) (s : State) : Host.Outcome State Fault Refusal :=
  s.main <| moveTcheckPassed c.val

/-- MOVE_CHECK_ABORT (R132). -/
def execMoveCheckAbort (c : Fin 16) (s : State) : Host.Outcome State Fault Refusal :=
  s.main <| moveCheckAbort c.val

/-- TIE_FEEDBACK_CONFIRMED (R131). -/
def execTieFeedbackConfirmed (t : Fin 16) (closed : Bool) (s : State) : Host.Outcome State Fault Refusal :=
  s.input 5 ([t.val, flag closed]) <| tieFeedbackConfirmed t.val closed

/-- TIE_STUCK (R110). -/
def execTieStuck (t : Fin 16) (closed : Bool) (s : State) : Host.Outcome State Fault Refusal :=
  s.main <| tieStuck t.val closed

/-- MOVE_VOLTAGE_WINDOW (R135). -/
def execMoveVoltageWindow (c : Fin 16) (s : State) : Host.Outcome State Fault Refusal :=
  s.main <| moveVoltageWindow c.val

/-- MOVE_PRECHARGE_TIMEOUT (R133). -/
def execMovePrechargeTimeout (c : Fin 16) (s : State) : Host.Outcome State Fault Refusal :=
  s.main <| movePrechargeTimeout c.val

/-- MOVE_TUP_ELAPSED (R653). -/
def execMoveTupElapsed (c : Fin 16) (s : State) : Host.Outcome State Fault Refusal :=
  s.main <| moveTupElapsed c.val

/-- PENCIL_TRIGGER_LAPSE (R147). -/
def execPencilTriggerLapse (n : Fin 16) (kind : Fin 4) (s : State) : Host.Outcome State Fault Refusal :=
  s.main <| pencilTriggerLapse n.val kind.val

/-- SITE_PLAN (R655). -/
def execSitePlan (s : State) : Host.Outcome State Fault Refusal :=
  s.main <| sitePlan

/-- PLAN_STALE (R167). -/
def execPlanStale (s : State) : Host.Outcome State Fault Refusal :=
  s.main <| planStale

/-- BATTERY_OFFER_FRAME (R165). -/
def execBatteryOfferFrame (port : Fin 4) (f : CanFrame) (s : State) : Host.Outcome State Fault Refusal :=
  s.input 9 ([port.val] ++ wireCan f) <| batteryOfferFrame port.val f

/-- DEMAND_WINDOW_START (R656). -/
def execDemandWindowStart (s : State) : Host.Outcome State Fault Refusal :=
  s.main <| demandWindowStart

/-- DEVICE_OVER_BUDGET (R174). -/
def execDeviceOverBudget (powers : List Nat) (s : State) : Host.Outcome State Fault Refusal :=
  s.main <| deviceOverBudget powers

/-- DEVICE_UNDER_BUDGET (R174). -/
def execDeviceUnderBudget (power : Nat) (s : State) : Host.Outcome State Fault Refusal :=
  s.main <| deviceUnderBudget power

/-- FRONT_END_WAKE (R175). -/
def execFrontEndWake (n : Fin 16) (s : State) : Host.Outcome State Fault Refusal :=
  s.main <| frontEndWake n.val

end Sys2Proof.Machine
end

