-- ==== Sys2Proof/Machine/CommandsStrings.lean ====
section
/-! DEFINITION. The commands' meanings: Strings: the cell link, telemetry, SYNC_IN. -/

namespace Sys2Proof.Machine

/-- UP_FRAME (R201). -/
def execUpFrame (str : Fin 64) (w : BitVec 104) (symbolsOk : Bool) (s : State) : Host.Outcome State Fault Refusal :=
  s.input 1 ([str.val, w.toNat, flag symbolsOk]) <| upFrame str.val w.toNat symbolsOk

/-- DOWN_FRAME_START (R188). -/
def execDownFrameStart (s : State) : Host.Outcome State Fault Refusal :=
  s.main <| downFrameStart

/-- BLOCK_DEMAND (R197). -/
def execBlockDemand (n : Fin 16) (s : State) : Host.Outcome State Fault Refusal :=
  s.main <| blockDemand n.val

/-- STRING_FAULT (R217). -/
def execStringFault (str : Fin 64) (s : State) : Host.Outcome State Fault Refusal :=
  s.main <| stringFault str.val

/-- STRING_RECOVERY (R218). -/
def execStringRecovery (str : Fin 64) (s : State) : Host.Outcome State Fault Refusal :=
  s.main <| stringRecovery str.val

/-- STR_CMD_REIDENT (R207). -/
def execStrCmdReident (s : State) : Host.Outcome State Fault Refusal :=
  s.command <| strCmdReident

/-- STR_CMD_CLRCNT (R10). -/
def execStrCmdClrcnt (s : State) : Host.Outcome State Fault Refusal :=
  s.command <| strCmdClrcnt

/-- SYNC_IN_EDGE (R223). -/
def execSyncInEdge (interval : Nat) (phaseErr : Int) (s : State) : Host.Outcome State Fault Refusal :=
  s.main <| syncInEdge interval phaseErr

/-- SYNC_IN_MISSING (R222). -/
def execSyncInMissing (s : State) : Host.Outcome State Fault Refusal :=
  s.main <| syncInMissing

/-- GLIDE_COMPLETE (R222). -/
def execGlideComplete (s : State) : Host.Outcome State Fault Refusal :=
  s.main <| glideComplete

/-- RELOCK_COMPLETE (R223). -/
def execRelockComplete (s : State) : Host.Outcome State Fault Refusal :=
  s.main <| relockComplete

/-- SENSE_LOSS (R225). -/
def execSenseLoss (n : Fin 16) (kind : Fin 3) (present : Bool) (s : State) : Host.Outcome State Fault Refusal :=
  s.main <| senseLoss n.val kind.val present

/-- TELEMETRY_WINDOW_END (R228). -/
def execTelemetryWindowEnd (s : State) : Host.Outcome State Fault Refusal :=
  s.main <| telemetryWindowEnd

/-- PEAK_READ (R230). -/
def execPeakRead (agent : Fin 3) (a : ReadAt) (s : State) : Host.Outcome State Fault Refusal :=
  s.host <| peakRead agent.val a.addr.toNat a.narrow

/-- HIGH_WORD_LATCH_READ (R8). -/
def execHighWordLatchRead (agent : Fin 3) (a : ReadAt) (s : State) : Host.Outcome State Fault Refusal :=
  s.host <| highWordLatchRead agent.val a.addr.toNat a.narrow

end Sys2Proof.Machine
end

