-- ==== Sys2Proof/Machine/CommandsSupply.lean ====
section
/-! DEFINITION. The commands' meanings: Supply, auxiliary switches, CAN. -/

namespace Sys2Proof.Machine

/-- VSUP_RANGE_CHANGE (R589). -/
def execVsupRangeChange (mv : Int) (s : State) : Host.Outcome State Fault Refusal :=
  s.supplied mv <| vsupRangeChange mv

/-- RAIL_FAULT (R593). -/
def execRailFault (rail : Fin 4) (mv : Nat) (out : Bool) (s : State) : Host.Outcome State Fault Refusal :=
  s.island <| railFault rail.val mv out

/-- AUX_CURRENT_LIMIT (R604). -/
def execAuxCurrentLimit (ch : Fin 48) (s : State) : Host.Outcome State Fault Refusal :=
  s.main <| auxCurrentLimit ch.val

/-- AUX_SHORT_TO_VSUP (R605). -/
def execAuxShortToVsup (ch : Fin 48) (s : State) : Host.Outcome State Fault Refusal :=
  s.main <| auxShortToVsup ch.val

/-- AUX_AGGREGATE_LIMIT (R606). -/
def execAuxAggregateLimit (currents : List Nat) (s : State) : Host.Outcome State Fault Refusal :=
  s.main <| auxAggregateLimit currents

/-- AUX_DUTY_WRITE (R603). -/
def execAuxDutyWrite (ch : Fin 48) (duty : BitVec 14) (s : State) : Host.Outcome State Fault Refusal :=
  s.command <| auxDutyWrite ch.val duty.toNat

/-- AUX_FAULT_CLEAR (R604). -/
def execAuxFaultClear (ch : Fin 48) (absent : Bool) (s : State) : Host.Outcome State Fault Refusal :=
  s.command <| auxFaultClear ch.val absent

/-- LAMP_DUTY_UPDATE (R602). -/
def execLampDutyUpdate (vsup : Nat) (s : State) : Host.Outcome State Fault Refusal :=
  s.main <| lampDutyUpdate vsup

/-- OUTPUT_SHORT (R595). -/
def execOutputShort (s : State) : Host.Outcome State Fault Refusal :=
  s.main <| outputShort

/-- CAN_FRAME_RECEIVED (R617). -/
def execCanFrameReceived (k : Fin 4) (f : CanFrame) (s : State) : Host.Outcome State Fault Refusal :=
  s.input 8 ([k.val] ++ wireCan f) <| canFrameReceived k.val f

/-- CAN_FRAME_SENT (R614). -/
def execCanFrameSent (k : Fin 4) (ok : Bool) (s : State) : Host.Outcome State Fault Refusal :=
  s.main <| canFrameSent k.val ok

/-- CAN_TXCMD_SEND (R614). -/
def execCanTxcmdSend (k : Fin 4) (s : State) : Host.Outcome State Fault Refusal :=
  s.command <| canTxcmdSend k.val

/-- CAN_RXSTAT_POP (R617). -/
def execCanRxstatPop (k : Fin 4) (s : State) : Host.Outcome State Fault Refusal :=
  s.command <| canRxstatPop k.val

/-- CAN_BUS_OFF (R618). -/
def execCanBusOff (k : Fin 4) (s : State) : Host.Outcome State Fault Refusal :=
  s.main <| canBusOff k.val

/-- CAN_BUS_OFF_RECOVERY (R618). -/
def execCanBusOffRecovery (k : Fin 4) (s : State) : Host.Outcome State Fault Refusal :=
  s.main <| canBusOffRecovery k.val

/-- CAN_ERROR_PASSIVE (R618). -/
def execCanErrorPassive (k : Fin 4) (tec : Nat) (rec : Nat) (s : State) : Host.Outcome State Fault Refusal :=
  s.main <| canErrorPassive k.val tec rec

end Sys2Proof.Machine
end

