-- ==== Sys2Proof/Machine/CommandsSystem.lean ====
section
/-! DEFINITION. The commands' meanings: Modes: resets, modes, stewards, timebases. -/

namespace Sys2Proof.Machine

/-- POWER_ON_RESET (R72). -/
def execPowerOnReset (mv : Int) (s : State) : Host.Outcome State Fault Refusal :=
  s.supplied mv <| powerOnReset mv.toNat

/-- RESET_N_ASSERT (R77). -/
def execResetNAssert (ns : Nat) (s : State) : Host.Outcome State Fault Refusal :=
  s.hard <| resetNAssert ns

/-- RESET_N_RELEASE (R57). -/
def execResetNRelease (s : State) : Host.Outcome State Fault Refusal :=
  s.hard <| resetNRelease

/-- BOOTSEL_SAMPLE (R96). -/
def execBootselSample (code : BitVec 3) (testN : Bool) (s : State) : Host.Outcome State Fault Refusal :=
  s.main <| bootselSample code.toNat testN

/-- BOOT_COMPLETE (R57). -/
def execBootComplete (mib : BitVec 16) (octal : Bool) (tieFb : BitVec 16) (hostBank : Fin 64) (mram : MramReport)
    (s : State) : Host.Outcome State Fault Refusal :=
  s.booted <| bootComplete mib.toNat octal tieFb.toNat hostBank.val mram

/-- SELFTEST_COMPLETE (R57). -/
def execSelftestComplete (r : SelftestReport) (s : State) : Host.Outcome State Fault Refusal :=
  s.main <| selftestComplete r

/-- SUPPLY_LOSS (R57). -/
def execSupplyLoss (mv : Int) (s : State) : Host.Outcome State Fault Refusal :=
  s.supplied mv <| supplyLoss mv.toNat

/-- LAST_GASP_COMPLETE (R57). -/
def execLastGaspComplete (mv : Nat) (e2 : Nat) (e3 : Nat) (s : State) : Host.Outcome State Fault Refusal :=
  s.main <| lastGaspComplete mv e2 e3

/-- SYS_CMD_WARM (R72). -/
def execSysCmdWarm (s : State) : Host.Outcome State Fault Refusal :=
  s.command <| sysCmdWarm

/-- WARM_RESTART_DONE (R24). -/
def execWarmRestartDone (s : State) : Host.Outcome State Fault Refusal :=
  s.main <| warmRestartDone

/-- STEWARD_WATCHDOG (R72). -/
def execStewardWatchdog (k : Fin 8) (s : State) : Host.Outcome State Fault Refusal :=
  s.main <| stewardWatchdog k.val

/-- STEWARD_FETCH_TRAP (R535). -/
def execStewardFetchTrap (k : Fin 8) (bank : Fin 64) (word : Fin 32768) (synd : BitVec 8)
    (s : State) : Host.Outcome State Fault Refusal :=
  s.main <| stewardFetchTrap k.val bank.val word.val synd.toNat

/-- PERIOD_BOUNDARY (R51). -/
def execPeriodBoundary (opened : Bool) (ns : Nat) (fabric : Nat) (ticks : Nat) (mismatch : BitVec 16)
    (s : State) : Host.Outcome State Fault Refusal :=
  s.main <| periodBoundary opened ns fabric ticks mismatch.toNat

/-- CANARY_MEASUREMENT (R25). -/
def execCanaryMeasurement (laps : Nat) (s : State) : Host.Outcome State Fault Refusal :=
  s.main <| canaryMeasurement laps

/-- CANARY_STALL (R27). -/
def execCanaryStall (s : State) : Host.Outcome State Fault Refusal :=
  s.main <| canaryStall

/-- CORE_RAIL_UNDERVOLTAGE (R23). -/
def execCoreRailUndervoltage (s : State) : Host.Outcome State Fault Refusal :=
  s.island <| coreRailUndervoltage

/-- TB0_LOSS (R30). -/
def execTb0Loss (lost : Bool) (s : State) : Host.Outcome State Fault Refusal :=
  s.island <| tb0Loss lost

/-- TIMEBASE_CHECK (R32). -/
def execTimebaseCheck (f10 : Nat) (f11 : Nat) (s : State) : Host.Outcome State Fault Refusal :=
  s.island <| timebaseCheck f10 f11

/-- ENABLE_LINE_TIMEOUT (R17). -/
def execEnableLineTimeout (j : Fin 32) (s : State) : Host.Outcome State Fault Refusal :=
  s.island <| enableLineTimeout j.val

/-- COLD_RESET_OUTPUT_RELEASE (R79). -/
def execColdResetOutputRelease (n : Fin 16) (s : State) : Host.Outcome State Fault Refusal :=
  s.hard <| coldResetOutputRelease n.val

/-- TB9_REFERENCE_LOSS (R625). -/
def execTb9ReferenceLoss (lost : Bool) (s : State) : Host.Outcome State Fault Refusal :=
  s.main <| tb9ReferenceLoss lost

/-- JTAG_INSTRUCTION (R629). -/
def execJtagInstruction (ins : Jtag) (s : State) : Host.Outcome State Fault Refusal :=
  s.hard <| jtagInstruction ins

end Sys2Proof.Machine
end

