-- ==== Sys2Proof/Machine/CommandsTally.lean ====
section
/-! DEFINITION. The commands' meanings: The Tally. -/

namespace Sys2Proof.Machine

/-- METER_SAMPLE (R404). -/
def execMeterSample (own : List (BitVec 24)) (fwd : Option (List (BitVec 24))) (s : State) : Host.Outcome State Fault Refusal :=
  s.main <| meterSample own fwd

/-- REFCORR_UPDATE (R401). -/
def execRefcorrUpdate (s : State) : Host.Outcome State Fault Refusal :=
  s.main <| refcorrUpdate

/-- ZERO_CROSSING (R408). -/
def execZeroCrossing (feed : Fin 4) (phase : Fin 3) (positive : Bool) (ns : Nat)
    (s : State) : Host.Outcome State Fault Refusal :=
  s.main fun d => zeroCrossing feed.val phase.val positive ns (d.beaconCrossing feed.val phase.val positive ns)

/-- ZERO_CROSSING_TIMEOUT (R409). -/
def execZeroCrossingTimeout (s : State) : Host.Outcome State Fault Refusal :=
  s.main <| zeroCrossingTimeout

/-- CYCLE_LATCH (R412). -/
def execCycleLatch (s : State) : Host.Outcome State Fault Refusal :=
  s.main <| cycleLatch

/-- TAL_CMD_LATCH (R411). -/
def execTalCmdLatch (s : State) : Host.Outcome State Fault Refusal :=
  s.command <| talCmdLatch

/-- RECORD_SIGNED (R418). -/
def execRecordSigned (s : State) : Host.Outcome State Fault Refusal :=
  s.main <| recordSigned

/-- TAL_RECACK (R423). -/
def execTalRecack (seq : BitVec 32) (s : State) : Host.Outcome State Fault Refusal :=
  s.command <| talRecack seq.toNat

/-- PULSE_EMIT (R413). -/
def execPulseEmit (k : Fin 8) (s : State) : Host.Outcome State Fault Refusal :=
  s.main <| pulseEmit k.val

/-- PULSE_END (R414). -/
def execPulseEnd (k : Fin 8) (s : State) : Host.Outcome State Fault Refusal :=
  s.main <| pulseEnd k.val

/-- JOURNAL_WRITE (R426, R547). -/
def execJournalWrite (ok : Bool) (okRepeat : Bool) (corrected : List (BitVec 16)) (rewritten : List (BitVec 16))
    (s : State) : Host.Outcome State Fault Refusal :=
  s.main fun d => (journalWrite ok okRepeat d).mramRead (corrected.map BitVec.toNat) (rewritten.map BitVec.toNat)

end Sys2Proof.Machine
end

