-- ==== Sys2Proof/Machine/CommandsThermal.lean ====
section
/-! DEFINITION. The commands' meanings: Heat: cables, coolant, the die. -/

namespace Sys2Proof.Machine

/-- RTD_CONVERSION (R358). -/
def execRtdConversion (readings : List (BitVec 16)) (s : State) : Host.Outcome State Fault Refusal :=
  s.input 3 (readings.map (·.toNat)) <| rtdConversion readings

/-- RTD_FAULT (R361). -/
def execRtdFault (n : Fin 16) (k : Fin 4) (faulted : Bool) (s : State) : Host.Outcome State Fault Refusal :=
  s.main <| rtdFault n.val k.val faulted

/-- FLOW_UPDATE (R359). -/
def execFlowUpdate (edges : List Nat) (s : State) : Host.Outcome State Fault Refusal :=
  s.input 4 (edges) <| flowUpdate edges

/-- FLOW_FAULT (R361). -/
def execFlowFault (n : Fin 16) (faulted : Bool) (s : State) : Host.Outcome State Fault Refusal :=
  s.main <| flowFault n.val faulted

/-- CABLE_MODEL_UPDATE (R364). -/
def execCableModelUpdate (s : State) : Host.Outcome State Fault Refusal :=
  s.main <| cableModelUpdate

/-- CEILING_COMPUTE (R367). -/
def execCeilingCompute (s : State) : Host.Outcome State Fault Refusal :=
  s.main <| ceilingCompute

/-- OUTLET_THERMAL_LATCH (R371). -/
def execOutletThermalLatch (n : Fin 16) (s : State) : Host.Outcome State Fault Refusal :=
  s.main <| outletThermalLatch n.val

/-- OUTLET_LATCH_RELEASE (R372). -/
def execOutletLatchRelease (n : Fin 16) (s : State) : Host.Outcome State Fault Refusal :=
  s.main <| outletLatchRelease n.val

/-- STRING_THERMAL_LATCH (R373). -/
def execStringThermalLatch (str : Fin 64) (s : State) : Host.Outcome State Fault Refusal :=
  s.main <| stringThermalLatch str.val

/-- STRING_LATCH_RELEASE (R373). -/
def execStringLatchRelease (str : Fin 64) (s : State) : Host.Outcome State Fault Refusal :=
  s.main <| stringLatchRelease str.val

/-- RUNON_END (R378). -/
def execRunonEnd (n : Fin 16) (byTime : Bool) (s : State) : Host.Outcome State Fault Refusal :=
  s.main <| runonEnd n.val byTime

/-- DIODE_CONVERSION (R380). -/
def execDiodeConversion (raw : BitVec 16) (s : State) : Host.Outcome State Fault Refusal :=
  s.main <| diodeConversion raw.toInt

/-- DIODE_FAULT_CLEAR (R382). -/
def execDiodeFaultClear (s : State) : Host.Outcome State Fault Refusal :=
  s.main <| diodeFaultClear

/-- RATE_UPDATE (R384). -/
def execRateUpdate (s : State) : Host.Outcome State Fault Refusal :=
  s.main <| rateUpdate

/-- DIE_WARNING (R383). -/
def execDieWarning (s : State) : Host.Outcome State Fault Refusal :=
  s.main <| dieWarning

/-- HARDWARE_TRIP (R388). -/
def execHardwareTrip (s : State) : Host.Outcome State Fault Refusal :=
  s.hard <| hardwareTrip

/-- SHUTDOWN_OUTPUT_RELEASE (R389). -/
def execShutdownOutputRelease (s : State) : Host.Outcome State Fault Refusal :=
  s.island <| shutdownOutputRelease

/-- SHUTDOWN_PEAK_UPDATE (R389). -/
def execShutdownPeakUpdate (s : State) : Host.Outcome State Fault Refusal :=
  s.main <| shutdownPeakUpdate

/-- RECOVERY_DWELL_COMPLETE (R391). -/
def execRecoveryDwellComplete (s : State) : Host.Outcome State Fault Refusal :=
  s.main <| recoveryDwellComplete

/-- RTC_COMPENSATION (R381). -/
def execRtcCompensation (s : State) : Host.Outcome State Fault Refusal :=
  s.main <| rtcCompensation

end Sys2Proof.Machine
end

