-- ==== Sys2Proof/Machine/CommandsTuner.lean ====
section
/-! DEFINITION. The commands' meanings: Tuner: passes, slots, pluck tests, bow sweeps. -/

namespace Sys2Proof.Machine

/-- POWER_PASS (R235). -/
def execPowerPass (sense : List (Int × Int × Int)) (poison : List (Fin 128)) (late : List (Fin 64)) (pathNs : Nat)
    (s : State) : Host.Outcome State Fault Refusal :=
  s.input 2 (wireSense sense ++ poison.map (·.val) ++ late.map (·.val) ++ [pathNs]) <| powerPass sense (poison.map (·.val)) (late.map (·.val)) pathNs

/-- THERMAL_PASS (R237). -/
def execThermalPass (poison : List (Fin 128)) (s : State) : Host.Outcome State Fault Refusal :=
  s.main <| thermalPass (poison.map (·.val))

/-- SLOT_OUT_OF_SERVICE (R258). -/
def execSlotOutOfService (ix : Fin 128) (s : State) : Host.Outcome State Fault Refusal :=
  s.main <| slotOutOfService ix.val

/-- INTEGRATOR_SATURATED (R259). -/
def execIntegratorSaturated (ix : Fin 128) (s : State) : Host.Outcome State Fault Refusal :=
  s.main <| integratorSaturated ix.val

/-- TUN_CMD_PLUCK (R262). -/
def execTunCmdPluck (s : State) : Host.Outcome State Fault Refusal :=
  s.command <| tunCmdPluck

/-- TUN_CMD_PLUCKSTOP (R265). -/
def execTunCmdPluckstop (s : State) : Host.Outcome State Fault Refusal :=
  s.command <| tunCmdPluckstop

/-- PLUCK_TEST_COMPLETE (R264). -/
def execPluckTestComplete (s : State) : Host.Outcome State Fault Refusal :=
  s.main <| pluckTestComplete

/-- PLUCK_TEST_ABORT (R265). -/
def execPluckTestAbort (s : State) : Host.Outcome State Fault Refusal :=
  s.main <| pluckTestAbort

/-- TUN_CMD_BOW (R267). -/
def execTunCmdBow (s : State) : Host.Outcome State Fault Refusal :=
  s.command <| tunCmdBow

/-- TUN_CMD_BOWSTOP (R272). -/
def execTunCmdBowstop (s : State) : Host.Outcome State Fault Refusal :=
  s.command <| tunCmdBowstop

/-- TUN_CMD_CAPFREE (R271). -/
def execTunCmdCapfree (s : State) : Host.Outcome State Fault Refusal :=
  s.command <| tunCmdCapfree

/-- BOW_SWEEP_END (R271). -/
def execBowSweepEnd (s : State) : Host.Outcome State Fault Refusal :=
  s.main <| bowSweepEnd

/-- BOW_SWEEP_ABORT (R272). -/
def execBowSweepAbort (s : State) : Host.Outcome State Fault Refusal :=
  s.main <| bowSweepAbort

end Sys2Proof.Machine
end

