-- ==== Sys2Proof/Machine/CommandsVehicle.lean ====
section
/-! DEFINITION. The commands' meanings: Vehicle link: PLC, SLAC, T1S, protocol messages, identities. -/

namespace Sys2Proof.Machine

/-- T1S_LINK_UP (R343). -/
def execT1sLinkUp (n : Fin 16) (s : State) : Host.Outcome State Fault Refusal :=
  s.input 22 ([n.val]) <| t1sLinkUp n.val

/-- T1S_LINK_DOWN (R343). -/
def execT1sLinkDown (n : Fin 16) (jabber : Bool) (s : State) : Host.Outcome State Fault Refusal :=
  s.input 23 ([n.val, flag jabber]) <| t1sLinkDown n.val jabber

/-- SLAC_PARM_REQ (R337). -/
def execSlacParmReq (n : Fin 16) (id : BitVec 64) (s : State) : Host.Outcome State Fault Refusal :=
  s.input 24 ([n.val, id.toNat]) <| slacParmReq n.val id.toNat

/-- SLAC_SOUNDING_END (R338). -/
def execSlacSoundingEnd (id : BitVec 64) (sounds : List (List (List Nat))) (s : State) : Host.Outcome State Fault Refusal :=
  s.input 25 ([id.toNat] ++ sounds.flatten.flatten) <| slacSoundingEnd id.toNat sounds

/-- SLAC_MATCH_REQ (R340). -/
def execSlacMatchReq (n : Fin 16) (id : BitVec 64) (joined : Bool) (s : State) : Host.Outcome State Fault Refusal :=
  s.input 26 ([n.val, id.toNat, flag joined]) <| slacMatchReq n.val id.toNat joined

/-- SLAC_VALIDATE_REQ (R340). -/
def execSlacValidateReq (n : Fin 16) (id : BitVec 64) (toggles : Nat) (s : State) : Host.Outcome State Fault Refusal :=
  s.input 27 ([n.val, id.toNat, toggles]) <| slacValidateReq n.val id.toNat toggles

/-- PLC_FRAME_RECEIVED (R334). -/
def execPlcFrameReceived (n : Fin 16) (head : PlcHead) (symbols : List PlcSymbol) (blocks : List PlcBlock)
    (s : State) : Host.Outcome State Fault Refusal :=
  s.main <| plcFrameReceived n.val head symbols blocks

/-- PLC_RETRANSMISSION (R328). -/
def execPlcRetransmission (n : Fin 16) (fresh : Bool) (s : State) : Host.Outcome State Fault Refusal :=
  s.main <| plcRetransmission n.val fresh

/-- BLANK_RATE_CHECK (R335). -/
def execBlankRateCheck (s : State) : Host.Outcome State Fault Refusal :=
  s.main <| blankRateCheck

/-- BEACON (R329). -/
def execBeacon (cycles : Nat) (s : State) : Host.Outcome State Fault Refusal :=
  s.main <| beacon cycles

/-- BEACON_FALLBACK (R330). -/
def execBeaconFallback (s : State) : Host.Outcome State Fault Refusal :=
  s.main <| beaconFallback

/-- BEACON_RELOCK (R331). -/
def execBeaconRelock (err : Int) (s : State) : Host.Outcome State Fault Refusal :=
  s.main <| beaconRelock err

/-- V2G_MESSAGE (R344). -/
def execV2gMessage (n : Fin 16) (src : BitVec 48) (m : V2g) (s : State) : Host.Outcome State Fault Refusal :=
  s.input 28 ([n.val, src.toNat] ++ wireV2g m) fun d => (v2gMessage n.val src.toNat m d).checkpoint n.val

/-- RELAY_ANSWER (R354). -/
def execRelayAnswer (s : State) : Host.Outcome State Fault Refusal :=
  s.main <| relayAnswer

/-- RELAY_TIMEOUT (R355). -/
def execRelayTimeout (n : Fin 16) (s : State) : Host.Outcome State Fault Refusal :=
  s.main <| relayTimeout n.val

/-- VLK_IDCMD_GENERATE (R350). -/
def execVlkIdcmdGenerate (ix : Fin 4) (curve : Fin 2) (s : State) : Host.Outcome State Fault Refusal :=
  s.command <| vlkIdcmdGenerate ix.val curve.val

/-- VLK_IDCMD_INSTALL (R350). -/
def execVlkIdcmdInstall (ix : Fin 4) (len : BitVec 14) (s : State) : Host.Outcome State Fault Refusal :=
  s.command <| vlkIdcmdInstall ix.val len.toNat

/-- VLK_IDCMD_ERASE (R350). -/
def execVlkIdcmdErase (ix : Fin 4) (s : State) : Host.Outcome State Fault Refusal :=
  s.command <| vlkIdcmdErase ix.val

/-- IDENTITY_EXPIRY_CHECK (R352). -/
def execIdentityExpiryCheck (s : State) : Host.Outcome State Fault Refusal :=
  s.main <| identityExpiryCheck

end Sys2Proof.Machine
end

