-- ==== Sys2Proof/Machine/Dispatch.lean ====
section
/-! DEFINITION. One arm per command, one direct call of its meaning each. -/

namespace Sys2Proof.Machine

/-- The command's effect on everything but the queue. -/
def exec (i : Instr) (s : State) : Host.Outcome State Fault Refusal :=
  match i with
  | .powerOnReset mv => Sys2Proof.Machine.execPowerOnReset mv s
  | .resetNAssert ns => Sys2Proof.Machine.execResetNAssert ns s
  | .resetNRelease => Sys2Proof.Machine.execResetNRelease s
  | .bootselSample code testN => Sys2Proof.Machine.execBootselSample code testN s
  | .bootComplete mib octal tieFb hostBank mram => Sys2Proof.Machine.execBootComplete mib octal tieFb hostBank mram s
  | .selftestComplete r => Sys2Proof.Machine.execSelftestComplete r s
  | .supplyLoss mv => Sys2Proof.Machine.execSupplyLoss mv s
  | .lastGaspComplete mv e2 e3 => Sys2Proof.Machine.execLastGaspComplete mv e2 e3 s
  | .sysCmdWarm => Sys2Proof.Machine.execSysCmdWarm s
  | .warmRestartDone => Sys2Proof.Machine.execWarmRestartDone s
  | .stewardWatchdog k => Sys2Proof.Machine.execStewardWatchdog k s
  | .stewardFetchTrap k bank word synd => Sys2Proof.Machine.execStewardFetchTrap k bank word synd s
  | .periodBoundary opened ns fabric ticks mismatch => Sys2Proof.Machine.execPeriodBoundary opened ns fabric ticks mismatch s
  | .canaryMeasurement laps => Sys2Proof.Machine.execCanaryMeasurement laps s
  | .canaryStall => Sys2Proof.Machine.execCanaryStall s
  | .coreRailUndervoltage => Sys2Proof.Machine.execCoreRailUndervoltage s
  | .tb0Loss lost => Sys2Proof.Machine.execTb0Loss lost s
  | .timebaseCheck f10 f11 => Sys2Proof.Machine.execTimebaseCheck f10 f11 s
  | .enableLineTimeout j => Sys2Proof.Machine.execEnableLineTimeout j s
  | .coldResetOutputRelease n => Sys2Proof.Machine.execColdResetOutputRelease n s
  | .tb9ReferenceLoss lost => Sys2Proof.Machine.execTb9ReferenceLoss lost s
  | .jtagInstruction ins => Sys2Proof.Machine.execJtagInstruction ins s
  | .upFrame str w symbolsOk => Sys2Proof.Machine.execUpFrame str w symbolsOk s
  | .downFrameStart => Sys2Proof.Machine.execDownFrameStart s
  | .blockDemand n => Sys2Proof.Machine.execBlockDemand n s
  | .stringFault str => Sys2Proof.Machine.execStringFault str s
  | .stringRecovery str => Sys2Proof.Machine.execStringRecovery str s
  | .strCmdReident => Sys2Proof.Machine.execStrCmdReident s
  | .strCmdClrcnt => Sys2Proof.Machine.execStrCmdClrcnt s
  | .syncInEdge interval phaseErr => Sys2Proof.Machine.execSyncInEdge interval phaseErr s
  | .syncInMissing => Sys2Proof.Machine.execSyncInMissing s
  | .glideComplete => Sys2Proof.Machine.execGlideComplete s
  | .relockComplete => Sys2Proof.Machine.execRelockComplete s
  | .senseLoss n kind present => Sys2Proof.Machine.execSenseLoss n kind present s
  | .telemetryWindowEnd => Sys2Proof.Machine.execTelemetryWindowEnd s
  | .peakRead agent a => Sys2Proof.Machine.execPeakRead agent a s
  | .highWordLatchRead agent a => Sys2Proof.Machine.execHighWordLatchRead agent a s
  | .powerPass sense poison late pathNs => Sys2Proof.Machine.execPowerPass sense poison late pathNs s
  | .thermalPass poison => Sys2Proof.Machine.execThermalPass poison s
  | .slotOutOfService ix => Sys2Proof.Machine.execSlotOutOfService ix s
  | .integratorSaturated ix => Sys2Proof.Machine.execIntegratorSaturated ix s
  | .tunCmdPluck => Sys2Proof.Machine.execTunCmdPluck s
  | .tunCmdPluckstop => Sys2Proof.Machine.execTunCmdPluckstop s
  | .pluckTestComplete => Sys2Proof.Machine.execPluckTestComplete s
  | .pluckTestAbort => Sys2Proof.Machine.execPluckTestAbort s
  | .tunCmdBow => Sys2Proof.Machine.execTunCmdBow s
  | .tunCmdBowstop => Sys2Proof.Machine.execTunCmdBowstop s
  | .tunCmdCapfree => Sys2Proof.Machine.execTunCmdCapfree s
  | .bowSweepEnd => Sys2Proof.Machine.execBowSweepEnd s
  | .bowSweepAbort => Sys2Proof.Machine.execBowSweepAbort s
  | .roundBoundary => Sys2Proof.Machine.execRoundBoundary s
  | .applyBoundary ready => Sys2Proof.Machine.execApplyBoundary ready s
  | .shedWindowEnd n => Sys2Proof.Machine.execShedWindowEnd n s
  | .moveTdownElapsed c => Sys2Proof.Machine.execMoveTdownElapsed c s
  | .moveTcheckPassed c => Sys2Proof.Machine.execMoveTcheckPassed c s
  | .moveCheckAbort c => Sys2Proof.Machine.execMoveCheckAbort c s
  | .tieFeedbackConfirmed t closed => Sys2Proof.Machine.execTieFeedbackConfirmed t closed s
  | .tieStuck t closed => Sys2Proof.Machine.execTieStuck t closed s
  | .moveVoltageWindow c => Sys2Proof.Machine.execMoveVoltageWindow c s
  | .movePrechargeTimeout c => Sys2Proof.Machine.execMovePrechargeTimeout c s
  | .moveTupElapsed c => Sys2Proof.Machine.execMoveTupElapsed c s
  | .pencilTriggerLapse n kind => Sys2Proof.Machine.execPencilTriggerLapse n kind s
  | .sitePlan => Sys2Proof.Machine.execSitePlan s
  | .planStale => Sys2Proof.Machine.execPlanStale s
  | .batteryOfferFrame port f => Sys2Proof.Machine.execBatteryOfferFrame port f s
  | .demandWindowStart => Sys2Proof.Machine.execDemandWindowStart s
  | .deviceOverBudget powers => Sys2Proof.Machine.execDeviceOverBudget powers s
  | .deviceUnderBudget power => Sys2Proof.Machine.execDeviceUnderBudget power s
  | .frontEndWake n => Sys2Proof.Machine.execFrontEndWake n s
  | .connectionDetected n ready => Sys2Proof.Machine.execConnectionDetected n ready s
  | .disconnectionDetected n => Sys2Proof.Machine.execDisconnectionDetected n s
  | .sessionSetupComplete n proto eim => Sys2Proof.Machine.execSessionSetupComplete n proto eim s
  | .contractAuthorisation n chain => Sys2Proof.Machine.execContractAuthorisation n chain s
  | .outCmdAuthok n => Sys2Proof.Machine.execOutCmdAuthok n s
  | .outCmdAuthno n => Sys2Proof.Machine.execOutCmdAuthno n s
  | .stageTimeout n => Sys2Proof.Machine.execStageTimeout n s
  | .messageTimeout n => Sys2Proof.Machine.execMessageTimeout n s
  | .chargeParameters n minV maxV maxI disV maxW => Sys2Proof.Machine.execChargeParameters n minV maxV maxI disV maxW s
  | .cableCheckRequest n => Sys2Proof.Machine.execCableCheckRequest n s
  | .lockConfirmed n => Sys2Proof.Machine.execLockConfirmed n s
  | .lockTimeout n => Sys2Proof.Machine.execLockTimeout n s
  | .insulationCycle n kohm => Sys2Proof.Machine.execInsulationCycle n kohm s
  | .cableCheckComplete n => Sys2Proof.Machine.execCableCheckComplete n s
  | .prechargeRequest n vt => Sys2Proof.Machine.execPrechargeRequest n vt s
  | .contactorsClosed n => Sys2Proof.Machine.execContactorsClosed n s
  | .contactorCloseTimeout n => Sys2Proof.Machine.execContactorCloseTimeout n s
  | .prechargeCorrection n => Sys2Proof.Machine.execPrechargeCorrection n s
  | .softStartFailure n => Sys2Proof.Machine.execSoftStartFailure n s
  | .softStartRetry n => Sys2Proof.Machine.execSoftStartRetry n s
  | .prechargeComplete n => Sys2Proof.Machine.execPrechargeComplete n s
  | .powerDeliveryStart n => Sys2Proof.Machine.execPowerDeliveryStart n s
  | .currentDemand n ireq v => Sys2Proof.Machine.execCurrentDemand n ireq v s
  | .standbyRequest n => Sys2Proof.Machine.execStandbyRequest n s
  | .resumeRequest n => Sys2Proof.Machine.execResumeRequest n s
  | .vehicleStop n => Sys2Proof.Machine.execVehicleStop n s
  | .outCmdStop n => Sys2Proof.Machine.execOutCmdStop n s
  | .outCmdDisable n => Sys2Proof.Machine.execOutCmdDisable n s
  | .outCmdEnable n => Sys2Proof.Machine.execOutCmdEnable n s
  | .outCmdDummyrun n => Sys2Proof.Machine.execOutCmdDummyrun n s
  | .grantZeroTimeout n => Sys2Proof.Machine.execGrantZeroTimeout n s
  | .arcCapacityZero n => Sys2Proof.Machine.execArcCapacityZero n s
  | .rundownComplete n => Sys2Proof.Machine.execRundownComplete n s
  | .rundownOverrun n => Sys2Proof.Machine.execRundownOverrun n s
  | .contactorsOpened n => Sys2Proof.Machine.execContactorsOpened n s
  | .weldVoltageCheck n v2s => Sys2Proof.Machine.execWeldVoltageCheck n v2s s
  | .unlockComplete n => Sys2Proof.Machine.execUnlockComplete n s
  | .unlockTimeout n => Sys2Proof.Machine.execUnlockTimeout n s
  | .retryDue n => Sys2Proof.Machine.execRetryDue n s
  | .retryExpiry k => Sys2Proof.Machine.execRetryExpiry k s
  | .outStrlatchClear str => Sys2Proof.Machine.execOutStrlatchClear str s
  | .t1sLinkUp n => Sys2Proof.Machine.execT1sLinkUp n s
  | .t1sLinkDown n jabber => Sys2Proof.Machine.execT1sLinkDown n jabber s
  | .slacParmReq n id => Sys2Proof.Machine.execSlacParmReq n id s
  | .slacSoundingEnd id sounds => Sys2Proof.Machine.execSlacSoundingEnd id sounds s
  | .slacMatchReq n id joined => Sys2Proof.Machine.execSlacMatchReq n id joined s
  | .slacValidateReq n id toggles => Sys2Proof.Machine.execSlacValidateReq n id toggles s
  | .plcFrameReceived n robo symbols blocks => Sys2Proof.Machine.execPlcFrameReceived n robo symbols blocks s
  | .plcRetransmission n fresh => Sys2Proof.Machine.execPlcRetransmission n fresh s
  | .blankRateCheck => Sys2Proof.Machine.execBlankRateCheck s
  | .beacon cycles => Sys2Proof.Machine.execBeacon cycles s
  | .beaconFallback => Sys2Proof.Machine.execBeaconFallback s
  | .beaconRelock err => Sys2Proof.Machine.execBeaconRelock err s
  | .v2gMessage n src m => Sys2Proof.Machine.execV2gMessage n src m s
  | .relayAnswer => Sys2Proof.Machine.execRelayAnswer s
  | .relayTimeout n => Sys2Proof.Machine.execRelayTimeout n s
  | .vlkIdcmdGenerate ix curve => Sys2Proof.Machine.execVlkIdcmdGenerate ix curve s
  | .vlkIdcmdInstall ix len => Sys2Proof.Machine.execVlkIdcmdInstall ix len s
  | .vlkIdcmdErase ix => Sys2Proof.Machine.execVlkIdcmdErase ix s
  | .identityExpiryCheck => Sys2Proof.Machine.execIdentityExpiryCheck s
  | .rtdConversion readings => Sys2Proof.Machine.execRtdConversion readings s
  | .rtdFault n k faulted => Sys2Proof.Machine.execRtdFault n k faulted s
  | .flowUpdate edges => Sys2Proof.Machine.execFlowUpdate edges s
  | .flowFault n faulted => Sys2Proof.Machine.execFlowFault n faulted s
  | .cableModelUpdate => Sys2Proof.Machine.execCableModelUpdate s
  | .ceilingCompute => Sys2Proof.Machine.execCeilingCompute s
  | .outletThermalLatch n => Sys2Proof.Machine.execOutletThermalLatch n s
  | .outletLatchRelease n => Sys2Proof.Machine.execOutletLatchRelease n s
  | .stringThermalLatch str => Sys2Proof.Machine.execStringThermalLatch str s
  | .stringLatchRelease str => Sys2Proof.Machine.execStringLatchRelease str s
  | .runonEnd n byTime => Sys2Proof.Machine.execRunonEnd n byTime s
  | .diodeConversion raw => Sys2Proof.Machine.execDiodeConversion raw s
  | .diodeFaultClear => Sys2Proof.Machine.execDiodeFaultClear s
  | .rateUpdate => Sys2Proof.Machine.execRateUpdate s
  | .dieWarning => Sys2Proof.Machine.execDieWarning s
  | .hardwareTrip => Sys2Proof.Machine.execHardwareTrip s
  | .shutdownOutputRelease => Sys2Proof.Machine.execShutdownOutputRelease s
  | .shutdownPeakUpdate => Sys2Proof.Machine.execShutdownPeakUpdate s
  | .recoveryDwellComplete => Sys2Proof.Machine.execRecoveryDwellComplete s
  | .rtcCompensation => Sys2Proof.Machine.execRtcCompensation s
  | .meterSample own fwd => Sys2Proof.Machine.execMeterSample own fwd s
  | .refcorrUpdate => Sys2Proof.Machine.execRefcorrUpdate s
  | .zeroCrossing feed phase positive ns => Sys2Proof.Machine.execZeroCrossing feed phase positive ns s
  | .zeroCrossingTimeout => Sys2Proof.Machine.execZeroCrossingTimeout s
  | .cycleLatch => Sys2Proof.Machine.execCycleLatch s
  | .talCmdLatch => Sys2Proof.Machine.execTalCmdLatch s
  | .recordSigned => Sys2Proof.Machine.execRecordSigned s
  | .talRecack seq => Sys2Proof.Machine.execTalRecack seq s
  | .pulseEmit k => Sys2Proof.Machine.execPulseEmit k s
  | .pulseEnd k => Sys2Proof.Machine.execPulseEnd k s
  | .journalWrite ok okRepeat corrected rewritten => Sys2Proof.Machine.execJournalWrite ok okRepeat corrected rewritten s
  | .safeInputDemand ix isOpen => Sys2Proof.Machine.execSafeInputDemand ix isOpen s
  | .pairDiscrepancy k differ => Sys2Proof.Machine.execPairDiscrepancy k differ s
  | .testPulse k bad => Sys2Proof.Machine.execTestPulse k bad s
  | .outputOffTest j fell => Sys2Proof.Machine.execOutputOffTest j fell s
  | .outputDiagnosticFault j readsOn => Sys2Proof.Machine.execOutputDiagnosticFault j readsOn s
  | .contactorDiscrepancy j => Sys2Proof.Machine.execContactorDiscrepancy j s
  | .contactorWeld j => Sys2Proof.Machine.execContactorWeld j s
  | .sf2 n missing => Sys2Proof.Machine.execSf2 n missing s
  | .sf3 n => Sys2Proof.Machine.execSf3 n s
  | .sf5 n v => Sys2Proof.Machine.execSf5 n v s
  | .sf6 n k temp lost => Sys2Proof.Machine.execSf6 n k temp lost s
  | .sf7 n level ceFault => Sys2Proof.Machine.execSf7 n level ceFault s
  | .sf8 n cur => Sys2Proof.Machine.execSf8 n cur s
  | .safeOutputRelease n ma elapsed => Sys2Proof.Machine.execSafeOutputRelease n ma elapsed s
  | .safetyCauseInactive n k => Sys2Proof.Machine.execSafetyCauseInactive n k s
  | .safAck code => Sys2Proof.Machine.execSafAck code s
  | .safOutclr code mask => Sys2Proof.Machine.execSafOutclr code mask s
  | .safeFrameReceived carrier bytes => Sys2Proof.Machine.execSafeFrameReceived carrier bytes s
  | .safeConnectionWatchdog k => Sys2Proof.Machine.execSafeConnectionWatchdog k s
  | .safeConnectionWait k => Sys2Proof.Machine.execSafeConnectionWait k s
  | .safeFrameSend k => Sys2Proof.Machine.execSafeFrameSend k s
  | .comparatorTest t pass => Sys2Proof.Machine.execComparatorTest t pass s
  | .islandRomCheck pass => Sys2Proof.Machine.execIslandRomCheck pass s
  | .enableLineCheck j ok => Sys2Proof.Machine.execEnableLineCheck j ok s
  | .stuckOnFault j => Sys2Proof.Machine.execStuckOnFault j s
  | .lodgerSafetyDemand x => Sys2Proof.Machine.execLodgerSafetyDemand x s
  | .duplexSafetyDisagreement => Sys2Proof.Machine.execDuplexSafetyDisagreement s
  | .forwardedInputs period inputs sense poison late => Sys2Proof.Machine.execForwardedInputs period inputs sense poison late s
  | .forwardedInputsMissing => Sys2Proof.Machine.execForwardedInputsMissing s
  | .plausibilityDisagreement j => Sys2Proof.Machine.execPlausibilityDisagreement j s
  | .downFrameCompare period heard touched => Sys2Proof.Machine.execDownFrameCompare period heard touched s
  | .dispute p pass digest => Sys2Proof.Machine.execDispute p pass digest s
  | .disputeVerdict pass digest => Sys2Proof.Machine.execDisputeVerdict pass digest s
  | .leaseRenewal => Sys2Proof.Machine.execLeaseRenewal s
  | .leaseReceived pin uid station => Sys2Proof.Machine.execLeaseReceived pin uid station s
  | .leaseExpiry => Sys2Proof.Machine.execLeaseExpiry s
  | .keyholderSelfRelease => Sys2Proof.Machine.execKeyholderSelfRelease s
  | .keyTake heard wires gap => Sys2Proof.Machine.execKeyTake heard wires gap s
  | .startupKeyWait heard => Sys2Proof.Machine.execStartupKeyWait heard s
  | .dupCmdTake heard => Sys2Proof.Machine.execDupCmdTake heard s
  | .dupCmdSurrender => Sys2Proof.Machine.execDupCmdSurrender s
  | .dupCmdRejoin => Sys2Proof.Machine.execDupCmdRejoin s
  | .rejoinComplete digestEqual levelEqual => Sys2Proof.Machine.execRejoinComplete digestEqual levelEqual s
  | .healthScore fails => Sys2Proof.Machine.execHealthScore fails s
  | .healthReceived score eligible synced => Sys2Proof.Machine.execHealthReceived score eligible synced s
  | .reducedAvailability absent => Sys2Proof.Machine.execReducedAvailability absent s
  | .sharedChannelsOff => Sys2Proof.Machine.execSharedChannelsOff s
  | .hail p => Sys2Proof.Machine.execHail p s
  | .hailReceived p h => Sys2Proof.Machine.execHailReceived p h s
  | .authFrame p chain key digest sig enc => Sys2Proof.Machine.execAuthFrame p chain key digest sig enc s
  | .linkRekey p => Sys2Proof.Machine.execLinkRekey p s
  | .laneLoss p lane => Sys2Proof.Machine.execLaneLoss p lane s
  | .laneBlockLock p lane => Sys2Proof.Machine.execLaneBlockLock p lane s
  | .fabricFrameReceived p f check => Sys2Proof.Machine.execFabricFrameReceived p f check s
  | .fabricAckTimeout p tries f => Sys2Proof.Machine.execFabricAckTimeout p tries f s
  | .lsa received => Sys2Proof.Machine.execLsa received s
  | .timeExchange p t1 t2 t3 t4 synced inIsland => Sys2Proof.Machine.execTimeExchange p t1 t2 t3 t4 synced inIsland s
  | .timeStep => Sys2Proof.Machine.execTimeStep s
  | .timeErrorIsland => Sys2Proof.Machine.execTimeErrorIsland s
  | .timeSourceChange => Sys2Proof.Machine.execTimeSourceChange s
  | .postReceived q => Sys2Proof.Machine.execPostReceived q s
  | .notifyReceived src event => Sys2Proof.Machine.execNotifyReceived src event s
  | .fabCertcmdGenerate => Sys2Proof.Machine.execFabCertcmdGenerate s
  | .fabCertcmdInstall len => Sys2Proof.Machine.execFabCertcmdInstall len s
  | .fabCertcmdErase => Sys2Proof.Machine.execFabCertcmdErase s
  | .bankHandover b new compare dma => Sys2Proof.Machine.execBankHandover b new compare dma s
  | .bankWake b bad => Sys2Proof.Machine.execBankWake b bad s
  | .bankRetentionRequest agent b => Sys2Proof.Machine.execBankRetentionRequest agent b s
  | .aliasBitOperation agent b w mask set_ bad => Sys2Proof.Machine.execAliasBitOperation agent b w mask set_ bad s
  | .partialWrite agent b w data mask bad => Sys2Proof.Machine.execPartialWrite agent b w data mask bad s
  | .nightPorterScrub b w result synd => Sys2Proof.Machine.execNightPorterScrub b w result synd s
  | .nightPorterLapEnd => Sys2Proof.Machine.execNightPorterLapEnd s
  | .lapOverLapmax => Sys2Proof.Machine.execLapOverLapmax s
  | .migrationSwitch => Sys2Proof.Machine.execMigrationSwitch s
  | .memAtomset mask => Sys2Proof.Machine.execMemAtomset mask s
  | .memAtomclr mask => Sys2Proof.Machine.execMemAtomclr mask s
  | .tamper k => Sys2Proof.Machine.execTamper k s
  | .shieldBreak => Sys2Proof.Machine.execShieldBreak s
  | .tamperLevelChange k pin => Sys2Proof.Machine.execTamperLevelChange k pin s
  | .txnBegin agent => Sys2Proof.Machine.execTxnBegin agent s
  | .txnCommit agent handle persist => Sys2Proof.Machine.execTxnCommit agent handle persist s
  | .txnAbort agent handle => Sys2Proof.Machine.execTxnAbort agent handle s
  | .txnTimeoutExpiry => Sys2Proof.Machine.execTxnTimeoutExpiry s
  | .persistWriteComplete ok => Sys2Proof.Machine.execPersistWriteComplete ok s
  | .txnPrepareReceived station handle writes => Sys2Proof.Machine.execTxnPrepareReceived station handle writes s
  | .txnPrepareReply station code => Sys2Proof.Machine.execTxnPrepareReply station code s
  | .txnPrepareTimeout => Sys2Proof.Machine.execTxnPrepareTimeout s
  | .txnFabricCommit station round => Sys2Proof.Machine.execTxnFabricCommit station round s
  | .txnFabricAbort station => Sys2Proof.Machine.execTxnFabricAbort station s
  | .txnPrepareHoldExpiry => Sys2Proof.Machine.execTxnPrepareHoldExpiry s
  | .pghPost agent h len payload addr epoch => Sys2Proof.Machine.execPghPost agent h len payload addr epoch s
  | .pghTake agent h => Sys2Proof.Machine.execPghTake agent h s
  | .pghAck agent h code => Sys2Proof.Machine.execPghAck agent h code s
  | .pghDone agent h => Sys2Proof.Machine.execPghDone agent h s
  | .pghFlush agent h => Sys2Proof.Machine.execPghFlush agent h s
  | .evtRawClear k mask raised => Sys2Proof.Machine.execEvtRawClear k mask raised s
  | .guestbookFlush => Sys2Proof.Machine.execGuestbookFlush s
  | .nvmErase => Sys2Proof.Machine.execNvmErase s
  | .nvmProgram => Sys2Proof.Machine.execNvmProgram s
  | .nvmRead => Sys2Proof.Machine.execNvmRead s
  | .nvmCheck copy => Sys2Proof.Machine.execNvmCheck copy s
  | .nvmActivate copy => Sys2Proof.Machine.execNvmActivate copy s
  | .nvmRelease => Sys2Proof.Machine.execNvmRelease s
  | .nvmOpComplete ok => Sys2Proof.Machine.execNvmOpComplete ok s
  | .registerWrite agent a v narrow env => Sys2Proof.Machine.execRegisterWrite agent a v narrow env s
  | .hostRead p h count addr env => Sys2Proof.Machine.execHostRead p h count addr env s
  | .hostWrite p h count addr bytes env => Sys2Proof.Machine.execHostWrite p h count addr bytes env s
  | .hostPost p h hole bytes => Sys2Proof.Machine.execHostPost p h hole bytes s
  | .hostPghget p h hole => Sys2Proof.Machine.execHostPghget p h hole s
  | .hostNotify p => Sys2Proof.Machine.execHostNotify p s
  | .hostRequestDenied p h magic version op => Sys2Proof.Machine.execHostRequestDenied p h magic version op s
  | .arpRequest p srcMac src target => Sys2Proof.Machine.execArpRequest p srcMac src target s
  | .icmpEchoRequest p srcMac src target payload => Sys2Proof.Machine.execIcmpEchoRequest p srcMac src target payload s
  | .spiWrite addr words whole env => Sys2Proof.Machine.execSpiWrite addr words whole env s
  | .spiRead addr count whole env => Sys2Proof.Machine.execSpiRead addr count whole env s
  | .spiStatus => Sys2Proof.Machine.execSpiStatus s
  | .ethernetLinkChange p up speed => Sys2Proof.Machine.execEthernetLinkChange p up speed s
  | .vsupRangeChange mv => Sys2Proof.Machine.execVsupRangeChange mv s
  | .railFault rail mv out => Sys2Proof.Machine.execRailFault rail mv out s
  | .auxCurrentLimit ch => Sys2Proof.Machine.execAuxCurrentLimit ch s
  | .auxShortToVsup ch => Sys2Proof.Machine.execAuxShortToVsup ch s
  | .auxAggregateLimit currents => Sys2Proof.Machine.execAuxAggregateLimit currents s
  | .auxDutyWrite ch duty => Sys2Proof.Machine.execAuxDutyWrite ch duty s
  | .auxFaultClear ch absent => Sys2Proof.Machine.execAuxFaultClear ch absent s
  | .lampDutyUpdate vsup => Sys2Proof.Machine.execLampDutyUpdate vsup s
  | .outputShort => Sys2Proof.Machine.execOutputShort s
  | .canFrameReceived k f => Sys2Proof.Machine.execCanFrameReceived k f s
  | .canFrameSent k ok => Sys2Proof.Machine.execCanFrameSent k ok s
  | .canTxcmdSend k => Sys2Proof.Machine.execCanTxcmdSend k s
  | .canRxstatPop k => Sys2Proof.Machine.execCanRxstatPop k s
  | .canBusOff k => Sys2Proof.Machine.execCanBusOff k s
  | .canBusOffRecovery k => Sys2Proof.Machine.execCanBusOffRecovery k s
  | .canErrorPassive k tec rec => Sys2Proof.Machine.execCanErrorPassive k tec rec s

end Sys2Proof.Machine
end

