-- ==== Sys2Proof/WellFormed.lean ====
section
/-! DEFINITION. Which commands are well formed: lists as long as what they stand for, frames whose fields fit their bits. The types
bound every other operand. -/

namespace Sys2Proof

open Sys2Proof.Machine

/-- A symbol has 3,072 samples in its window (R333). -/
def Machine.PlcSymbol.wf (p : PlcSymbol) : Bool := decide (p.window.length = 3072)

/-- A CAN frame: an identifier of 11 or 29 bits, a DLC, at most 8 or 64 data bytes (R611). -/
def Machine.CanFrame.wf (f : CanFrame) : Bool :=
  decide (f.id < (if f.ide then 2 ^ 29 else 2 ^ 11) ∧ f.dlc < 16 ∧ f.data.length ≤ (if f.fdf then 64 else 8))

/-- A HAIL: a 64-bit UID, an address, a seat, a station number, and a digest of 32 bytes (R501). -/
def Machine.Hail.wf (h : Hail) : Bool :=
  decide (h.uid < 2 ^ 64 ∧ h.addr < 256 ∧ h.seat < 256 ∧ h.station < 256 ∧ h.level < 256 ∧ h.digest.length = 32)

/-- A fabric frame: its header fields, and a payload of at most 1,024 bytes (R498). -/
def Machine.FabFrame.wf (f : FabFrame) : Bool :=
  decide (f.dst < 256 ∧ f.src < 256 ∧ f.typ < 256 ∧ f.hops < 256 ∧ f.seq < 2 ^ 16 ∧ f.epoch < 2 ^ 16 ∧ f.payload.length ≤ 1024)

/-- A post: an address, a station number and a digest of 32 bytes (R169). -/
def Machine.Post.wf (q : Post) : Bool := decide (q.addr < 256 ∧ q.station < 256 ∧ q.digest.length = 32)

/-- The command is well formed. -/
def Instr.wellFormed : Instr → Bool
  | .selftestComplete r => decide (r.falls.length = 16)
  | .powerPass sense _ _ _ => decide (sense.length = 16)
  | .batteryOfferFrame _ f => f.wf
  | .deviceOverBudget powers => !powers.isEmpty
  | .slacSoundingEnd _ sounds => decide (sounds.length = 16)
  | .plcFrameReceived _ _ symbols blocks => symbols.all PlcSymbol.wf && blocks.all fun b => b.syms.all fun i => decide (i < symbols.length)
  | .rtdConversion readings => decide (readings.length = 64)
  | .flowUpdate edges => decide (edges.length = 16)
  | .meterSample own fwd => decide (own.length = 56) && fwd.all fun l => decide (l.length = 56)
  | .safeFrameReceived _ bytes => decide (bytes.length = 48)
  | .forwardedInputs _ _ sense _ _ => decide (sense.length = 16)
  | .downFrameCompare _ heard _ => decide ((heard.map (·.1)).Nodup)
  | .hailReceived _ h => h.wf
  | .authFrame _ _ key digest sig _ => decide (key.length = 64 ∧ digest.length = 32 ∧ sig.length = 64)
  | .fabricFrameReceived _ f _ => f.wf
  | .fabricAckTimeout _ _ f => f.wf
  | .postReceived q => q.wf
  | .txnPrepareReceived _ _ writes => writes.all fun p => decide (p.2 < 2 ^ 32)
  | .pghPost _ _ _ payload _ _ => decide (payload.length ≤ 1024)
  | .hostWrite _ _ _ _ bytes _ => decide (bytes.length ≤ 1024)
  | .hostPost _ _ _ bytes => decide (bytes.length ≤ 1024)
  | .arpRequest _ srcMac _ _ => decide (srcMac.length = 6)
  | .icmpEchoRequest _ srcMac _ _ _ => decide (srcMac.length = 6)
  | .auxAggregateLimit currents => decide (currents.length = 48)
  | .canFrameReceived _ f => f.wf
  | .powerOnReset .. | .resetNAssert .. | .resetNRelease | .bootselSample .. | .bootComplete .. | .supplyLoss ..
  | .lastGaspComplete .. | .sysCmdWarm | .warmRestartDone | .stewardWatchdog .. | .stewardFetchTrap .. | .periodBoundary ..
  | .canaryMeasurement .. | .canaryStall | .coreRailUndervoltage | .tb0Loss .. | .timebaseCheck .. | .enableLineTimeout ..
  | .coldResetOutputRelease .. | .tb9ReferenceLoss .. | .jtagInstruction .. | .upFrame .. | .downFrameStart | .blockDemand ..
  | .stringFault .. | .stringRecovery .. | .strCmdReident | .strCmdClrcnt | .syncInEdge .. | .syncInMissing | .glideComplete
  | .relockComplete | .senseLoss .. | .telemetryWindowEnd | .peakRead .. | .highWordLatchRead .. | .thermalPass ..
  | .slotOutOfService .. | .integratorSaturated .. | .tunCmdPluck | .tunCmdPluckstop | .pluckTestComplete | .pluckTestAbort
  | .tunCmdBow | .tunCmdBowstop | .tunCmdCapfree | .bowSweepEnd | .bowSweepAbort | .roundBoundary | .applyBoundary ..
  | .shedWindowEnd .. | .moveTdownElapsed .. | .moveTcheckPassed .. | .moveCheckAbort .. | .tieFeedbackConfirmed ..
  | .tieStuck .. | .moveVoltageWindow .. | .movePrechargeTimeout .. | .moveTupElapsed .. | .pencilTriggerLapse .. | .sitePlan
  | .planStale | .demandWindowStart | .deviceUnderBudget .. | .frontEndWake .. | .connectionDetected ..
  | .disconnectionDetected .. | .sessionSetupComplete .. | .contractAuthorisation .. | .outCmdAuthok .. | .outCmdAuthno ..
  | .stageTimeout .. | .messageTimeout .. | .chargeParameters .. | .cableCheckRequest .. | .lockConfirmed ..
  | .lockTimeout .. | .insulationCycle .. | .cableCheckComplete .. | .prechargeRequest .. | .contactorsClosed ..
  | .contactorCloseTimeout .. | .prechargeCorrection .. | .softStartFailure .. | .softStartRetry .. | .prechargeComplete ..
  | .powerDeliveryStart .. | .currentDemand .. | .standbyRequest .. | .resumeRequest .. | .vehicleStop .. | .outCmdStop ..
  | .outCmdDisable .. | .outCmdEnable .. | .outCmdDummyrun .. | .grantZeroTimeout .. | .arcCapacityZero ..
  | .rundownComplete .. | .rundownOverrun .. | .contactorsOpened .. | .weldVoltageCheck .. | .unlockComplete ..
  | .unlockTimeout .. | .retryDue .. | .retryExpiry .. | .outStrlatchClear .. | .t1sLinkUp .. | .t1sLinkDown ..
  | .slacParmReq .. | .slacMatchReq .. | .slacValidateReq .. | .plcRetransmission .. | .blankRateCheck | .beacon ..
  | .beaconFallback | .beaconRelock .. | .v2gMessage .. | .relayAnswer | .relayTimeout .. | .vlkIdcmdGenerate ..
  | .vlkIdcmdInstall .. | .vlkIdcmdErase .. | .identityExpiryCheck | .rtdFault .. | .flowFault .. | .cableModelUpdate
  | .ceilingCompute | .outletThermalLatch .. | .outletLatchRelease .. | .stringThermalLatch .. | .stringLatchRelease ..
  | .runonEnd .. | .diodeConversion .. | .diodeFaultClear | .rateUpdate | .dieWarning | .hardwareTrip
  | .shutdownOutputRelease | .shutdownPeakUpdate | .recoveryDwellComplete | .rtcCompensation | .refcorrUpdate
  | .zeroCrossing .. | .zeroCrossingTimeout | .cycleLatch | .talCmdLatch | .recordSigned | .talRecack .. | .pulseEmit ..
  | .pulseEnd .. | .journalWrite .. | .safeInputDemand .. | .pairDiscrepancy .. | .testPulse .. | .outputOffTest ..
  | .outputDiagnosticFault .. | .contactorDiscrepancy .. | .contactorWeld .. | .sf2 .. | .sf3 .. | .sf5 .. | .sf6 ..
  | .sf7 .. | .sf8 .. | .safeOutputRelease .. | .safetyCauseInactive .. | .safAck .. | .safOutclr ..
  | .safeConnectionWatchdog .. | .safeConnectionWait .. | .safeFrameSend .. | .comparatorTest .. | .islandRomCheck ..
  | .enableLineCheck .. | .stuckOnFault .. | .lodgerSafetyDemand .. | .duplexSafetyDisagreement | .forwardedInputsMissing
  | .plausibilityDisagreement .. | .dispute .. | .disputeVerdict .. | .leaseRenewal | .leaseReceived .. | .leaseExpiry
  | .keyholderSelfRelease | .keyTake .. | .startupKeyWait .. | .dupCmdTake .. | .dupCmdSurrender | .dupCmdRejoin
  | .rejoinComplete .. | .healthScore .. | .healthReceived .. | .reducedAvailability .. | .sharedChannelsOff | .hail ..
  | .linkRekey .. | .laneLoss .. | .laneBlockLock .. | .lsa .. | .timeExchange .. | .timeStep | .timeErrorIsland
  | .timeSourceChange | .notifyReceived .. | .fabCertcmdGenerate | .fabCertcmdInstall .. | .fabCertcmdErase
  | .bankHandover .. | .bankWake .. | .bankRetentionRequest .. | .aliasBitOperation .. | .partialWrite ..
  | .nightPorterScrub .. | .nightPorterLapEnd | .lapOverLapmax | .migrationSwitch | .memAtomset .. | .memAtomclr ..
  | .tamper .. | .shieldBreak | .tamperLevelChange .. | .txnBegin .. | .txnCommit .. | .txnAbort .. | .txnTimeoutExpiry
  | .persistWriteComplete .. | .txnPrepareReply .. | .txnPrepareTimeout | .txnFabricCommit .. | .txnFabricAbort ..
  | .txnPrepareHoldExpiry | .pghTake .. | .pghAck .. | .pghDone .. | .pghFlush .. | .evtRawClear .. | .guestbookFlush
  | .nvmErase | .nvmProgram | .nvmRead | .nvmCheck .. | .nvmActivate .. | .nvmRelease | .nvmOpComplete .. | .registerWrite ..
  | .hostRead .. | .hostPghget .. | .hostNotify .. | .hostRequestDenied .. | .spiWrite .. | .spiRead .. | .spiStatus
  | .ethernetLinkChange .. | .vsupRangeChange .. | .railFault .. | .auxCurrentLimit .. | .auxShortToVsup ..
  | .auxDutyWrite .. | .auxFaultClear .. | .lampDutyUpdate .. | .outputShort | .canFrameSent .. | .canTxcmdSend ..
  | .canRxstatPop .. | .canBusOff .. | .canBusOffRecovery .. | .canErrorPassive .. => true

end Sys2Proof
end

