-- ==== Sys2Proof/Safety.lean ====
section
/-! DEFINITION. The terms in which claims are stated: a step that goes on, a command that completes, which registers a
command leaves alone. -/

namespace Sys2Proof.Machine

/-- A step that goes on: neither a fault nor a refusal. -/
def goesOn (o : Host.Outcome State Fault Refusal) : Bool :=
  match o with
  | .next _ => true
  | .fault _ => false
  | .refused _ => false

/-- Every command that waits is well formed. -/
def State.queueOk (s : State) : Bool := s.pending.all Instr.wellFormed

/-- The command answers a next state, leaves the queue as it is, and the device it leaves has the property. -/
def Completes (c : Instr) (s : State) (p : Dev → Prop) : Prop :=
  ∃ t, exec c s = .next t ∧ t.pending = s.pending ∧ p t.dev

/-- The main logic runs: RESET_N is high, and the mode is not Off. -/
abbrev State.runs (s : State) : Prop := s.dev.stopped = false

/-- A command of a host or a steward is served: the main logic runs and the mode is not Last gasp. -/
abbrev State.serves (s : State) : Prop := s.dev.stopped = false ∧ s.dev.mode ≠ .lastGasp

/-- An input of the module acts: the main logic runs, and the module is no lodger that takes forwarded inputs (R478). -/
abbrev State.hears (s : State) : Prop := s.dev.stopped = false ∧ s.dev.fed = false

/-- The registers that are computed from other state at the end of every command (`Dev.finish`): PGOOD, CURTAIL, TXNOPEN,
PRS_GATE, OUT_STATUS, EVT_ALERT. -/
def summaryKeys : List Nat :=
  [Reg.PWR_STATUS_PGOOD.key, Reg.SYS_STATUS_CURTAIL.key, Reg.SYS_STATUS_TXNOPEN.key, Reg.PRS_GATE_PLC.key,
   Reg.PRS_GATE_T1S.key, Reg.OUT_STATUS_LIVE.key, Reg.OUT_STATUS_SERVING.key, Reg.EVT_ALERT_LINES.key]

/-- CURTAIL and its causes, which read 0 outside the modes in which they are valid (R71). -/
def curtailKeys : List Nat := curtailFlags.map (·.key)

/-- A register that the end of a command computes: one of `summaryKeys`, and CURTAIL's causes outside the modes in which they are
valid. -/
def Dev.summed (d : Dev) (k : Nat) : Bool := decide (k ∈ summaryKeys) || (!d.mode.working && decide (k ∈ curtailKeys))

/-- The registers that raising an event may write: EVT_RAW, EVT_MISC.BELLMISS, the records and epochs of pigeonholes (a bell), and the
…_EVCAUSE fields. -/
def eventKey (k : Nat) : Bool :=
  decide (0x40010000 ≤ k / 32 ∧ k / 32 < 0x40010010) || decide (k = Reg.EVT_MISC_BELLMISS.key) ||
  decide (0x40020200 ≤ k / 32 ∧ k / 32 < 0x40020400 ∧ (k / 32 % 16 = 4 ∨ k / 32 % 16 = 8)) ||
  decide (0x40021000 ≤ k / 32 ∧ k / 32 < 0x40023000) ||
  decide (k = Reg.MEM_EVCAUSE_CAUSE.key ∨ k = Reg.THM_EVCAUSE_CAUSE.key ∨ k = Reg.TAL_EVCAUSE_CAUSE.key ∨
    k = Reg.SAF_EVCAUSE_CAUSE.key ∨ k = Reg.DUP_EVCAUSE_CAUSE.key ∨ k = Reg.FAB_EVCAUSE_CAUSE.key ∨
    k = Reg.PWR_EVCAUSE_CAUSE.key)

/-- A device that differs from another in its registers and its emitted messages alone. -/
def Dev.withOuts (d : Dev) (r : Tbl Nat) (m : List Msg) : Dev := { d with regs := r, emitted := m }

/-- The frame of a command that writes the named register fields alone: every other field reads as before, but those computed
at the end of every command, and all else in the device is as it was; the messages that leave are said beside it. -/
def Dev.OnlyRegs (named : List Nat) (d d' : Dev) : Prop :=
  d' = d.withOuts d'.regs d'.emitted ∧
  ∀ k, k ∉ named → d'.summed k = false → tget 0 d'.regs k = tget 0 d.regs k

/-- A device that differs from another in what raising events touches alone: registers, emitted messages, the Guestbook's
buffer, the count of free choices, the notice that is due. -/
def Dev.withEvents (d x : Dev) : Dev :=
  { d with regs := x.regs, emitted := x.emitted, freeCtr := x.freeCtr, gbWait := x.gbWait, gbNext := x.gbNext, gbLast := x.gbLast, notifyDue := x.notifyDue }

/-- The frame of a command that raises events beside writing the named register fields: the registers that an event writes
(`eventKey`) may change too, and the Guestbook's buffer. -/
def Dev.OnlyRegsAndEvents (named : List Nat) (d d' : Dev) : Prop :=
  d' = d.withEvents d' ∧
  ∀ k, k ∉ named → d'.summed k = false → eventKey k = false → tget 0 d'.regs k = tget 0 d.regs k

/-- The frame of a command that sends a message to the vehicle of outlet n: beside the named register fields it may change the outlet's
PLC medium access, whose backoff is a free value (R327). -/
def Dev.Said (named : List Nat) (n : Nat) (d d' : Dev) : Prop :=
  d' = { d with regs := d'.regs, emitted := d'.emitted, macs := d'.macs, freeCtr := d'.freeCtr } ∧
  (∀ k, k ∉ named → d'.summed k = false → tget 0 d'.regs k = tget 0 d.regs k) ∧
  ∀ m, m ≠ n → tget {} d'.macs m = tget {} d.macs m

/-- The frame of a session message of outlet n: beside the named register fields its answer may change the advertised values, the
outlet's PLC medium access, whose backoff is a free value, and the session's checkpoint, which is the one that its steward takes
now (R35, R303, R327). -/
def Dev.Answered (named : List Nat) (n : Nat) (d d' : Dev) : Prop :=
  d' = { d with regs := d'.regs, emitted := d'.emitted, macs := d'.macs, freeCtr := d'.freeCtr, ckpts := d'.ckpts } ∧
  (∀ k, k ∉ named → k ≠ (Reg.OUT_ADV_IMAX n).key → k ≠ (Reg.OUT_ADV_KW n).key → d'.summed k = false →
    tget 0 d'.regs k = tget 0 d.regs k) ∧
  (∀ m, m ≠ n → tget {} d'.macs m = tget {} d.macs m ∧ tget {} d'.ckpts m = tget {} d.ckpts m) ∧
  tget {} d'.ckpts n = d'.ckptOf n

/-- A session transition of outlet n staged for the next control-period boundary (R278), and nothing else changed. -/
def Dev.transits (d : Dev) (n st cause rank : Nat) (transient : Bool := false) : Dev :=
  d.modOut n fun o => { o with next := some { state := st, cause := cause, rank := rank, transient := transient } }

/-- No transition of outlet n is staged yet. -/
abbrev Dev.settled (d : Dev) (n : Nat) : Prop := (d.out n).next = none

/-- How a session stands after its steward restarted (R35): one that stands in the state of its last checkpoint has the checkpoint's
protocol, vehicle limits, target voltage, and in DELIVERY its request; any other is as it was. Its state does not change. -/
def Dev.resumed (was : Dev) (n : Nat) (d : Dev) : Prop :=
  d.sess n = was.sess n ∧
  if 4 ≤ was.sess n ∧ was.sess n ≤ 13 ∧ (tget {} was.ckpts n : Ckpt).state = was.sess n then
    ∀ c : Ckpt, c = tget {} was.ckpts n →
      d.get (Reg.OUT_SESS_PROTO n) = c.proto % 2 ^ (Reg.OUT_SESS_PROTO n).width ∧
      d.get (Reg.OUT_EVMAX_VMAX n) = c.vmax % 2 ^ (Reg.OUT_EVMAX_VMAX n).width ∧
      d.get (Reg.OUT_EVMAX_IMAX n) = c.imax % 2 ^ (Reg.OUT_EVMAX_IMAX n).width ∧
      d.out n = { was.out n with vt := c.vt, demand := if c.state = 9 then some (c.ireq, c.vtgt) else (was.out n).demand }
  else
    d.get (Reg.OUT_SESS_PROTO n) = was.get (Reg.OUT_SESS_PROTO n) ∧ d.get (Reg.OUT_EVMAX_VMAX n) = was.get (Reg.OUT_EVMAX_VMAX n) ∧
    d.get (Reg.OUT_EVMAX_IMAX n) = was.get (Reg.OUT_EVMAX_IMAX n) ∧ d.out n = was.out n

/-- The mode, SRAM and flash are the same. -/
def Dev.sameStores (d d' : Dev) : Prop := d'.mode = d.mode ∧ d'.sram = d.sram ∧ d'.flash = d.flash

/-- SF(k + 1) acts on outlet n (R443): it is latched, the outlet is in its safe state with its arc in BLOCK, and its safe
outputs are off or being released. -/
def Dev.safed (d : Dev) (n k : Nat) : Prop :=
  d.bit (Reg.SAF_OSTAT_LATCH n) k = true ∧ d.bit (Reg.SAF_OSTAT_ACT n) k = true ∧ d.bit Reg.SAF_STATUS_OUTSAFE n = true ∧
  d.arcHeld n = true ∧ (d.soutOn n = false ∨ (d.safOut n).releasing.isSome = true)

/-- Every outlet is in its safe state, with its safe outputs off or being released (R443). -/
def Dev.allSafe (d : Dev) : Prop :=
  d.get Reg.SAF_STATUS_OUTSAFE = 0xFFFF ∧ ∀ n < 16, d.soutOn n = false ∨ (d.safOut n).releasing.isSome = true

/-- How a device answers the start of an NVM operation (R621, R622): one at a time (code 1); refused with a result and EV118; or
running, with the parameters of its registers. `n`: the bytes of flash it may change. -/
def Dev.nvmStarted (was : Dev) (op copy n : Nat) (d : Dev) : Prop :=
  (was.nvm.isSome = true → Dev.OnlyRegs [Reg.SYS_REFUSE_CODE.key, Reg.SYS_REFUSE_ADDR.key] was d ∧ d.get Reg.SYS_REFUSE_CODE = 1 ∧
    d.emitted = [.answer 2 1 []]) ∧
  (was.nvm = none → ∀ f, f = was.nvmFault op (was.get Reg.NVM_ADDR_VALUE) (was.get Reg.NVM_SRC_VALUE) (was.get Reg.NVM_LEN_VALUE) →
    (f ≠ 0 → Dev.OnlyRegsAndEvents [Reg.SYS_REFUSE_CODE.key, Reg.NVM_STATUS_STATE.key, Reg.NVM_STATUS_RESULT.key] was d ∧
      d.get Reg.NVM_STATUS_STATE = 3 ∧ d.get Reg.NVM_STATUS_RESULT = f ∧ d.raw 118 = true ∧ .answer 0 0 [] ∈ d.emitted) ∧
    (f = 0 → Dev.OnlyRegs [Reg.SYS_REFUSE_CODE.key, Reg.NVM_STATUS_STATE.key, Reg.NVM_STATUS_RESULT.key, Reg.NVM_STATUS_HOLD.key]
        { was with nvm := some { op := op, copy := copy, addr := was.get Reg.NVM_ADDR_VALUE, src := was.get Reg.NVM_SRC_VALUE, len := n } } d ∧
      d.get Reg.NVM_STATUS_STATE = 1 ∧ d.get Reg.NVM_STATUS_RESULT = 0 ∧ d.emitted = [.answer 0 0 []] ∧
      d.get Reg.NVM_STATUS_HOLD =
        if (op = 1 ∨ op = 2) ∧ touchesCopy (!was.pointer) (was.get Reg.NVM_ADDR_VALUE) n = true then 1 else was.get Reg.NVM_STATUS_HOLD))

/-- The prepare of this module is given up (R571): the commit is refused with code 8, TXN_PHASE.PEER names the station, and every
station that was asked is told. -/
def Dev.gaveUp (was : Dev) (p : Prepare) (peer : Nat) (d : Dev) : Prop :=
  d.preparing = none ∧ d.get Reg.TXN_PHASE_FSTATE = 4 ∧ d.get Reg.TXN_PHASE_PEER = peer % 32 ∧ d.get Reg.TXN_STATUS_STATE = 6 ∧
  d.get Reg.TXN_STATUS_CODE = 8 ∧ d.raw 3 = true ∧ d.scheds = was.scheds ∧
  ∀ x ∈ p.awaited, .fabric x 9 [4, p.sched.handle] ∈ d.emitted

/-- Commands of the supply, the reset pin, the die's trip and the TAP, and the release of outputs that a cold reset held: they act
though the device is in Off or in reset (R57, R72, R388, R589, R629). -/
def actsUnpowered (c : Instr) : Bool :=
  match c with
  | .resetNAssert _ | .resetNRelease | .coldResetOutputRelease _ | .jtagInstruction _ | .hardwareTrip
  | .vsupRangeChange _ | .powerOnReset _ | .supplyLoss _ => true
  | _ => false

/-- Commands that reach the device over the host ports or through a register (R8, R573 to R578). -/
def ofHost (c : Instr) : Bool :=
  match c with
  | .txnBegin _ | .txnCommit _ _ _ | .txnAbort _ _ | .evtRawClear _ _ _ | .registerWrite _ _ _ _ _
  | .hostRead _ _ _ _ _ | .hostWrite _ _ _ _ _ _ | .hostPost _ _ _ _ | .hostPghget _ _ _ | .hostNotify _
  | .hostRequestDenied _ _ _ _ _ | .arpRequest _ _ _ _ | .icmpEchoRequest _ _ _ _ _ | .spiWrite _ _ _ _
  | .spiRead _ _ _ _ | .spiStatus | .ethernetLinkChange _ _ _ | .peakRead _ _ | .highWordLatchRead _ _ | .nvmErase
  | .nvmProgram | .nvmRead | .nvmCheck _ | .nvmActivate _ | .nvmRelease | .dupCmdTake _ | .dupCmdSurrender
  | .dupCmdRejoin | .fabCertcmdGenerate | .fabCertcmdInstall _ | .fabCertcmdErase | .memAtomset _ | .memAtomclr _
  | .outCmdAuthok _ | .outCmdAuthno _ | .outCmdStop _ | .outCmdDisable _ | .outCmdEnable _ | .outCmdDummyrun _
  | .outStrlatchClear _ | .safAck _ | .safOutclr _ _ | .strCmdReident | .strCmdClrcnt | .auxDutyWrite _ _
  | .auxFaultClear _ _ | .canTxcmdSend _ | .canRxstatPop _ | .sysCmdWarm | .talCmdLatch | .talRecack _ | .tunCmdPluck
  | .tunCmdPluckstop | .tunCmdBow | .tunCmdBowstop | .tunCmdCapfree | .vlkIdcmdGenerate _ _ | .vlkIdcmdInstall _ _
  | .vlkIdcmdErase _ => true
  | _ => false

/-- Commands that bring an input of the main logic, which a keyholder forwards to its lodger (R477, R478). -/
def ofInput (c : Instr) : Bool :=
  match c with
  | .connectionDetected _ _ | .disconnectionDetected _ | .sessionSetupComplete _ _ _ | .contractAuthorisation _ _
  | .chargeParameters _ _ _ _ _ _ | .cableCheckRequest _ | .lockConfirmed _ | .prechargeRequest _ _
  | .powerDeliveryStart _ | .currentDemand _ _ _ | .standbyRequest _ | .resumeRequest _ | .vehicleStop _
  | .unlockComplete _ | .tieFeedbackConfirmed _ _ | .batteryOfferFrame _ _ | .upFrame _ _ _ | .canFrameReceived _ _
  | .rtdConversion _ | .flowUpdate _ | .powerPass _ _ _ _ | .t1sLinkUp _ | .t1sLinkDown _ _ | .slacParmReq _ _
  | .slacSoundingEnd _ _ | .slacMatchReq _ _ _ | .slacValidateReq _ _ _ | .v2gMessage _ _ _ => true
  | _ => false

/-- Memory in its canonical form: SRAM, of which an unlisted byte reads 0, and flash, of which one reads 0xFF. -/
def Dev.memWf (d : Dev) : Bool := tableWf 0#8 d.sram && tableWf 0xFF#8 d.flash

/-- What holds of the device between commands: PGOOD is released with the rails in regulation and the mode neither Off nor Last
gasp alone (R594); CURTAIL and its causes read 0 where they are not valid (R71); TXNOPEN follows the transaction; the live and serving outlets are
those of their sessions (R55, R107); each alert line is driven by the unmasked sources routed to it (R585); a module that drives
nothing has put nothing on a wire that its keyholder drives (R471). -/
def Dev.consistent (d : Dev) : Prop :=
  (d.get Reg.PWR_STATUS_PGOOD = 1 → d.get Reg.PWR_STATUS_RAILFLT = 0 ∧ d.saf.active.testBit 2 = false ∧ d.mode ≠ .off ∧ d.mode ≠ .lastGasp) ∧
  (d.mode.working = false → ∀ f ∈ curtailFlags, d.get f = 0) ∧
  d.get Reg.SYS_STATUS_TXNOPEN = flag d.txn.isSome ∧
  (∀ n < 16, d.bit Reg.OUT_STATUS_LIVE n = sessLive (d.sess n) ∧ d.bit Reg.OUT_STATUS_SERVING n = sessServing (d.sess n)) ∧
  (∀ j < 4, d.bit Reg.EVT_ALERT_LINES j = true ↔ ∃ e < 128, d.raw e = true ∧ d.masked e = false ∧ d.bit (Reg.EVT_ROUTE_ALERT e) j = true) ∧
  (d.drives = false → ∀ m ∈ d.emitted, m.driven = false)

end Sys2Proof.Machine
end

