-- ==== Sys2Proof/Certificates/Slice0/Obligations.lean ====
section
/-! DEFINITION. The statements for the provers: what the device's commands do, by family, and what holds of every command. -/

open Sys2Proof Sys2Proof.Machine

/-! ### The block as a whole -/

/-- A step takes the command at the front of the queue and runs it with the queue's rest. On an empty queue the block idles, which
is the model's choice (log 1). -/
def Obligations.stepTakesTheFrontCommand : Prop :=
  (∀ (c : Instr) (s : State), step { s with pending := c :: s.pending } = exec c s) ∧
  (∀ (c : Instr) (rest : List Instr) (s : State), s.pending = c :: rest → step s = exec c { s with pending := rest }) ∧
  (∀ s : State, s.pending = [] → step s = .next s)

/-- No command touches the queue. A command gives no next state in two cases alone: a supply beyond the absolute maximum ratings,
above 36 V or reversed by more than 32 V (R589, R633), and the end of Boot in vendor test, which lies outside the manual (R96). In
Off only the supply, the reset pin, the die's trip and the TAP act (R57, R72); in Last gasp no host command does (R427); and a
lodger that its keyholder feeds does not act on its own inputs (R478). -/
def Obligations.commandsActOnlyWhereTheyMay : Prop :=
  (∀ (c : Instr) (s t : State), exec c s = .next t → t.pending = s.pending) ∧
  (∀ (c : Instr) (s : State), exec c s = .fault .absMaxExceeded ↔
    ∃ mv : Int, (36000 < mv ∨ mv < -32000) ∧ (c = .powerOnReset mv ∨ c = .supplyLoss mv ∨ c = .vsupRangeChange mv)) ∧
  (∀ (c : Instr) (s : State), exec c s = .refused .vendorTest ↔
    s.dev.mode = .boot ∧ s.dev.vendorTest = true ∧ s.dev.resetLow = false ∧ ∃ mib octal fb host mram, c = .bootComplete mib octal fb host mram) ∧
  (∀ (c : Instr) (s : State), exec c s ≠ .fault .absMaxExceeded → exec c s ≠ .refused .vendorTest → goesOn (exec c s) = true) ∧
  (∀ (c : Instr) (s : State), s.dev.mode = .off → actsUnpowered c = false →
    Completes c s fun d => Dev.OnlyRegs [] s.dev d ∧ d.emitted = []) ∧
  (∀ (c : Instr) (s : State), s.dev.mode = .lastGasp → ofHost c = true →
    Completes c s fun d => Dev.OnlyRegs [] s.dev d ∧ d.emitted = []) ∧
  (∀ (c : Instr) (s : State), s.dev.stopped = false → s.dev.fed = true → ofInput c = true →
    Completes c s fun d => Dev.OnlyRegs [] s.dev d ∧ d.emitted = [])

/-- Right after a power-on reset: Boot (R57, R72); registers at their Reset column (R13), every bank Off, every course in no arc,
the core rail at 0.90 V; no transaction, no session, no command waiting; the memory in its canonical form, and the device
consistent. That SRAM and flash list nothing is the model's choice (log 7, log 8). -/
def Obligations.resetIsConsistent : Prop :=
  State.reset.pending = [] ∧ State.reset.dev.mode = .boot ∧ State.reset.dev.get Reg.SYS_RESETCAUSE_KIND = 0 ∧ State.reset.dev.txn = none ∧
  (∀ b < 64, State.reset.dev.bankPwr b = 2 ∧ State.reset.dev.owner b = 0) ∧ (∀ c < 16, State.reset.dev.get (Reg.INK_COURSE_ARC c) = 31) ∧
  State.reset.dev.get Reg.PRS_DEVSTAT_RAIL = 40 ∧ (∀ e < 128, State.reset.dev.raw e = false) ∧ (∀ n < 16, State.reset.dev.sess n = 0) ∧
  State.reset.dev.memWf = true ∧ State.reset.dev.consistent

/-- DECODE AND ENCODE AGREE, for every frame of the cell link (R186 to R190, R201): a conforming cell reads from a down frame that
the device encodes exactly its fields, for every TYPE of R189 with a drive field and every value of the fields; the device reads
from an up frame exactly its fields; and neither reads anything else than what some frame encodes. -/
def Obligations.cellFramesDecodeAsEncoded : Prop :=
  (∀ f : DownFrame, f.fits = true → (f.typ = 1 ∨ f.typ = 2 ∨ f.typ = 4 ∨ f.typ = 5 ∨ f.typ = 6) → decodeDown f.encode = some f) ∧
  (∀ w f, decodeDown w = some f → f.fits = true ∧ f.encode = w) ∧
  (∀ f : UpFrame, f.fits = true → decodeUp f.encode = some f ∧ f.encode < 2 ^ 104) ∧
  (∀ w f, decodeUp w = some f → f.fits = true ∧ f.encode = w)

/-- EVERY STEP KEEPS THE DEVICE CONSISTENT, from any state that is, reachable or not; and after any command PGOOD follows the
rails and the mode exactly (R55, R71, R107, R471, R585, R594). -/
def Obligations.everyStepKeepsTheDeviceConsistent : Prop :=
  (∀ s t : State, s.dev.consistent → step s = .next t → t.dev.consistent) ∧
  (∀ (c : Instr) (s t : State), exec c s = .next t → t.dev.get Reg.PWR_STATUS_PGOOD = flag t.dev.pgood)

/-! ### Resets and modes -/

/-- POWER_ON_RESET, RESET_N_ASSERT, RESET_N_RELEASE (R72, R73, R77, R57): which state they leave, from which modes they act. -/
def Obligations.resetsTakeTheDeviceToBoot : Prop :=
  (∀ (s : State) (mv : Int), s.dev.mode = .off → beyondAbsMax mv = false →
    Completes (.powerOnReset mv) s fun d =>
      d.mode = .boot ∧ d.get Reg.SYS_RESETCAUSE_KIND = 0 ∧ d.raw 1 = true ∧ d.sram = [] ∧ d.flash = s.dev.flash ∧ d.txn = none) ∧
  (∀ (s : State) (ns : Nat), s.dev.mode ≠ .off → s.dev.mode ≠ .lastGasp → s.dev.resetLow = false → 10000 ≤ ns →
    Completes (.resetNAssert ns) s fun d =>
      d.mode = .boot ∧ d.resetLow = true ∧ d.get Reg.SYS_RESETCAUSE_KIND = 1 ∧ d.raw 1 = true ∧ d.flash = s.dev.flash ∧ d.txn = none) ∧
  (∀ (s : State) (ns : Nat), ns < 1000 →
    Completes (.resetNAssert ns) s fun d => Dev.OnlyRegs [] s.dev d) ∧
  (∀ s : State, Completes .resetNRelease s fun d => Dev.OnlyRegs [] { s.dev with resetLow := false } d)

/-- BOOTSEL_SAMPLE, BOOT_COMPLETE, SELFTEST_COMPLETE (R57, R59, R96): Boot with an erased flash ends in Recovery; with a copy it
ends in Selftest, Safe hold or Recovery; a failed Selftest ends in Recovery, and none stays in Selftest. -/
def Obligations.bootAndSelftestLeadOn : Prop :=
  (∀ (s : State) (code : BitVec 3) (testN : Bool), s.runs → s.dev.mode = .boot → s.dev.internalCold = false →
    Completes (.bootselSample code testN) s fun d =>
      Dev.OnlyRegs [] { s.dev with bootsel := code.toNat, testN := testN } d) ∧
  (∀ (s : State) (mib : BitVec 16) (octal : Bool) (fb : BitVec 16) (host : Fin 64) (mram : MramReport), s.runs →
    s.dev.mode = .boot → s.dev.vendorTest = false →
    Completes (.bootComplete mib octal fb host mram) s fun d =>
      (d.mode = .selftest ∨ d.mode = .safeHold ∨ d.mode = .recovery) ∧ (s.dev.flash = [] → d.mode = .recovery) ∧
      (mram.rewritten ≠ [] → d.raw 26 = true) ∧ (mram.lost ≠ [] → d.raw 27 = true ∧ 0 < d.get Reg.MEM_MRAMSTAT_LOST)) ∧
  (∀ (s : State) (r : SelftestReport), s.runs → s.dev.mode = .selftest →
    Completes (.selftestComplete r) s fun d =>
      (d.mode = .recovery ∨ d.mode = .safeHold ∨ d.mode = .commission ∨ d.mode = .standby ∨ d.mode = .idle) ∧
      (r.checker = false ∨ r.images = false ∨ r.island = false → d.mode = .recovery))

/-- SUPPLY_LOSS and LAST_GASP_COMPLETE (R57, R70): to Last gasp; to Off where RESET_N is low; out of Last gasp to Off, or to Boot
as a cold reset where VSUP is back at 15.5 V. -/
def Obligations.supplyLossTakesTheDeviceDown : Prop :=
  (∀ (s : State) (mv : Int), beyondAbsMax mv = false → s.dev.mode ≠ .off → s.dev.mode ≠ .lastGasp → s.dev.resetLow = false →
    Completes (.supplyLoss mv) s fun d =>
      d.mode = .lastGasp ∧ d.get Reg.PWR_STATUS_PGOOD = 0 ∧ d.get Reg.DUP_STATUS_LANES = 0 ∧
      (∀ p < 6, d.get (Reg.FAB_PORT_STATE p) = 0) ∧ (∀ p < 2, d.get (Reg.HST_STAT_LINK p) = 0)) ∧
  (∀ (s : State) (mv : Int), beyondAbsMax mv = false → s.dev.mode ≠ .off → s.dev.mode ≠ .lastGasp → s.dev.resetLow = true →
    Completes (.supplyLoss mv) s fun d => d.mode = .off ∧ d.get Reg.AUX_ON_LO_BITS = 0 ∧ d.get Reg.AUX_ON_HI_BITS = 0) ∧
  (∀ (s : State) (mv e2 e3 : Nat), s.runs → s.dev.mode = .lastGasp →
    Completes (.lastGaspComplete mv e2 e3) s fun d =>
      (mv < 15500 → d.mode = .off) ∧
      (15500 ≤ mv → d.mode = .boot ∧ d.get Reg.SYS_RESETCAUSE_KIND = 2 ∧ d.coldHold = []))

/-- SYS_CMD_WARM, WARM_RESTART_DONE, STEWARD_WATCHDOG, STEWARD_FETCH_TRAP (R75, R76, R85 to R87, R535): the open transaction ends,
the cause is recorded, EV001 is raised; once the stewards have restarted each session resumes from its checkpoint (R35); in Boot,
Selftest, Thermal shutdown and Recovery a warm reset is refused with code 3, and in Last gasp, which powers the host ports down,
it has no effect. -/
def Obligations.stewardsRestart : Prop :=
  (∀ s : State, s.serves → s.dev.warming = false →
    s.dev.mode ≠ .boot → s.dev.mode ≠ .selftest → s.dev.mode ≠ .thermal → s.dev.mode ≠ .recovery →
    Completes .sysCmdWarm s fun d =>
      d.warming = true ∧ d.txn = none ∧ d.get Reg.SYS_RESETCAUSE_KIND = 3 ∧ d.raw 1 = true ∧ d.mode = s.dev.mode ∧
      d.sram = s.dev.sram ∧ d.flash = s.dev.flash) ∧
  (∀ s : State, s.runs → (s.dev.mode = .boot ∨ s.dev.mode = .selftest ∨ s.dev.mode = .thermal ∨ s.dev.mode = .recovery) →
    Completes .sysCmdWarm s fun d =>
      Dev.OnlyRegs [Reg.SYS_REFUSE_CODE.key, Reg.SYS_REFUSE_ADDR.key] s.dev d ∧ d.get Reg.SYS_REFUSE_CODE = 3 ∧
      d.get Reg.SYS_REFUSE_ADDR = 0x10 ∧ d.emitted = [.answer (statusOf 3) 3 []]) ∧
  (∀ s : State, s.runs → s.dev.mode = .lastGasp → Completes .sysCmdWarm s fun d => Dev.OnlyRegs [] s.dev d ∧ d.emitted = []) ∧
  (∀ s : State, s.runs → s.dev.warming = false → Completes .warmRestartDone s fun d => Dev.OnlyRegs [] s.dev d) ∧
  (∀ s : State, s.runs → s.dev.warming = true →
    Completes .warmRestartDone s fun d =>
      Dev.OnlyRegs ((List.range 16).flatMap fun n => [(Reg.OUT_SESS_PROTO n).key, (Reg.OUT_EVMAX_VMAX n).key, (Reg.OUT_EVMAX_IMAX n).key])
        { s.dev with warming := false, outs := d.outs } d ∧
      ∀ n : Fin 16, s.dev.resumed n.val d) ∧
  (∀ (s : State) (k : Fin 8), s.runs → s.dev.warming = false → s.dev.mode ≠ .boot → s.dev.mode ≠ .lastGasp →
    Completes (.stewardWatchdog k) s fun d =>
      d.txn = none ∧ d.get Reg.SYS_RESETCAUSE_KIND = 4 ∧ d.get Reg.SYS_RESETCAUSE_STEWARD = k.val ∧ d.raw 1 = true ∧
      d.mode = s.dev.mode ∧ d.sram = s.dev.sram ∧ d.flash = s.dev.flash) ∧
  (∀ (s : State) (k : Fin 8) (bank : Fin 64) (word : Fin 32768) (synd : BitVec 8), s.runs → s.dev.warming = false →
    s.dev.mode ≠ .boot → s.dev.mode ≠ .lastGasp →
    Completes (.stewardFetchTrap k bank word synd) s fun d =>
      d.txn = none ∧ d.get Reg.SYS_RESETCAUSE_KIND = 4 ∧ d.get Reg.SYS_RESETCAUSE_STEWARD = k.val ∧ d.raw 25 = true ∧ d.raw 1 = true ∧
      d.mode = s.dev.mode)

/-- PERIOD_BOUNDARY (R39, R51, R57, R58): device time passes; where the main logic opened the period its number moves on by one,
modulo 2⁶⁴; where it did not, and the check waits, nothing but time moves; where the check does not wait, it is a device-wide
demand, and the device is in Safe hold at once from every mode that a demand takes there. -/
def Obligations.periodBoundaryCounts : Prop :=
  (∀ (s : State) (ns fabric ticks : Nat) (mm : BitVec 16), s.runs → s.dev.mode ≠ .lastGasp → s.dev.saf.ack = false →
    Completes (.periodBoundary true ns fabric ticks mm) s fun d =>
      d.now = s.dev.now + ns ∧ d.period = (s.dev.period + 1) % 2 ^ 64 ∧ d.saf.trig = 0) ∧
  (∀ (s : State) (ns fabric ticks : Nat) (mm : BitVec 16), s.runs → s.dev.saf.ack = false → s.dev.saf.exempt = true →
    Completes (.periodBoundary false ns fabric ticks mm) s fun d =>
      d.now = s.dev.now + ns ∧ d.period = s.dev.period) ∧
  (∀ (s : State) (ns fabric ticks : Nat) (mm : BitVec 16), s.runs → s.dev.saf.ack = false → s.dev.saf.exempt = false →
    Completes (.periodBoundary false ns fabric ticks mm) s fun d =>
      d.now = s.dev.now + ns ∧ d.period = s.dev.period ∧ d.bit Reg.SAF_STATUS_DEVCAUSE 5 = true ∧ d.allSafe ∧
      (s.dev.mode = .boot ∨ s.dev.mode = .selftest ∨ s.dev.mode = .commission ∨ s.dev.mode.working = true → d.mode = .safeHold))

/-- CANARY_MEASUREMENT, CANARY_STALL, CORE_RAIL_UNDERVOLTAGE, TB0_LOSS, TIMEBASE_CHECK, TB9_REFERENCE_LOSS (R23, R25, R27, R30,
R32, R625): the path delay is read from the laps, all ones where none were counted; the rail then goes to 0.90 V, but for one that
the device budget has lowered, which stands below its target (R26); a stalled ring holds the rail at 0.90 V with EV007; the fault
bit of each timebase follows its reference, TB10 within 5 % of 16 MHz and TB11 within 5 % of 2 MHz; an undervoltage, the loss of
TB0, or an oscillator out of its tolerance is a device-wide demand. -/
def Obligations.canaryRailAndTimebases : Prop :=
  ((∀ (s : State) (laps : Nat), s.runs →
    Completes (.canaryMeasurement laps) s fun d =>
      d.get Reg.PRS_DEVSTAT_PATH_NS =
        (if laps = 0 then 65535 else min (quot (10000 * s.dev.get Reg.PRS_CANARY_SCALE) (4096 * laps)).toNat 65535) ∧
      (s.dev.get Reg.PRS_DEVSTAT_HELD = 0 → laps = 0 → (s.dev.purse.shedWork.any fun w => w.1 = 4) = false →
        d.get Reg.PRS_DEVSTAT_RAIL = 40 ∧ d.get Reg.PRS_DEVSTAT_BELOW_TARGET ≠ 1) ∧
      (s.dev.get Reg.PRS_DEVSTAT_HELD = 0 → laps = 0 → (s.dev.purse.shedWork.any fun w => w.1 = 4) = true →
        d.get Reg.PRS_DEVSTAT_RAIL = s.dev.get Reg.PRS_DEVSTAT_RAIL ∧ d.get Reg.PRS_DEVSTAT_BELOW_TARGET = 1)) ∧
  (∀ s : State, s.runs →
    Completes .canaryStall s fun d =>
      d.get Reg.PRS_DEVSTAT_RAIL = 40 ∧ d.get Reg.PRS_DEVSTAT_HELD = 1 ∧ d.get Reg.PRS_DEVSTAT_BELOW_TARGET = 0 ∧
      (s.dev.get Reg.PRS_DEVSTAT_HELD = 0 → d.raw 7 = true)) ∧
  (∀ s : State, s.dev.mode ≠ .off →
    Completes .coreRailUndervoltage s fun d => d.bit Reg.SAF_STATUS_DEVCAUSE 2 = true ∧ d.saf.trig.testBit 2 = true ∧ d.saf.active.testBit 2 = true ∧ d.allSafe ∧
      d.get Reg.PWR_STATUS_PGOOD = 0)) ∧
  ((∀ (s : State) (lost : Bool), s.dev.mode ≠ .off →
    Completes (.tb0Loss lost) s fun d =>
      (∀ n ∈ [0, 1, 3, 4, 5, 6, 7, 8], d.bit Reg.TB_STATUS_FAULT n = lost) ∧ d.saf.active.testBit 3 = lost ∧ (lost = true → d.bit Reg.SAF_STATUS_DEVCAUSE 3 = true)) ∧
  (∀ (s : State) (f10 f11 : Nat), s.dev.mode ≠ .off →
    Completes (.timebaseCheck f10 f11) s fun d =>
      d.get Reg.TB_TB10_MEAS_FREQ = min f10 (2 ^ 24 - 1) ∧
      d.bit Reg.TB_STATUS_FAULT 10 = !decide (15200000 ≤ f10 ∧ f10 ≤ 16800000) ∧
      d.bit Reg.TB_STATUS_FAULT 11 = !decide (1900000 ≤ f11 ∧ f11 ≤ 2100000) ∧
      (¬(15200000 ≤ f10 ∧ f10 ≤ 16800000) ∨ ¬(1900000 ≤ f11 ∧ f11 ≤ 2100000) → d.bit Reg.SAF_STATUS_DEVCAUSE 4 = true)) ∧
  (∀ (s : State) (lost : Bool), s.runs →
    Completes (.tb9ReferenceLoss lost) s fun d => d.bit Reg.TB_STATUS_FAULT 9 = lost))

/-- ENABLE_LINE_TIMEOUT, COLD_RESET_OUTPUT_RELEASE, JTAG_INSTRUCTION (R17, R79, R629): one safe output goes off; the two outputs of
an outlet that a cold reset held go off; an instruction that acts on the balls is honoured in Blank and Decommissioned alone. -/
def Obligations.outputsReleaseAndTap : Prop :=
  (∀ (s : State) (j : Fin 32), s.dev.mode ≠ .off →
    Completes (.enableLineTimeout j) s fun d =>
      Dev.OnlyRegs [Reg.SAF_SOUTSTAT_BITS.key] s.dev d ∧ d.bit Reg.SAF_SOUTSTAT_BITS j.val = false ∧
      ∀ i < 32, i ≠ j.val → d.bit Reg.SAF_SOUTSTAT_BITS i = s.dev.bit Reg.SAF_SOUTSTAT_BITS i) ∧
  (∀ (s : State) (n : Fin 16), s.dev.coldHold.contains n.val = true →
    Completes (.coldResetOutputRelease n) s fun d =>
      d.soutOn n.val = false ∧ d.coldHold.contains n.val = false ∧
      ∀ m : Fin 16, m ≠ n → d.soutOn m.val = s.dev.soutOn m.val) ∧
  (∀ (s : State) (i : Jtag), Completes (.jtagInstruction i) s fun d =>
      Dev.OnlyRegs [] { s.dev with jtag := if i.restricted && !decide (s.dev.lifecycle = 0 ∨ s.dev.lifecycle = 3) then .bypass else i } d ∧
      (i = .idcode → d.emitted = [.jtag (s.dev.word 0x40000000 ||| 1)]))

/-! ### Strings and the cell link -/

/-- UP_FRAME (R201, R202, R215): a frame whose symbols, preamble or CRC fail is counted and nothing else of it is kept; a valid
frame shows its STATE and STATUS, and a measuring frame is the string's newest measurement. -/
def Obligations.upFramesAreCheckedAndKept : Prop :=
  (∀ (s : State) (str : Fin 64) (w : BitVec 104) (ok : Bool), s.hears → s.dev.present str.val = true →
    (ok = false ∨ decodeUp w.toNat = none) →
    Completes (.upFrame str w ok) s fun d =>
      Dev.OnlyRegs [(Reg.STR_STRERR_CRCERR str.val).key] (s.dev.modStr str.val fun x => { x with heard := true }) d ∧
      d.get (Reg.STR_STRERR_CRCERR str.val) = min (s.dev.get (Reg.STR_STRERR_CRCERR str.val) + 1) 65535) ∧
  (∀ (s : State) (str : Fin 64) (w : BitVec 104) (f : UpFrame), s.hears → s.dev.present str.val = true →
    decodeUp w.toNat = some f → f.typ ≠ 5 → f.typ ≠ 6 → (s.dev.str str.val).thermHold = false →
    Completes (.upFrame str w true) s fun d =>
      d.get (Reg.STR_STRSTAT_CELLSTATE str.val) = f.state ∧
      d.get (Reg.STR_STRSTAT_STATUS str.val) = f.status % 2 ^ (Reg.STR_STRSTAT_STATUS str.val).width ∧
      (d.str str.val).up = f ∧ (d.str str.val).heard = true ∧
      (d.str str.val).fresh = decide (f.seq = (s.dev.str str.val).expect) ∧
      (∀ r, r ≠ str.val → d.str r = s.dev.str r) ∧
      d.get (Reg.STR_STRERR_CRCERR str.val) = s.dev.get (Reg.STR_STRERR_CRCERR str.val) ∧
      d.sram = s.dev.sram ∧ d.flash = s.dev.flash ∧ d.mode = s.dev.mode)

/-- DOWN_FRAME_START (R188, R192, R214): every string that has a frame due gets that frame; its SEQ moves on by one, modulo 16, but
for BLOCK; a string with none keeps its state. -/
def Obligations.downFramesCarryTheirSequence : Prop :=
  ∀ s : State, s.runs → s.dev.drives = true → (s.dev.duplex && s.dev.dup.dnOff) = false →
    Completes .downFrameStart s fun d =>
      (∀ str < 64, ∀ f, s.dev.frameFor str = some f → f.typ ≠ 3 →
        (d.str str).seq = ((s.dev.str str).seq + 1) % 16 ∧ (d.str str).inflight = f.typ ∧
        .down str { f with seq := ((s.dev.str str).seq + 1) % 16 } ∈ d.emitted) ∧
      (∀ str < 64, ∀ f, s.dev.frameFor str = some f → f.typ = 3 →
        (d.str str).seq = (s.dev.str str).seq ∧ .down str f ∈ d.emitted) ∧
      (∀ str < 64, s.dev.frameFor str = none → d.str str = s.dev.str str) ∧
      Dev.OnlyRegs [] { s.dev with strs := d.strs } d

/-- BLOCK_DEMAND (R197, R199, R249): the arc is held, the outlet's slot and those of the arc's strings are HELD, and where the
mode drives the cell link every present string of the arc gets an abort gap and a BLOCK frame, which is counted. -/
def Obligations.blockHoldsTheArc : Prop :=
  ∀ (s : State) (n : Fin 16), s.runs → s.dev.drives = true → (s.dev.duplex && s.dev.dup.dnOff) = false →
    Completes (.blockDemand n) s fun d =>
      d.bit Reg.STR_BLOCKSTAT_HELD n.val = true ∧
      d.get (Reg.TUN_SSTAT_STATE n.val) = 3 ∧ d.get (Reg.TUN_OUT_VALUE n.val) = 0 ∧ (d.slot n.val).i = 0 ∧ (d.slot n.val).vi = 0 ∧
      (∀ str ∈ s.dev.arcStrings n.val, d.get (Reg.TUN_SSTAT_STATE (16 + str)) = 3 ∧ d.get (Reg.TUN_OUT_VALUE (16 + str)) = 0 ∧
        ((s.dev.mode.drivesLink || s.dev.mode.blockOnly) = true → s.dev.present str = true →
          (d.str str).inflight = 3 ∧ .abortGap str ∈ d.emitted ∧ .down str blockFrame ∈ d.emitted)) ∧
      d.get Reg.STR_BLOCKSTAT_COUNT =
        (if (s.dev.mode.drivesLink || s.dev.mode.blockOnly) = true ∧ (s.dev.arcStrings n.val).any s.dev.present = true
          then min (s.dev.get Reg.STR_BLOCKSTAT_COUNT + 1) 65535 else s.dev.get Reg.STR_BLOCKSTAT_COUNT) ∧
      (∀ m < 16, m ≠ n.val → d.bit Reg.STR_BLOCKSTAT_HELD m = s.dev.bit Reg.STR_BLOCKSTAT_HELD m) ∧
      d.mode = s.dev.mode ∧ d.sram = s.dev.sram ∧ d.flash = s.dev.flash

/-- STRING_FAULT and STRING_RECOVERY (R217, R218, R316 to R318): a fault sets the string's bit, takes it out of use, marks its arc
for the next control-period boundary and raises EV048 + ⌊s / 8⌋; recovery, of a fault or after the host cleared its latch, counts
a retry and identifies the string anew; the fourth in an hour latches it; while a thermal latch freezes its counter nothing is
counted. -/
def Obligations.stringsFaultAndRecover : Prop :=
  (∀ (s : State) (str : Fin 64), s.runs → s.dev.stringFails str.val = true → s.dev.inkState str.val ≠ 5 →
    s.dev.get (Reg.STR_STRSTAT_FAULT str.val) = 0 →
    Completes (.stringFault str) s fun d =>
      d.get (Reg.STR_STRSTAT_FAULT str.val) = 1 ∧ d.bit2 Reg.STR_FAULT_LO_FAULT Reg.STR_FAULT_HI_FAULT str.val = true ∧
      (s.dev.inkState str.val ≠ 7 → d.inkState str.val = 4) ∧ d.healthy str.val = false ∧
      d.str str.val = { s.dev.str str.val with staged := none, validRun := 0, identDue := 0 } ∧
      (s.dev.courseArc (str.val / 4) < 16 → d.arcDirty.testBit (s.dev.courseArc (str.val / 4)) = true) ∧
      (∀ r : Fin 64, r ≠ str → d.inkState r.val = s.dev.inkState r.val ∧
        d.get (Reg.STR_STRSTAT_FAULT r.val) = s.dev.get (Reg.STR_STRSTAT_FAULT r.val)) ∧
      d.raw (48 + str.val / 8) = true ∧ d.mode = s.dev.mode) ∧
  (∀ (s : State) (str : Fin 64), s.runs →
    (s.dev.get (Reg.STR_STRSTAT_FAULT str.val) = 1 ∨ (s.dev.str str.val).readmit = true) → s.dev.inkState str.val ≠ 5 →
    64 ≤ (s.dev.str str.val).validRun → ((s.dev.str str.val).up.state = 1 ∨ (s.dev.str str.val).up.state = 6) →
    (s.dev.str str.val).up.fault = false → s.dev.get (Reg.OUT_STRCNT_FROZEN str.val) = 0 →
    Completes (.stringRecovery str) s fun d =>
      ((s.dev.str str.val).retries.length < 3 →
        d.get (Reg.STR_STRSTAT_FAULT str.val) = 0 ∧ d.bit2 Reg.STR_FAULT_LO_FAULT Reg.STR_FAULT_HI_FAULT str.val = false ∧
        d.inkState str.val = 0 ∧ d.get (Reg.STR_STRSTAT_IDOK str.val) = 0 ∧
        d.get (Reg.OUT_STRCNT_COUNT str.val) = (s.dev.str str.val).retries.length + 1 ∧ (d.str str.val).identDue = 127 ∧
        (d.str str.val).retries = (s.dev.str str.val).retries ++ [(s.dev.str str.val).clock] ∧ (d.str str.val).readmit = false) ∧
      (3 ≤ (s.dev.str str.val).retries.length →
        Dev.OnlyRegs [Reg.OUT_STRLATCH_LO_LATCH.key, Reg.OUT_STRLATCH_HI_LATCH.key, (Reg.OUT_STRCNT_LATCHED str.val).key,
          (Reg.INK_STRING_STATE str.val).key] s.dev d ∧
        d.bit2 Reg.OUT_STRLATCH_LO_LATCH Reg.OUT_STRLATCH_HI_LATCH str.val = true ∧
        d.get (Reg.OUT_STRCNT_LATCHED str.val) = 1 ∧ d.inkState str.val = 5)) ∧
  (∀ (s : State) (str : Fin 64), s.runs → s.dev.get (Reg.OUT_STRCNT_FROZEN str.val) = 1 →
    Completes (.stringRecovery str) s fun d =>
      (d.str str.val).retries = (s.dev.str str.val).retries ∧ d.inkState str.val = s.dev.inkState str.val ∧
      d.get (Reg.OUT_STRCNT_COUNT str.val) = s.dev.get (Reg.OUT_STRCNT_COUNT str.val))

/-- STR_CMD_REIDENT and STR_CMD_CLRCNT (R49, R207, STR_CMD): a new identification waits for the next control-period boundary, in
the order of the host's commands; every error counter reads 0. Both answer OK, in every mode that serves the host. -/
def Obligations.stringCommandsAct : Prop :=
  (∀ s : State, s.serves →
    Completes .strCmdReident s fun d =>
      Dev.OnlyRegs [Reg.SYS_REFUSE_CODE.key] { s.dev with hostNext := s.dev.hostNext ++ [.reident] } d ∧ d.emitted = [.answer 0 0 []]) ∧
  (∀ s : State, s.serves →
    Completes .strCmdClrcnt s fun d =>
      (∀ str < 64, d.get (Reg.STR_STRERR_CRCERR str) = 0 ∧ d.get (Reg.STR_STRERR_MISSING str) = 0) ∧
      Dev.OnlyRegs (Reg.SYS_REFUSE_CODE.key :: (List.range 64).flatMap fun str =>
        [(Reg.STR_STRERR_CRCERR str).key, (Reg.STR_STRERR_MISSING str).key]) s.dev d ∧ d.emitted = [.answer 0 0 []])

/-- SYNC_IN_EDGE, SYNC_IN_MISSING, GLIDE_COMPLETE, RELOCK_COMPLETE (R221 to R223, R473): the four states of TB2's
source; a keyholder takes no SYNC_IN. -/
def Obligations.interleaveSyncMovesThroughItsStates : Prop :=
  (∀ (s : State) (interval : Nat) (ph : Int), s.runs → s.dev.get Reg.TB_TB2CFG_SRC ≠ 0 →
    (s.dev.duplex && s.dev.drives) = false → s.dev.syncInRate interval = false →
    (s.dev.get Reg.TB_TB2STAT_MISSED < 2 ∨ s.dev.get Reg.TB_TB2STAT_STATE = 0 ∨ s.dev.get Reg.TB_TB2STAT_STATE = 2) →
    Completes (.syncInEdge interval ph) s fun d =>
      Dev.OnlyRegs [Reg.TB_TB2STAT_MISSED.key] { s.dev with syncGood := 0, syncNear := 0 } d ∧
      d.get Reg.TB_TB2STAT_MISSED = min (s.dev.get Reg.TB_TB2STAT_MISSED + 1) 15) ∧
  (∀ (s : State) (interval : Nat) (ph : Int), s.runs → s.dev.get Reg.TB_TB2CFG_SRC ≠ 0 →
    (s.dev.duplex && s.dev.drives) = false → s.dev.syncInRate interval = true →
    Completes (.syncInEdge interval ph) s fun d =>
      d.get Reg.TB_TB2STAT_MISSED = 0 ∧ d.get Reg.TB_TB2STAT_PHASE_ERR = ofSigned 16 ph ∧ d.syncGood = s.dev.syncGood + 1 ∧
      ((s.dev.get Reg.TB_TB2STAT_STATE = 0 ∨ s.dev.get Reg.TB_TB2STAT_STATE = 2) → 3 ≤ s.dev.syncGood →
        d.get Reg.TB_TB2STAT_STATE = 3 ∧ d.raw 6 = true) ∧
      (s.dev.get Reg.TB_TB2STAT_STATE = 1 ∨ s.dev.get Reg.TB_TB2STAT_STATE = 3 →
        d.get Reg.TB_TB2STAT_STATE = s.dev.get Reg.TB_TB2STAT_STATE) ∧
      (s.dev.get Reg.TB_TB2STAT_STATE = 3 → d.syncNear = if -65 ≤ ph ∧ ph ≤ 65 then s.dev.syncNear + 1 else 0)) ∧
  (∀ (s : State) (interval : Nat) (ph : Int), s.runs → (s.dev.duplex && s.dev.drives) = true →
    Completes (.syncInEdge interval ph) s fun d => Dev.OnlyRegs [] s.dev d) ∧
  (∀ s : State, s.runs → s.dev.get Reg.TB_TB2CFG_SRC ≠ 0 → 2 ≤ s.dev.get Reg.TB_TB2STAT_MISSED →
    (s.dev.get Reg.TB_TB2STAT_STATE = 1 ∨ s.dev.get Reg.TB_TB2STAT_STATE = 3) →
    Completes .syncInMissing s fun d =>
      Dev.OnlyRegsAndEvents [Reg.TB_TB2STAT_MISSED.key, Reg.TB_TB2STAT_STATE.key] { s.dev with syncGood := 0, syncNear := 0 } d ∧
      d.get Reg.TB_TB2STAT_STATE = 2 ∧ d.get Reg.TB_TB2STAT_MISSED = min (s.dev.get Reg.TB_TB2STAT_MISSED + 1) 15 ∧ d.raw 6 = true) ∧
  (∀ s : State, s.runs → s.dev.get Reg.TB_TB2STAT_STATE = 2 →
    Completes .glideComplete s fun d => Dev.OnlyRegs [Reg.TB_TB2STAT_STATE.key] s.dev d ∧ d.get Reg.TB_TB2STAT_STATE = 0) ∧
  (∀ s : State, s.runs → s.dev.get Reg.TB_TB2STAT_STATE = 3 → 16 ≤ s.dev.syncNear →
    Completes .relockComplete s fun d => Dev.OnlyRegs [Reg.TB_TB2STAT_STATE.key] s.dev d ∧ d.get Reg.TB_TB2STAT_STATE = 1)

/-- SENSE_LOSS, TELEMETRY_WINDOW_END, PEAK_READ, HIGH_WORD_LATCH_READ (R8, R225, R226, R228 to R230): the lost bit follows the
condition, and a live outlet falls back to its metering input from the next control-period boundary, plausibility judged by the
device's own values and only while both contactors read closed; the averages are those of the window and a new window begins, at a
multiple of 2^K periods alone; a read of a maximum restarts it; a read of TB_TIME_LO latches the high word; an access narrower
than 32 bits fails. How an average rounds is a free value of the model (log 13). -/
def Obligations.senseFallsBackAndTelemetryLatches : Prop :=
  ((∀ (s : State) (n : Fin 16) (kind : Fin 3), s.runs → s.dev.senseJudged n.val kind.val = true →
    (kind.val = 2 → s.dev.implausible n.val = true) → (s.dev.out n.val).senseBad.testBit kind.val = false →
    Completes (.senseLoss n kind true) s fun d =>
      d.bit Reg.STR_SENSE_LOST n.val = true ∧ d.get (Reg.OUT_EVCAUSE_SENSE n.val) = 1 ∧ d.raw (32 + n.val) = true ∧
      (d.out n.val).senseBad.testBit kind.val = true ∧
      (d.out n.val).fallNext = (s.dev.live n.val || (s.dev.out n.val).fallNext) ∧
      d.get Reg.STR_SENSE_FALLBACK = s.dev.get Reg.STR_SENSE_FALLBACK) ∧
  (∀ (s : State) (n : Fin 16) (kind : Fin 3), s.runs → s.dev.senseJudged n.val kind.val = true →
    (kind.val = 2 → s.dev.implausible n.val = false) →
    Completes (.senseLoss n kind false) s fun d =>
      Dev.OnlyRegs [Reg.STR_SENSE_LOST.key]
        (s.dev.modOut n.val fun o => { o with senseBad := withBit o.senseBad kind.val false }) d ∧
      d.bit Reg.STR_SENSE_LOST n.val = decide (withBit (s.dev.out n.val).senseBad kind.val false ≠ 0) ∧
      ∀ m < 16, m ≠ n.val → d.bit Reg.STR_SENSE_LOST m = s.dev.bit Reg.STR_SENSE_LOST m)) ∧
  ((∀ s : State, s.runs → s.dev.windowDue = false → Completes .telemetryWindowEnd s fun d => Dev.OnlyRegs [] s.dev d) ∧
  (∀ s : State, s.runs → s.dev.windowDue = true →
    Completes .telemetryWindowEnd s fun d =>
      (∀ str < 64, d.get (Reg.STR_TELAVG_VALUE str 0) = ofSigned 32 (avg (s.dev.str str).sumV (s.dev.str str).winN) ∧
        d.get (Reg.STR_TELAVG_VALUE str 1) = ofSigned 32 (avg (s.dev.str str).sumI (s.dev.str str).winN) ∧
        d.get (Reg.STR_TELAVG_VALUE str 2) = ofSigned 32 (avg (s.dev.str str).sumP (s.dev.str str).winN) ∧
        d.get (Reg.STR_TELAVG_VALUE str 3) = ofSigned 32 (avg (s.dev.str str).sumT (s.dev.str str).winN) ∧
        (d.str str).winN = 0 ∧ (d.str str).sumV = 0) ∧
      (∀ n < 16, ∀ q < 4, d.get (Reg.STR_OUTAVG_VALUE n q) = ofSigned 32 (avg ((s.dev.outTel n).sums.getD q 0) (s.dev.outTel n).n)) ∧
      (∀ n < 16, (d.outTel n).n = 0) ∧ d.telWin = s.dev.period) ∧
  (∀ (s : State) (agent : Fin 3) (str : Fin 64) (q : Fin 4), s.serves → s.dev.txn = none →
    tget none s.dev.hiLatch (Reg.STR_TELMAX_VALUE str.val q.val).addr = none →
    Completes (.peakRead agent { addr := BitVec.ofNat 32 (Reg.STR_TELMAX_VALUE str.val q.val).addr }) s fun d =>
      d.emitted = [.answer 0 0 [s.dev.get (Reg.STR_TELMAX_VALUE str.val q.val)]] ∧ (d.str str.val).seeds.testBit q.val = true ∧
      d.get (Reg.STR_TELMAX_VALUE str.val q.val) = s.dev.get (Reg.STR_TELMAX_VALUE str.val q.val)) ∧
  (∀ (s : State) (agent : Fin 3), s.serves → s.dev.txn = none → tget none s.dev.hiLatch Reg.TB_TIME_LO_TIME.addr = none →
    Completes (.highWordLatchRead agent { addr := BitVec.ofNat 32 Reg.TB_TIME_LO_TIME.addr }) s fun d =>
      d.emitted = [.answer 0 0 [s.dev.get Reg.TB_TIME_LO_TIME]] ∧
      tget none d.hiLatch Reg.TB_TIME_HI_TIME.addr = some (s.dev.get Reg.TB_TIME_HI_TIME)) ∧
  (∀ (s : State) (agent : Fin 3) (a : ReadAt), s.serves → a.narrow = true →
    Completes (.peakRead agent a) s fun d => Dev.OnlyRegs [] s.dev d ∧ d.emitted = [.answer 1 0 [0]]) ∧
  (∀ (s : State) (agent : Fin 3) (a : ReadAt), s.serves → a.narrow = true →
    Completes (.highWordLatchRead agent a) s fun d => Dev.OnlyRegs [] s.dev d ∧ d.emitted = [.answer 1 0 [0]]))

/-! ### The Tuner -/

/-- R139, R141, R142: the i-th active string of an arc, counting from 0 in ascending string number, receives PHASE = ⌊4,096 × i /
n⌋; the weights of an arc sum to exactly 65,536, whatever the raw weights, one of which is not zero. -/
def Obligations.weightsSumAndPhasesSpread : Prop :=
  ((∀ (d : Dev) (n i : Nat) (h : i < (d.activeStrings n).length), n < 16 →
    (d.reshare n).get (Reg.INK_STRING_PHASE ((d.activeStrings n)[i])) = 4096 * i / (d.activeStrings n).length ∧
    ∀ j (hj : j < (d.activeStrings n).length), i < j → (d.activeStrings n)[i] < (d.activeStrings n)[j])) ∧
  ((∀ raw : List (Nat × Nat), (∃ p ∈ raw, p.2 ≠ 0) →
    ((shareOut raw).map (·.2)).sum = 65536 ∧ (shareOut raw).map (·.1) = raw.map (·.1)))

/-- R241 to R243: the slew limiter never passes the set-point, keeps within the larger of the two, moves by no more than a step,
and with both directions off reaches it at once; a fretboard's multiplier at an error below its first breakpoint, above its last,
and between two. -/
def Obligations.setPointsSlewAndFretboardsInterpolate : Prop :=
  ((∀ (s sp : Int) (rise fall dt : Nat), min s sp ≤ slew s sp rise fall dt ∧ slew s sp rise fall dt ≤ max s sp) ∧
  (∀ (s sp : Int) (dt : Nat), slew s sp 0 0 dt = sp) ∧
  (∀ (s sp : Int) (rise fall dt : Nat), rise ≠ 0 → 0 ≤ s → s ≤ sp →
    slew s sp rise fall dt ≤ s + (rise * dt / 1000000 : Nat)) ∧
  (∀ (s sp : Int) (rise fall dt : Nat), fall ≠ 0 → 0 ≤ sp → sp ≤ s →
    s - (fall * dt / 1000000 : Nat) ≤ slew s sp rise fall dt)) ∧
  ((∀ (frets : List (Nat × Nat)) (e : Nat), risesStrictly (frets.map (·.1)) = true →
    (∀ (b m : Nat) rest, frets = (b, m) :: rest → e ≤ b → fretAt frets e = m) ∧
    (∀ (b m : Nat) front, frets = front ++ [(b, m)] → b ≤ e → fretAt frets e = m) ∧
    (∀ front (b0 m0 b1 m1 : Nat) rest, frets = front ++ (b0, m0) :: (b1, m1) :: rest → b0 < e → e ≤ b1 →
      fretAt frets e = (m0 : Int) + (((m1 : Int) - m0) * ((e : Int) - b0)).tdiv ((b1 : Int) - b0))))

/-- POWER_PASS and THERMAL_PASS (R53, R232, R235, R237, R251): the pass takes every outlet's measurements, keeps the longest
staging time and counts a late one with EV056; a thermal slot that is due, in manual and read without error puts out MANOUT,
clamped. -/
def Obligations.passesMeasureAndDrive : Prop :=
  (∀ (s : State) (sense : List (Int × Int × Int)) (poison : List (Fin 128)) (late : List (Fin 64)) (pathNs : Nat), s.hears →
    Completes (.powerPass sense poison late pathNs) s fun d =>
      (∀ n < 16, (d.out n).senseV = (sense.getD n (0, 0, 0)).1 ∧ (d.out n).senseI = (sense.getD n (0, 0, 0)).2.1 ∧
        (d.out n).meterV = (sense.getD n (0, 0, 0)).2.2) ∧
      d.get Reg.TUN_STATUS_PATHMAX = max (s.dev.get Reg.TUN_STATUS_PATHMAX) (min pathNs 65535) % 65536 ∧
      (late ≠ [] → d.get Reg.TUN_STATUS_LATE = min (s.dev.get Reg.TUN_STATUS_LATE + 1) 65535 ∧ d.raw 56 = true) ∧
      (late = [] → d.get Reg.TUN_STATUS_LATE = s.dev.get Reg.TUN_STATUS_LATE) ∧
      d.mode = s.dev.mode ∧ d.flash = s.dev.flash) ∧
  (∀ (s : State) (poison : List (Fin 128)) (i : Fin 128), s.runs → 80 ≤ i.val → s.dev.heaterOff i.val = false →
    s.dev.coolantBlind i.val = false → s.dev.pluck.on = false →
    slotDue s.dev.period s.dev.periodUs (1000 * s.dev.get (Reg.TUN_SCFG_INTERVAL i.val)) = true →
    s.dev.get (Reg.TUN_SCFG_MODE i.val) = 1 → (∀ p ∈ poison, p ≠ i) →
    Completes (.thermalPass poison) s fun d =>
      d.get (Reg.TUN_OUT_VALUE i.val) = ofSigned 32 (s.dev.clampOut i.val (s.dev.getI (Reg.TUN_MANOUT_OUT i.val))) ∧
      d.get (Reg.TUN_SSTAT_STATE i.val) = 2 ∧ d.get (Reg.TUN_SSTAT_LASTPER i.val) = s.dev.period % 65536 ∧
      d.mode = s.dev.mode ∧ d.flash = s.dev.flash)

/-- SLOT_OUT_OF_SERVICE and INTEGRATOR_SATURATED (R258, R259): a power slot whose eighth evaluation in succession is poisoned
leaves service, a string slot with a fault of its string, an outlet slot with the end of its session as a transient fault; a
thermal slot does not; a clamped integrator sets SAT and raises EV059. -/
def Obligations.slotsLeaveServiceAndSaturate : Prop :=
  (∀ (s : State) (i : Fin 128), s.runs → 8 ≤ s.dev.get (Reg.TUN_SSTAT_POISONCNT i.val) → i.val < 80 →
    Completes (.slotOutOfService i) s fun d =>
      (d.slot i.val).outOfService = true ∧ (16 ≤ i.val → d.get (Reg.STR_STRSTAT_FAULT (i.val - 16)) = 1) ∧
      (i.val < 16 → s.dev.settled i.val → (s.dev.sess i.val = 9 ∨ s.dev.sess i.val = 10) →
        Dev.OnlyRegs [] ((s.dev.modSlot i.val fun x => { x with outOfService := true }).transits i.val 11 16 2 true) d) ∧
      d.mode = s.dev.mode ∧ d.flash = s.dev.flash) ∧
  (∀ (s : State) (i : Fin 128), s.runs → (80 ≤ i.val ∨ s.dev.get (Reg.TUN_SSTAT_POISONCNT i.val) < 8) →
    Completes (.slotOutOfService i) s fun d => Dev.OnlyRegs [] s.dev d) ∧
  (∀ (s : State) (i : Fin 128) (v : Int), s.runs → s.dev.get (Reg.TUN_SCFG_MODE i.val) = 0 → (s.dev.slot i.val).ran = true →
    s.dev.get (Reg.TUN_SSTAT_SAT i.val) = 0 →
    v = (if i.val < 16 ∧ s.dev.get (Reg.TUN_SSTAT_LAW i.val) = 1 then (s.dev.slot i.val).vi else (s.dev.slot i.val).i) →
    (v = s.dev.getI (Reg.TUN_IMIN_LIMIT i.val) * 65536 ∨ v = s.dev.getI (Reg.TUN_IMAX_LIMIT i.val) * 65536) →
    Completes (.integratorSaturated i) s fun d =>
      Dev.OnlyRegsAndEvents [(Reg.TUN_SSTAT_SAT i.val).key] s.dev d ∧ d.get (Reg.TUN_SSTAT_SAT i.val) = 1 ∧ d.raw 59 = true)

/-- TUN_CMD_PLUCK, TUN_CMD_PLUCKSTOP, PLUCK_TEST_COMPLETE, PLUCK_TEST_ABORT (R261, R262, R264 to R266): a start waits for the next
round boundary and is forwarded, and a lodger refuses it; the requested test starts where nothing bars it, else it is refused with
the cause; a test ends DONE, FAILED or ABORTED, and its slot returns to the operation before the test. -/
def Obligations.pluckTestsStartAndEnd : Prop :=
  ((∀ s : State, s.serves → s.dev.drives = true →
    Completes .tunCmdPluck s fun d =>
      Dev.OnlyRegs [Reg.SYS_REFUSE_CODE.key] { s.dev with pluck := { s.dev.pluck with want := true } } d ∧
      d.emitted = (if s.dev.duplex then [.twin 22 [1]] else []) ++ [.answer 0 0 []]) ∧
  (∀ s : State, s.serves → s.dev.drives = false →
    Completes .tunCmdPluck s fun d =>
      Dev.OnlyRegsAndEvents [Reg.SYS_REFUSE_CODE.key, Reg.TUN_PLUCKSTAT_STATE.key, Reg.TUN_PLUCKSTAT_CAUSE.key] s.dev d ∧
      d.get Reg.TUN_PLUCKSTAT_STATE = 5 ∧ d.get Reg.TUN_PLUCKSTAT_CAUSE = 8 ∧ d.raw 60 = true) ∧
  (∀ (d : Dev) (i : Nat), d.pluck.want = true → i = d.get Reg.TUN_PLUCKCFG_SLOT →
    (d.pluckBar i = 0 →
      d.startPluck.pluck =
        { on := true, slot := i, startAt := d.now, modeAt := d.mode.code, connAt := d.connected (d.slotOutlet i),
          wasManual := decide (d.get (Reg.TUN_SCFG_MODE i) = 1) } ∧
      d.startPluck.get Reg.TUN_PLUCKSTAT_STATE = 1 ∧ d.startPluck.get Reg.TUN_PLUCKSTAT_CYCLE = 0) ∧
    (d.pluckBar i ≠ 0 →
      d.startPluck.pluck = { d.pluck with want := false } ∧ d.startPluck.get Reg.TUN_PLUCKSTAT_STATE = 5 ∧
      d.startPluck.get Reg.TUN_PLUCKSTAT_CAUSE = d.pluckBar i ∧ d.startPluck.raw 60 = true))) ∧
  (∀ s : State, s.serves → s.dev.pluck.on = true →
    Completes .tunCmdPluckstop s fun d =>
      Dev.OnlyRegs [Reg.SYS_REFUSE_CODE.key] { s.dev with pluck := { s.dev.pluck with stop := true } } d ∧ .answer 0 0 [] ∈ d.emitted) ∧
  (∀ s : State, s.runs → s.dev.pluck.on = true → s.dev.get Reg.TUN_PLUCKCFG_CYCLES ≠ 0 →
    s.dev.get Reg.TUN_PLUCKCFG_CYCLES + 2 ≤ s.dev.pluck.lens.length →
    Completes .pluckTestComplete s fun d =>
      d.pluck = { on := false } ∧ (d.get Reg.TUN_PLUCKSTAT_STATE = 2 ∨ d.get Reg.TUN_PLUCKSTAT_STATE = 4) ∧ d.raw 60 = true ∧
      (s.dev.pluck.wasManual = false →
        (d.slot s.dev.pluck.slot).presetBias = some (s.dev.get Reg.TUN_PLUCKOUT_BIAS : Int)) ∧
      d.mode = s.dev.mode) ∧
  (∀ s : State, s.runs → s.dev.pluck.on = true → s.dev.pluckAbortCause ≠ 0 →
    Completes .pluckTestAbort s fun d =>
      d.pluck = { on := false } ∧ d.get Reg.TUN_PLUCKSTAT_STATE = 3 ∧ d.get Reg.TUN_PLUCKSTAT_CAUSE = s.dev.pluckAbortCause ∧
      (s.dev.pluck.wasManual = false →
        (d.slot s.dev.pluck.slot).presetBias = some (s.dev.get Reg.TUN_PLUCKOUT_BIAS : Int)) ∧
      d.raw 60 = true ∧ d.mode = s.dev.mode)

/-- TUN_CMD_BOW, TUN_CMD_BOWSTOP, TUN_CMD_CAPFREE, BOW_SWEEP_END, BOW_SWEEP_ABORT (R262, R267, R271, R272): a start waits for the
next round boundary and is forwarded, and a lodger refuses it; a sweep that starts takes a free bank, cleared and On, for the
Tuner (owner 9); a stop is noted and forwarded; a bank is freed on command, cleared; a sweep ends DONE, FULL where the bank filled
before the signal ended, or ABORTED with its cause. -/
def Obligations.bowSweepsStartAndEnd : Prop :=
  ((∀ s : State, s.serves → s.dev.drives = true →
    Completes .tunCmdBow s fun d =>
      Dev.OnlyRegs [Reg.SYS_REFUSE_CODE.key] { s.dev with bow := { s.dev.bow with want := true } } d ∧
      d.emitted = (if s.dev.duplex then [.twin 22 [3]] else []) ++ [.answer 0 0 []]) ∧
  (∀ s : State, s.serves → s.dev.drives = false →
    Completes .tunCmdBow s fun d =>
      Dev.OnlyRegsAndEvents [Reg.SYS_REFUSE_CODE.key, Reg.TUN_BOWSTAT_STATE.key, Reg.TUN_BOWSTAT_CAUSE.key] s.dev d ∧
      d.get Reg.TUN_BOWSTAT_STATE = 5 ∧ d.get Reg.TUN_BOWSTAT_CAUSE = 8 ∧ d.raw 61 = true) ∧
  (∀ (d : Dev) (i b : Nat), d.bow.want = true → i = d.get Reg.TUN_BOWCFG_SLOT → d.tuningBusy = false → d.mode = .commission →
    i < 80 → d.bowOutlet i < 16 → d.get (Reg.OUT_CFG_TYPE (d.bowOutlet i)) = 3 → d.get (Reg.TUN_SCFG_MODE i) ≠ 1 →
    d.bowCfgOk = true → d.bow.held = false → d.freeBank = some b →
    d.startBow.bow.on = true ∧ d.startBow.bow.slot = i ∧ d.startBow.bow.bank = b ∧ d.startBow.bow.held = true ∧
    d.startBow.bow.want = false ∧ d.startBow.get (Reg.MEM_BANKOWN_OWNER b) = 9 ∧ d.startBow.get (Reg.MEM_BANKOWN_PWR b) = 0 ∧
    (∀ o < 262144, d.startBow.sramByte b o = 0#8) ∧ d.startBow.get Reg.TUN_BOWSTAT_STATE = 1 ∧
    d.startBow.get Reg.TUN_BOWSTAT_SAMPLES = 0 ∧ d.startBow.mode = d.mode ∧ d.startBow.flash = d.flash)) ∧
  (∀ s : State, s.serves → s.dev.bow.on = true →
    Completes .tunCmdBowstop s fun d =>
      Dev.OnlyRegs [Reg.SYS_REFUSE_CODE.key] { s.dev with bow := { s.dev.bow with stop := true } } d ∧ .answer 0 0 [] ∈ d.emitted) ∧
  ((∀ s : State, s.serves → s.dev.bow.on = false → s.dev.bow.held = true → s.dev.bow.bank < 64 →
    Completes .tunCmdCapfree s fun d =>
      d.bow = { s.dev.bow with held := false } ∧ d.get Reg.TUN_BOWSTAT_SAMPLES = 0 ∧
      d.get (Reg.MEM_BANKOWN_OWNER s.dev.bow.bank) = 0 ∧ (∀ o < 262144, d.sramByte s.dev.bow.bank o = 0#8) ∧
      .answer 0 0 [] ∈ d.emitted ∧ d.mode = s.dev.mode ∧ d.flash = s.dev.flash) ∧
  (∀ s : State, s.serves → (s.dev.bow.on = true ∨ s.dev.bow.held = false) →
    Completes .tunCmdCapfree s fun d => Dev.OnlyRegs [Reg.SYS_REFUSE_CODE.key] s.dev d ∧ .answer 0 0 [] ∈ d.emitted)) ∧
  (∀ s : State, s.runs → s.dev.bow.on = true → (s.dev.bow.done = true ∨ s.dev.bow.full = true) →
    Completes .bowSweepEnd s fun d =>
      Dev.OnlyRegsAndEvents [Reg.TUN_BOWSTAT_STATE.key, Reg.TUN_BOWSTAT_FULL.key]
        { s.dev with bow := { s.dev.bow with on := false } } d ∧
      d.get Reg.TUN_BOWSTAT_STATE = 2 ∧ d.get Reg.TUN_BOWSTAT_FULL = flag (s.dev.bow.full && !s.dev.bow.done) ∧ d.raw 61 = true) ∧
  (∀ s : State, s.runs → s.dev.bow.on = true → s.dev.bowAbortCause ≠ 0 →
    Completes .bowSweepAbort s fun d =>
      Dev.OnlyRegsAndEvents [Reg.TUN_BOWSTAT_STATE.key, Reg.TUN_BOWSTAT_CAUSE.key]
        { s.dev with bow := { s.dev.bow with on := false, stop := false } } d ∧
      d.get Reg.TUN_BOWSTAT_STATE = 3 ∧ d.get Reg.TUN_BOWSTAT_CAUSE = s.dev.bowAbortCause ∧ d.raw 61 = true)

/-! ### Site power -/

/-- ROUND_BOUNDARY, APPLY_BOUNDARY, SHED_WINDOW_END, PENCIL_TRIGGER_LAPSE (R71, R113 to R117, R147, R158, R162): a round takes its
number from fabric time and computes a result from its snapshot; a result that is ready is put into effect, each live outlet's
grant and the causes of a curtailment with it, and one that is not is dropped, counted and reported with EV008; a window's end is
noted, and at the control-period boundary that follows the strings that were shedding are shed and carry nothing; triggers that
have lapsed are gone. -/
def Obligations.roundsApplyAndInkSheds : Prop :=
  ((∀ s : State, s.runs →
    Completes .roundBoundary s fun d =>
      d.round = s.dev.time / max 1 s.dev.roundNs ∧
      (s.dev.scheds = [] → s.dev.multi = false → s.dev.mode.innkeeps = true →
        d.get Reg.INK_STATUS_RUN = 1 ∧ ∃ r, d.result = some r ∧ r.round = d.round)) ∧
  (∀ (s : State) (r : RoundResult), s.runs → s.dev.result = some r → s.dev.mode.innkeeps = true →
    Completes (.applyBoundary true) s fun d =>
      d.result = none ∧ d.get Reg.INK_ROUND_NUM = r.round % 2 ^ 32 ∧
      (s.dev.mode.working = true → d.get Reg.PRS_CURTAIL_IMPORT = r.curtail / 4 % 2 ∧ d.get Reg.PRS_CURTAIL_FEED = r.curtail / 64 % 2 ∧
        d.get Reg.SYS_STATUS_CURTAIL = flag (decide (r.curtail ≠ 0))) ∧
      (∀ n < 16, (d.out n).grantW = if ((r.outs.getD n {}).live && s.dev.live n) = true then (r.outs.getD n {}).grant else 0) ∧
      d.mode = s.dev.mode) ∧
  (∀ (s : State) (r : RoundResult), s.runs → s.dev.result = some r → s.dev.mode.innkeeps = true →
    Completes (.applyBoundary false) s fun d =>
      Dev.OnlyRegsAndEvents [Reg.INK_STATUS_LATE.key] { s.dev with result := none } d ∧
      d.get Reg.INK_STATUS_LATE = min (s.dev.get Reg.INK_STATUS_LATE + 1) 65535 ∧ d.raw 8 = true)) ∧
  ((∀ (s : State) (n : Fin 16), s.runs → (s.dev.out n.val).shedStart.isSome = true →
    Completes (.shedWindowEnd n) s fun d => Dev.OnlyRegs [] (s.dev.modOut n.val fun o => { o with shedDone := true }) d) ∧
  (∀ (d : Dev) (n : Nat), n < 16 → (d.out n).shedStart.isSome = true → (d.out n).shedDone = true →
    ((d.inkShed n).out n).shedStart = none ∧ (d.inkShed n).get (Reg.INK_PENCILMASK_SHED n) = 0 ∧
    ∀ str ∈ (d.out n).shedSet, str < 64 → d.inkState str = 2 → (d.inkShed n).inkState str = 3 ∧ (d.inkShed n).weight str = 0) ∧
  (∀ (s : State) (n : Fin 16) (kind : Fin 4), s.runs →
    Completes (.pencilTriggerLapse n kind) s fun d =>
      Dev.OnlyRegs [] { s.dev with outs := d.outs } d ∧ (∀ m, m ≠ n.val → d.out m = s.dev.out m) ∧
      (kind.val = 0 → d.out n.val = s.dev.out n.val) ∧
      (kind.val = 1 → d.out n.val = { s.dev.out n.val with plugin := (d.out n.val).plugin } ∧
        ∀ t, (d.out n.val).plugin = some t ↔ (s.dev.out n.val).plugin = some t ∧ s.dev.lapsed 1 t = false) ∧
      (kind.val = 2 → d.out n.val = { s.dev.out n.val with schedule := (d.out n.val).schedule } ∧
        ∀ t, t ∈ (d.out n.val).schedule ↔ t ∈ (s.dev.out n.val).schedule ∧ s.dev.lapsed 2 t = false) ∧
      (kind.val = 3 → d.out n.val = { s.dev.out n.val with depart := (d.out n.val).depart } ∧
        ∀ t, (d.out n.val).depart = some t ↔ (s.dev.out n.val).depart = some t ∧ s.dev.lapsed 3 t = false)))

/-- MOVE_TDOWN_ELAPSED, MOVE_TCHECK_PASSED, MOVE_CHECK_ABORT (R131, R132): a leaving course waits for last orders, then for less
than 1 A through its tie, which is then commanded open; a reading that stays at or above 1 A makes it a member again, with EV009.
-/
def Obligations.coursesLeaveUnderOneAmp : Prop :=
  (∀ (s : State) (c : Fin 16), s.runs → (s.dev.course c.val).step = 1 → (s.dev.course c.val).frozenMove = false →
    Completes (.moveTdownElapsed c) s fun d =>
      Dev.OnlyRegs [] (s.dev.modCourse c.val fun x => { x with step := 2 }) d) ∧
  (∀ (s : State) (c : Fin 16), s.runs → (s.dev.course c.val).step = 2 → (s.dev.course c.val).frozenMove = false →
    (s.dev.course c.val).again = false → (s.dev.course c.val).loose = false → s.dev.underOneAmp c.val = true →
    (s.dev.course c.val).tie < 16 → s.dev.tieClosed (s.dev.course c.val).tie = true → s.dev.tieShut (s.dev.course c.val).tie = false →
    s.dev.bit Reg.INK_TIESTATE_MOVING (s.dev.course c.val).tie = false → s.dev.tiesMoving < s.dev.get Reg.INK_MOVECFG2_MAXTIES →
    Completes (.moveTcheckPassed c) s fun d =>
      (d.course c.val).step = 3 ∧ d.tieCmd.testBit (s.dev.course c.val).tie = false ∧
      d.bit Reg.INK_TIESTATE_MOVING (s.dev.course c.val).tie = true ∧ d.mode = s.dev.mode ∧ d.sram = s.dev.sram ∧ d.flash = s.dev.flash) ∧
  (∀ (s : State) (c : Fin 16), s.runs → (s.dev.course c.val).step = 2 → (s.dev.course c.val).frozenMove = false →
    (s.dev.course c.val).again = false → (s.dev.course c.val).loose = false → s.dev.underOneAmp c.val = false →
    (s.dev.course c.val).arc < 16 →
    Completes (.moveCheckAbort c) s fun d =>
      d.get (Reg.INK_COURSE_STATE c.val) = 1 ∧ d.get (Reg.INK_COURSE_ARC c.val) = (s.dev.course c.val).arc ∧
      (d.course c.val).step = 0 ∧ d.raw 9 = true ∧ d.mode = s.dev.mode ∧ d.sram = s.dev.sram ∧ d.flash = s.dev.flash)

/-- TIE_FEEDBACK_CONFIRMED and TIE_STUCK (R104, R110): INK_TIESTATE follows the feedback; a tie whose feedback disagrees with its
command is recorded stuck, as its feedback reads, with EV009. -/
def Obligations.tiesFollowTheirFeedback : Prop :=
  (∀ (s : State) (t : Fin 16) (closed : Bool), s.hears → (s.dev.tieCfg t.val).isSome = true →
    Completes (.tieFeedbackConfirmed t closed) s fun d =>
      d.tieClosed t.val = closed ∧
      (s.dev.tieCmd.testBit t.val = closed → d.bit Reg.INK_TIESTATE_MOVING t.val = false) ∧
      d.tieCmd = s.dev.tieCmd ∧ d.mode = s.dev.mode ∧ d.sram = s.dev.sram ∧ d.flash = s.dev.flash) ∧
  (∀ (s : State) (t : Fin 16) (closed : Bool), s.runs → s.dev.tieCmd.testBit t.val ≠ closed →
    Completes (.tieStuck t closed) s fun d =>
      d.tieClosed t.val = closed ∧ d.bit Reg.INK_TIESTATE_MOVING t.val = false ∧
      (closed = true → d.tieShut t.val = true) ∧ (closed = false → d.tieOpenStuck t.val = true) ∧ d.raw 9 = true ∧
      d.mode = s.dev.mode ∧ d.sram = s.dev.sram ∧ d.flash = s.dev.flash)

/-- MOVE_VOLTAGE_WINDOW, MOVE_PRECHARGE_TIMEOUT, MOVE_TUP_ELAPSED (R131, R133, R135): a joining course whose voltage lies in the
window has its tie commanded closed; one that does not get there in time is parked with EV009; one that has taken up its share is
a member. -/
def Obligations.coursesJoinThroughTheWindow : Prop :=
  (∀ (s : State) (c : Fin 16), s.runs → (s.dev.course c.val).step = 4 → (s.dev.course c.val).frozenMove = false →
    s.dev.chain (s.dev.course c.val).arc c.val = [c.val] → s.dev.inWindow (s.dev.course c.val).arc c.val = true →
    s.dev.tiesMoving < s.dev.get Reg.INK_MOVECFG2_MAXTIES → popCount 16 s.dev.tieCmd < 15 →
    Completes (.moveVoltageWindow c) s fun d =>
      (d.course c.val).step = 5 ∧ d.tieCmd.testBit (innerTie (s.dev.course c.val).arc c.val) = true ∧
      d.mode = s.dev.mode ∧ d.sram = s.dev.sram ∧ d.flash = s.dev.flash) ∧
  (∀ (s : State) (c : Fin 16), s.runs → (s.dev.course c.val).step = 4 → (s.dev.course c.val).frozenMove = false →
    Completes (.movePrechargeTimeout c) s fun d =>
      d.get (Reg.INK_COURSE_STATE c.val) = 0 ∧ d.get (Reg.INK_COURSE_ARC c.val) = 31 ∧ (d.course c.val).step = 0 ∧ d.raw 9 = true ∧
      d.mode = s.dev.mode ∧ d.sram = s.dev.sram ∧ d.flash = s.dev.flash) ∧
  (∀ (s : State) (c : Fin 16), s.runs → (s.dev.course c.val).step = 6 → (s.dev.course c.val).frozenMove = false →
    (s.dev.course c.val).pencil = false → (s.dev.course c.val).again = false → (s.dev.course c.val).loose = false →
    (s.dev.course c.val).arc < 16 →
    Completes (.moveTupElapsed c) s fun d =>
      d.get (Reg.INK_COURSE_STATE c.val) = 1 ∧ d.get (Reg.INK_COURSE_ARC c.val) = (s.dev.course c.val).arc ∧ (d.course c.val).step = 0 ∧
      d.mode = s.dev.mode ∧ d.sram = s.dev.sram ∧ d.flash = s.dev.flash)

/-- SITE_PLAN, PLAN_STALE, BATTERY_OFFER_FRAME, DEMAND_WINDOW_START (R164, R165, R167, R655, R656). -/
def Obligations.thePursePlans : Prop :=
  (∀ s : State, s.runs → s.dev.mode.innkeeps = true →
    (s.dev.purse.planned = false ∨ s.dev.purse.planSec ≠ s.dev.time / 1000000000) →
    Completes .sitePlan s fun d =>
      d.purse.planned = true ∧ d.purse.planSec = s.dev.time / 1000000000 ∧ d.purse.planTime = s.dev.time ∧
      d.get Reg.PRS_STATUS_STALE = 0 ∧ d.get Reg.PRS_STATUS_PLAN_AGE = 0 ∧ s.dev.siteFloors ≤ d.purse.budget ∧
      d.mode = s.dev.mode ∧ d.sram = s.dev.sram ∧ d.flash = s.dev.flash) ∧
  (∀ s : State, s.runs → s.dev.get Reg.PRS_STATUS_STALE ≠ 1 →
    Completes .planStale s fun d =>
      Dev.OnlyRegsAndEvents (Reg.PRS_STATUS_STALE.key :: (List.range 4).map fun f => (Reg.PRS_FEEDLIM_SHARE f).key) s.dev d ∧
      d.get Reg.PRS_STATUS_STALE = 1 ∧ (∀ f < 4, d.get (Reg.PRS_FEEDLIM_SHARE f) = min (s.dev.get (Reg.PRS_FEEDLIM_KW f)) 65535) ∧
      d.raw 10 = true) ∧
  (∀ (s : State) (port : Fin 4) (f : CanFrame) (m : CanMap), s.hears → (s.dev.tab.canMap.find? fun m => m.role = 1) = some m →
    m.port = port.val → f.id = m.id % 2 ^ 29 → f.ide = m.id.testBit 30 → m.offset + m.width ≤ f.data.length →
    Completes (.batteryOfferFrame port f) s fun d =>
      d.purse.offerTime = some s.dev.now ∧
      d.purse.offerW = (canValue m ((f.data.drop m.offset).take m.width) * m.scale).toNat ∧
      d.get Reg.PRS_BATT_VALID = 1 ∧ d.get Reg.PRS_BATT_AGE = 0 ∧ d.mode = s.dev.mode ∧ d.sram = s.dev.sram ∧ d.flash = s.dev.flash) ∧
  (∀ s : State, s.runs → s.dev.purse.winStart ≠ s.dev.windowStart →
    Completes .demandWindowStart s fun d =>
      d.purse.winStart = s.dev.windowStart ∧ d.get Reg.PRS_WINUSED_WH = 0 ∧ d.mode = s.dev.mode ∧ d.sram = s.dev.sram ∧
      d.flash = s.dev.flash)

/-- DEVICE_OVER_BUDGET, DEVICE_UNDER_BUDGET, FRONT_END_WAKE (R174, R175): work is powered down in order with EV014, powered up
again the last first, and a front end wakes by its outlet's type. -/
def Obligations.devicePowerIsBudgeted : Prop :=
  (∀ (s : State) (p : Nat) (rest : List Nat) (w : Nat × Nat), s.runs → s.dev.devBudget < p → s.dev.nextShed = some w →
    Completes (.deviceOverBudget (p :: rest)) s fun d => w ∈ d.purse.shedWork ∧ d.raw 14 = true ∧ d.mode = s.dev.mode) ∧
  (∀ (s : State) (p : Nat) (w : Nat × Nat) (rest : List (Nat × Nat)), s.runs → p + 100 ≤ s.dev.devBudget →
    s.dev.purse.shedWork = w :: rest →
    Completes (.deviceUnderBudget p) s fun d =>
      d.purse.shedWork = rest ∧ d.get Reg.PRS_DEVPOWER_CW = min p 65535 ∧
      (w.1 = 1 → w.2 < 64 → s.dev.owner w.2 = 0 → s.dev.handable w.2 = true → d.get (Reg.MEM_BANKOWN_PWR w.2) = 0) ∧
      (w.1 = 4 → s.dev.get Reg.PRS_DEVSTAT_HELD = 0 →
        d.get Reg.PRS_DEVSTAT_RAIL = min 40 (s.dev.get Reg.PRS_DEVSTAT_RAIL + 1) ∧ d.purse.raised = some s.dev.now) ∧
      d.mode = s.dev.mode ∧ d.sram = s.dev.sram ∧ d.flash = s.dev.flash) ∧
  (∀ (s : State) (n : Fin 16), s.runs → s.dev.get (Reg.VLK_LINK_LSTATE n.val) = 0 →
    Completes (.frontEndWake n) s fun d =>
      (s.dev.get (Reg.OUT_CFG_TYPE n.val) = 1 → d.get (Reg.VLK_LINK_LSTATE n.val) = 1) ∧
      (s.dev.get (Reg.OUT_CFG_TYPE n.val) = 2 → d.get (Reg.VLK_LINK_LSTATE n.val) = 4) ∧
      Dev.OnlyRegs [(Reg.VLK_LINK_LSTATE n.val).key] { s.dev with purse := d.purse } d)

/-! ### Outlets and sessions -/

/-- A staged transition takes effect at the boundary, with its end cause (R278): into SETUP, where the session number moves on
(R322), into parameter discovery, and into PAUSE and RUNDOWN, where the current request falls to 0 (R304, R309). -/
def Obligations.transitionsTakeEffectAtTheBoundary : Prop :=
  ∀ (d : Dev) (n : Fin 16) (x : SessNext), (d.out n.val).next = some x →
    (x.state = 4 ∨ x.state = 6 ∨ x.state = 10 ∨ x.state = 11) →
    (d.applyNext n.val).sess n.val = x.state ∧ ((d.applyNext n.val).out n.val).next = none ∧
    (x.state = 4 → (d.applyNext n.val).get (Reg.OUT_SESSNUM_NUM n.val) =
      (d.get (Reg.OUT_SESSNUM_NUM n.val) + 1) % 2 ^ (Reg.OUT_SESSNUM_NUM n.val).width) ∧
    (10 ≤ x.state → (d.applyNext n.val).getI (Reg.OUT_DEMAND_IREQ n.val) = 0) ∧
    (x.cause ≠ 0 → (d.applyNext n.val).get (Reg.OUT_END_CAUSE n.val) = x.cause % 256)

/-- CONNECTION_DETECTED, SESSION_SETUP_COMPLETE, CONTRACT_AUTHORISATION, OUT_CMD_AUTHOK, OUT_CMD_AUTHNO, CHARGE_PARAMETERS,
CABLE_CHECK_REQUEST, PRECHARGE_REQUEST, POWER_DELIVERY_START, CURRENT_DEMAND, STANDBY_REQUEST, RESUME_REQUEST (R35, R149, R278,
R279, R282 to R285, R300, R303, R304, R344, R352): what moves a session forward stages its transition for the next control-period
boundary; a request that comes too early is answered as not ready; each message is answered and checkpointed. -/
def Obligations.sessionsMoveForward : Prop :=
  (∀ (s : State) (n : Fin 16) (r : ConnRead), s.hears →
    (s.dev.get (Reg.OUT_CFG_TYPE n.val) = 1 ∨ s.dev.get (Reg.OUT_CFG_TYPE n.val) = 2) → s.dev.sess n.val = 1 →
    s.dev.mayStart n.val = true → s.dev.settled n.val →
    (r.stood = true → (r.state = 1 ∨ r.state = 2) →
      Completes (.connectionDetected n r) s fun d =>
        Dev.OnlyRegs [(Reg.OUT_SESS_CONN n.val).key]
          { (s.dev.modOut n.val fun o => { o with conn := some true }).transits n.val 2 0 1 with pluck := d.pluck } d ∧
        d.get (Reg.OUT_SESS_CONN n.val) = r.state.val ∧
        d.pluck = { s.dev.pluck with connHit := s.dev.pluck.connHit ||
          (s.dev.pluck.on && decide (s.dev.slotOutlet s.dev.pluck.slot = n.val) && decide ((s.dev.out n.val).conn ≠ some true)) }) ∧
    (r.stood = false → Completes (.connectionDetected n r) s fun d =>
      Dev.OnlyRegs [(Reg.OUT_SESS_CONN n.val).key] s.dev d ∧ d.get (Reg.OUT_SESS_CONN n.val) = r.state.val)) ∧
  (∀ (s : State) (n : Fin 16) (proto : BitVec 3) (eim : Bool), s.hears → s.dev.sess n.val = 4 → s.dev.safeWait = false →
    s.dev.get (Reg.OUT_CFG_LEGAL n.val) = 0 → s.dev.offers n.val proto.toNat = true → s.dev.settled n.val →
    Completes (.sessionSetupComplete n proto eim) s fun d =>
      (d.out n.val).next = some { state := 5, cause := 0, rank := 1 } ∧ d.get (Reg.OUT_SESS_PROTO n.val) = proto.toNat ∧
      (d.out n.val).eimSel = (eim && decide (s.dev.get (Reg.OUT_CFG_EIM n.val) = 1)) ∧ tget {} d.ckpts n.val = d.ckptOf n.val ∧
      s.dev.sameStores d) ∧
  (∀ (s : State) (n : Fin 16) (chain : List Byte), s.hears → s.dev.sess n.val = 5 → s.dev.get (Reg.OUT_CFG_PNC n.val) = 1 →
    2 ≤ s.dev.get (Reg.OUT_SESS_PROTO n.val) → s.dev.timeKnown = true → s.dev.get Reg.VLK_TLSCFG_REVCHK = 0 → s.dev.settled n.val →
    Completes (.contractAuthorisation n chain) s fun d =>
      if s.dev.inDate chain = true ∧ Config.chainVerifies chain (s.dev.rootsOf 1) = true
      then Dev.Answered [] n.val (s.dev.transits n.val 6 0 1) d else Dev.Answered [] n.val s.dev d) ∧
  (∀ (s : State) (n : Fin 16), s.serves → s.dev.sess n.val = 5 → s.dev.settled n.val →
    ((s.dev.out n.val).eimSel = true → Completes (.outCmdAuthok n) s fun d =>
      Dev.OnlyRegs [Reg.SYS_REFUSE_CODE.key] (s.dev.transits n.val 6 0 1) d ∧ d.emitted = [.answer 0 0 []]) ∧
    ((s.dev.out n.val).eimSel = false → Completes (.outCmdAuthok n) s fun d =>
      Dev.OnlyRegs [Reg.SYS_REFUSE_CODE.key] s.dev d ∧ d.emitted = [.answer 0 0 []]) ∧
    Completes (.outCmdAuthno n) s fun d =>
      Dev.OnlyRegs [Reg.SYS_REFUSE_CODE.key] (s.dev.transits n.val 14 4 1) d ∧ d.emitted = [.answer 0 0 []]) ∧
  (∀ (s : State) (n : Fin 16) (minV maxV maxI disV : BitVec 16) (maxW : Option Nat), s.hears → s.dev.sess n.val = 6 →
    minV.toNat ≤ s.dev.get (Reg.OUT_RATING_VMAX n.val) → 1500 ≤ maxV.toNat → s.dev.get (Reg.OUT_SESS_PROTO n.val) ≠ 4 →
    Completes (.chargeParameters n minV maxV maxI disV maxW) s fun d =>
      Dev.Answered [(Reg.OUT_EVMAX_VMAX n.val).key, (Reg.OUT_EVMAX_IMAX n.val).key] n.val
        (s.dev.modOut n.val fun o => { o with accepted := true, maxW := maxW }) d ∧
      d.get (Reg.OUT_ADV_KW n.val) = s.dev.get (Reg.INK_GRANT_KW n.val) % 65536 ∧
      d.get (Reg.OUT_EVMAX_VMAX n.val) = maxV.toNat ∧ d.get (Reg.OUT_EVMAX_IMAX n.val) = maxI.toNat) ∧
  (∀ (s : State) (n : Fin 16) (minV maxV maxI disV : BitVec 16) (maxW : Option Nat), s.hears → s.dev.sess n.val = 6 → s.dev.settled n.val →
    (s.dev.get (Reg.OUT_RATING_VMAX n.val) < minV.toNat ∨ maxV.toNat < 1500) →
    Completes (.chargeParameters n minV maxV maxI disV maxW) s fun d =>
      Dev.Answered [] n.val (s.dev.transits n.val 14 13 1) d) ∧
  (∀ (s : State) (n : Fin 16), s.hears → s.dev.sess n.val = 6 → s.dev.settled n.val → (s.dev.out n.val).accepted = true →
    s.dev.get (Reg.CAB_STAT_LATCH n.val) = 0 →
    Completes (.cableCheckRequest n) s fun d => Dev.Answered [] n.val (s.dev.transits n.val 7 0 1) d) ∧
  (∀ (s : State) (n : Fin 16) (vt : BitVec 16), s.hears → s.dev.sess n.val = 7 → s.dev.settled n.val →
    Completes (.prechargeRequest n vt) s fun d =>
      Dev.Answered [] n.val (if (s.dev.out n.val).ccDone then (s.dev.modOut n.val fun o => { o with vt := vt.toNat }).transits n.val 8 0 1
        else s.dev.modOut n.val fun o => { o with vt := vt.toNat }) d) ∧
  (∀ (s : State) (n : Fin 16), s.hears → s.dev.sess n.val = 8 → s.dev.settled n.val →
    Completes (.powerDeliveryStart n) s fun d =>
      Dev.Answered [] n.val (if (s.dev.out n.val).preDone then s.dev.transits n.val 9 0 1 else s.dev) d) ∧
  (∀ (s : State) (n : Fin 16) (i v : BitVec 16), s.hears → s.dev.sess n.val = 9 → 0 ≤ i.toInt →
    Completes (.currentDemand n i v) s fun d =>
      Dev.Answered [] n.val (s.dev.modOut n.val fun o => { o with demand := some (i.toInt, v.toNat) }) d ∧
      d.get (Reg.OUT_ADV_KW n.val) = s.dev.get (Reg.INK_GRANT_KW n.val) % 65536) ∧
  (∀ (s : State) (n : Fin 16), s.hears → 3 ≤ s.dev.get (Reg.OUT_SESS_PROTO n.val) → s.dev.settled n.val →
    (s.dev.sess n.val = 9 → Completes (.standbyRequest n) s fun d => Dev.Answered [] n.val (s.dev.transits n.val 10 0 1) d) ∧
    (s.dev.sess n.val = 10 → Completes (.resumeRequest n) s fun d => Dev.Answered [] n.val (s.dev.transits n.val 9 0 1) d))

/-- DISCONNECTION_DETECTED, STAGE_TIMEOUT, MESSAGE_TIMEOUT, VEHICLE_STOP, OUT_CMD_STOP, OUT_CMD_DISABLE, OUT_CMD_ENABLE,
OUT_CMD_DUMMYRUN, ARC_CAPACITY_ZERO, GRANT_ZERO_TIMEOUT (R36, R276, R278, R281, R304, R308, R313, R320): how a session ends by its
state, with its end cause. The end cause of an arc capacity of 0 is a free value of the model. -/
def Obligations.sessionsEndByTheirState : Prop :=
  (∀ (s : State) (n : Fin 16), s.hears →
    (s.dev.get (Reg.OUT_CFG_TYPE n.val) = 1 ∨ s.dev.get (Reg.OUT_CFG_TYPE n.val) = 2) → 2 ≤ s.dev.sess n.val → s.dev.sess n.val ≤ 6 →
    s.dev.settled n.val →
    Completes (.disconnectionDetected n) s fun d =>
      Dev.OnlyRegs [(Reg.OUT_SESS_CONN n.val).key, (Reg.OUT_RETRY_PENDING n.val).key]
        ((s.dev.modOut n.val fun o => { o with conn := some false }).transits n.val 1 12 3) d ∧
      d.get (Reg.OUT_SESS_CONN n.val) = 0 ∧ d.get (Reg.OUT_RETRY_PENDING n.val) = 0) ∧
  (∀ (s : State) (n : Fin 16), s.runs → s.dev.settled n.val → 3 ≤ s.dev.sess n.val → s.dev.sess n.val ≤ 6 →
    (Completes (.stageTimeout n) s fun d => Dev.OnlyRegs [] (s.dev.transits n.val 14 5 1) d) ∧
    Completes (.messageTimeout n) s fun d =>
      Dev.OnlyRegs [] ((s.dev.transits n.val 14 3 1).modOut n.val fun o => { o with linkGone := true }) d) ∧
  (∀ (s : State) (n : Fin 16), s.runs → s.dev.settled n.val → (s.dev.sess n.val = 7 ∨ s.dev.sess n.val = 8) →
    (Completes (.stageTimeout n) s fun d =>
      Dev.OnlyRegs [] (s.dev.transits n.val (if (s.dev.out n.val).commanded then 12 else 14) 5 2 true) d) ∧
    Completes (.messageTimeout n) s fun d =>
      Dev.OnlyRegs [] ((s.dev.transits n.val (if (s.dev.out n.val).commanded then 12 else 14) 3 1).modOut n.val
        fun o => { o with linkGone := true }) d) ∧
  (∀ (s : State) (n : Fin 16), s.runs → s.dev.settled n.val → (s.dev.sess n.val = 9 ∨ s.dev.sess n.val = 10) →
    (Completes (.messageTimeout n) s fun d =>
      Dev.OnlyRegs [] ((s.dev.transits n.val 11 3 1).modOut n.val fun o => { o with linkGone := true }) d) ∧
    (s.dev.fed = false → Completes (.vehicleStop n) s fun d =>
      Dev.Answered [] n.val ((s.dev.transits n.val 11 1 3).modOut n.val fun o => { o with stopReq := true }) d) ∧
    (s.dev.mode ≠ .lastGasp → Completes (.outCmdStop n) s fun d =>
      Dev.OnlyRegs [Reg.SYS_REFUSE_CODE.key] ((s.dev.transits n.val 11 2 3).modOut n.val
        fun o => { o with stopReq := o.stopReq || decide (s.dev.get (Reg.OUT_CFG_TYPE n.val) = 3) }) d ∧ d.emitted = [.answer 0 0 []]) ∧
    (s.dev.mode ≠ .lastGasp → Completes (.outCmdDisable n) s fun d =>
      Dev.OnlyRegs [Reg.SYS_REFUSE_CODE.key] ((s.dev.transits n.val 11 2 3).modOut n.val fun o => { o with disableAfter := true }) d ∧
      d.emitted = [.answer 0 0 []])) ∧
  (∀ (s : State) (n : Fin 16), s.serves → s.dev.settled n.val →
    ((s.dev.sess n.val = 14 ∨ s.dev.sess n.val = 15) → Completes (.outCmdDisable n) s fun d =>
      Dev.OnlyRegs [Reg.SYS_REFUSE_CODE.key] (s.dev.transits n.val 0 0 3) d) ∧
    (s.dev.sess n.val = 0 → Completes (.outCmdEnable n) s fun d =>
      Dev.OnlyRegs [Reg.SYS_REFUSE_CODE.key] (s.dev.transits n.val 1 0 1) d ∧ d.emitted = [.answer 0 0 []])) ∧
  (∀ (s : State) (n : Fin 16), s.serves → s.dev.settled n.val → s.dev.mode = .commission → s.dev.get (Reg.OUT_CFG_TYPE n.val) = 3 →
    (s.dev.sess n.val = 1 ∨ s.dev.sess n.val = 14) →
    Completes (.outCmdDummyrun n) s fun d =>
      (d.out n.val).next = some { state := 7, cause := 0, rank := 1 } ∧ (d.out n.val).vt = s.dev.get (Reg.OUT_DUMMYSP_V n.val) ∧
      Dev.OnlyRegs [Reg.SYS_REFUSE_CODE.key, (Reg.OUT_EVMAX_VMAX n.val).key, (Reg.OUT_EVMAX_IMAX n.val).key,
          (Reg.OUT_RETRY_SOFT n.val).key] { s.dev with outs := d.outs } d ∧ d.emitted = [.answer 0 0 []]) ∧
  (∀ (s : State) (n : Fin 16), s.serves → s.dev.mode ≠ .commission →
    Completes (.outCmdDummyrun n) s fun d =>
      Dev.OnlyRegs [Reg.SYS_REFUSE_CODE.key, Reg.SYS_REFUSE_ADDR.key] s.dev d ∧ d.get Reg.SYS_REFUSE_CODE = 3 ∧
      d.emitted = [.answer 1 3 []]) ∧
  (∀ (s : State) (n : Fin 16), s.runs → s.dev.sess n.val = 9 → s.dev.get (Reg.INK_GRANT_KW n.val) = 0 → (s.dev.out n.val).grantW = 0 →
    Completes (.grantZeroTimeout n) s fun d =>
      Dev.OnlyRegsAndEvents [(Reg.OUT_EVCAUSE_GRANT0 n.val).key] s.dev d ∧ d.get (Reg.OUT_EVCAUSE_GRANT0 n.val) = 1 ∧
      d.raw (32 + n.val) = true) ∧
  (∀ (s : State) (n : Fin 16), s.runs → s.dev.sess n.val = 9 → s.dev.settled n.val → s.dev.activeStrings n.val = [] →
    Completes (.arcCapacityZero n) s fun d =>
      ∃ cause, Dev.OnlyRegs [] { s.dev.transits n.val 11 cause 2 true with freeCtr := s.dev.freeCtr + 1 } d)

/-- LOCK_CONFIRMED, LOCK_TIMEOUT, INSULATION_CYCLE, CABLE_CHECK_COMPLETE (R285 to R291): the lock; the insulation resistance in
kΩ, whose fault, which is a demand of SF2, and warning take two cycles each; in CABLECHECK the first two cycles are not judged,
and then a cycle below the fault threshold locks the outlet out. -/
def Obligations.cableCheckProtects : Prop :=
  (∀ (s : State) (n : Fin 16), s.hears → s.dev.sess n.val = 7 → s.dev.get (Reg.OUT_CFG_LOCK n.val) = 1 →
    Completes (.lockConfirmed n) s fun d =>
      Dev.OnlyRegs [Reg.AUX_GPIOIN_LEVEL.key] (s.dev.modOut n.val fun o => { o with lockOk := true }) d) ∧
  (∀ (s : State) (n : Fin 16), s.runs → s.dev.sess n.val = 7 → (s.dev.out n.val).lockOk = false → s.dev.settled n.val →
    Completes (.lockTimeout n) s fun d =>
      Dev.OnlyRegsAndEvents [(Reg.OUT_EVCAUSE_LOCK n.val).key]
        (s.dev.transits n.val (if (s.dev.out n.val).commanded then 12 else 14) 6 2 true) d ∧
      d.get (Reg.OUT_EVCAUSE_LOCK n.val) = 1) ∧
  (∀ (s : State) (n : Fin 16) (m : IsoReading), s.runs → 7 ≤ s.dev.sess n.val → s.dev.sess n.val ≤ 12 →
    (s.dev.sess n.val = 7 → (s.dev.out n.val).lockOk = true ∧ 2 ≤ (s.dev.out n.val).isoCycles) →
    Completes (.insulationCycle n m) s fun d =>
      d.get (Reg.OUT_ISO_KOHM n.val) = min m.kohm 16777215 ∧ (d.out n.val).isoCycles = (s.dev.out n.val).isoCycles + 1 ∧
      (10000 * m.kohm < 100 * s.dev.get (Reg.OUT_RATING_VMAX n.val) → 1 ≤ (s.dev.out n.val).isoFault →
        d.get (Reg.OUT_ISO_STATUS n.val) = 3) ∧
      (10000 * m.kohm < 100 * s.dev.get (Reg.OUT_RATING_VMAX n.val) → (s.dev.out n.val).isoFault = 1 → s.dev.sess n.val ≠ 7 →
        d.safed n.val 1 ∧ d.get (Reg.OUT_EVCAUSE_ISOFAULT n.val) = 1) ∧
      (500 * s.dev.get (Reg.OUT_RATING_VMAX n.val) ≤ 10000 * m.kohm → s.dev.get (Reg.OUT_SESS_ISOWARN n.val) = 0 →
        d.get (Reg.OUT_ISO_STATUS n.val) = 1) ∧
      (10000 * m.kohm < 500 * s.dev.get (Reg.OUT_RATING_VMAX n.val) → 1 ≤ (s.dev.out n.val).isoWarn →
        d.get (Reg.OUT_SESS_ISOWARN n.val) ≠ 0) ∧
      s.dev.sameStores d) ∧
  (∀ (s : State) (n : Fin 16) (m : IsoReading), s.runs → s.dev.sess n.val = 7 → (s.dev.out n.val).lockOk = true →
    (s.dev.out n.val).isoCycles < 2 →
    Completes (.insulationCycle n m) s fun d =>
      Dev.OnlyRegs [(Reg.OUT_ISO_KOHM n.val).key, (Reg.OUT_ISO_STATUS n.val).key]
        (s.dev.modOut n.val fun o => { o with isoCycles := o.isoCycles + 1 }) d ∧
      d.get (Reg.OUT_ISO_KOHM n.val) = min m.kohm 16777215 ∧ d.get (Reg.OUT_ISO_STATUS n.val) = 1) ∧
  (∀ (s : State) (n : Fin 16) (m : IsoReading), s.runs → s.dev.sess n.val = 7 → (s.dev.out n.val).lockOk = true →
    2 ≤ (s.dev.out n.val).isoCycles → (s.dev.out n.val).isoCycles ≤ 5 → s.dev.settled n.val →
    Completes (.insulationCycle n m) s fun d =>
      (10000 * m.kohm < 100 * s.dev.get (Reg.OUT_RATING_VMAX n.val) →
        (d.out n.val).next = some { state := 15, cause := 7, rank := 1 } ∧ d.soutOn n.val = false ∧
        d.get (Reg.OUT_EVCAUSE_ISOFAULT n.val) = 1) ∧
      (100 * s.dev.get (Reg.OUT_RATING_VMAX n.val) ≤ 10000 * m.kohm → (s.dev.out n.val).isoCycles = 5 →
        (d.out n.val).isoPassed = true ∧ (d.out n.val).next = none)) ∧
  (∀ (s : State) (n : Fin 16), s.runs → s.dev.sess n.val = 7 → (s.dev.out n.val).lockOk = true →
    (s.dev.out n.val).isoPassed = true → s.dev.get (Reg.INK_COURSE_STATE n.val) = 0 → s.dev.settled n.val →
    Completes (.cableCheckComplete n) s fun d =>
      (d.out n.val).ccDone = true ∧
      (d.out n.val).next = (if s.dev.get (Reg.OUT_CFG_TYPE n.val) = 3 then some { state := 8, cause := 0, rank := 1 } else none) ∧
      ((s.dev.bit Reg.STR_SENSE_LOST n.val = true ∨
          10 * (s.dev.get Reg.STR_SENSECFG_TOL : Int) < ((s.dev.out n.val).senseV - (s.dev.out n.val).meterV).natAbs) →
        (d.out n.val).fallNext = true ∧ d.get (Reg.OUT_EVCAUSE_SENSE n.val) = 1) ∧
      tget {} d.ckpts n.val = d.ckptOf n.val ∧ s.dev.sameStores d)

/-- CONTACTORS_CLOSED, CONTACTOR_CLOSE_TIMEOUT, PRECHARGE_CORRECTION, SOFT_START_FAILURE, SOFT_START_RETRY, PRECHARGE_COMPLETE
(R293 to R297, R440): PRECHARGE from the request of the outputs to the sense voltage in its window; each closing counts as a soft
start, of which the second that fails locks the outlet out. -/
def Obligations.prechargeBringsTheCableUp : Prop :=
  (∀ (s : State) (n : Fin 16), s.runs → s.dev.sess n.val = 8 → (s.dev.out n.val).contReq = true →
    Completes (.contactorsClosed n) s fun d =>
      d.out n.val = { s.dev.out n.val with closed := true, preActive := true, preTarget := 4 * (s.dev.out n.val).vt } ∧
      d.bit Reg.SAF_FBSTAT_BITS (2 * n.val) = true ∧ d.bit Reg.SAF_FBSTAT_BITS (2 * n.val + 1) = true ∧
      (d.course n.val).blocked = false ∧ d.arcHeld n.val = false ∧
      ((s.dev.out n.val).preActive = false →
        d.get (Reg.OUT_RETRY_SOFT n.val) = min (s.dev.get (Reg.OUT_RETRY_SOFT n.val) + 1) 3) ∧
      Dev.OnlyRegs [Reg.SAF_FBSTAT_BITS.key, Reg.STR_BLOCKSTAT_HELD.key, (Reg.OUT_RETRY_SOFT n.val).key]
        { s.dev with outs := d.outs, courses := d.courses } d) ∧
  (∀ (s : State) (n : Fin 16), s.runs → s.dev.sess n.val = 8 → (s.dev.out n.val).contReq = true → (s.dev.out n.val).closed = false →
    (s.dev.out n.val).commanded = true → s.dev.settled n.val →
    Completes (.contactorCloseTimeout n) s fun d =>
      (d.out n.val).next = some { state := 12, cause := 17, rank := 2, transient := true } ∧
      d.get (Reg.SAF_OSTAT_NOCLOSE n.val) = 1 ∧ d.soutOn n.val = false ∧ (d.out n.val).contReq = false ∧ s.dev.sameStores d) ∧
  (∀ (s : State) (n : Fin 16), s.runs → s.dev.sess n.val = 8 → (s.dev.out n.val).preActive = true →
    Completes (.prechargeCorrection n) s fun d =>
      Dev.OnlyRegs [] (s.dev.modOut n.val fun o => { o with
        preTarget := (max (4 * ((o.vt : Int) - 200)) (min (4 * ((o.vt : Int) + 200))
          ((o.preTarget : Int) + 4 * ((o.vt : Int) - o.senseV)))).toNat }) d) ∧
  (∀ (s : State) (n : Fin 16), s.runs → s.dev.sess n.val = 8 → (s.dev.out n.val).preActive = true →
    10 * (s.dev.out n.val).senseV ≤ ((s.dev.out n.val).vt : Int) → s.dev.settled n.val →
    Completes (.softStartFailure n) s fun d =>
      d.soutOn n.val = false ∧ (d.out n.val).preActive = false ∧ (d.out n.val).closed = false ∧
      d.get (Reg.OUT_RETRY_SOFT n.val) = s.dev.get (Reg.OUT_RETRY_SOFT n.val) ∧ d.get (Reg.OUT_EVCAUSE_SOFTSTART n.val) = 1 ∧
      d.raw (32 + n.val) = true ∧
      (s.dev.get (Reg.OUT_RETRY_SOFT n.val) < 2 → (d.out n.val).softWait = true ∧ (d.out n.val).next = none) ∧
      (2 ≤ s.dev.get (Reg.OUT_RETRY_SOFT n.val) → (d.out n.val).softWait = false ∧
        (d.out n.val).next = some { state := 15, cause := 8, rank := 1 }) ∧ s.dev.sameStores d) ∧
  (∀ (s : State) (n : Fin 16), s.runs → s.dev.sess n.val = 8 → (s.dev.out n.val).softWait = true →
    Completes (.softStartRetry n) s fun d =>
      Dev.OnlyRegs [] (s.dev.modOut n.val fun o => { o with softWait := false, softHalf := true }) d) ∧
  (∀ (s : State) (n : Fin 16), s.runs → s.dev.sess n.val = 8 → (s.dev.out n.val).preActive = true →
    ((s.dev.out n.val).senseV - (s.dev.out n.val).vt).natAbs ≤ 100 → s.dev.settled n.val →
    Completes (.prechargeComplete n) s fun d =>
      (d.out n.val).preDone = true ∧
      (d.out n.val).next = (if s.dev.get (Reg.OUT_CFG_TYPE n.val) = 3 then some { state := 9, cause := 0, rank := 1 } else none) ∧
      Dev.Answered [] n.val { s.dev with outs := d.outs } d)

/-- RUNDOWN_COMPLETE, RUNDOWN_OVERRUN, CONTACTORS_OPENED, WELD_VOLTAGE_CHECK, UNLOCK_COMPLETE, UNLOCK_TIMEOUT, RETRY_DUE,
RETRY_EXPIRY, OUT_STRLATCH_CLEAR (R309, R310, R312, R314 to R317, R444): run-down, weld detection, unlock and retries; a retry
that falls due, and the clearing of the latch of a string, take effect at the next control-period boundary. -/
def Obligations.sessionsRunDownAndRetry : Prop :=
  (∀ (s : State) (n : Fin 16), s.runs → s.dev.sess n.val = 11 → (s.dev.out n.val).senseI.natAbs ≤ 20 →
    s.dev.stopIn n.val = true → s.dev.settled n.val →
    Completes (.rundownComplete n) s fun d => Dev.OnlyRegs [] (s.dev.transits n.val 12 0 1) d) ∧
  (∀ (s : State) (n : Fin 16), s.runs → s.dev.sess n.val = 11 → 20 < (s.dev.out n.val).senseI.natAbs → s.dev.settled n.val →
    Completes (.rundownOverrun n) s fun d =>
      (d.out n.val).next = some { state := 12, cause := 0, rank := 1 } ∧ d.arcHeld n.val = true ∧
      d.get (Reg.OUT_EVCAUSE_RUNDOWN n.val) = 1 ∧ d.raw (32 + n.val) = true ∧ s.dev.sameStores d) ∧
  (∀ (s : State) (n : Fin 16), s.runs →
    Completes (.contactorsOpened n) s fun d =>
      d.fbClosed n.val = false ∧ (d.safOut n.val).openAt = some s.dev.now ∧
      (s.dev.sess n.val = 12 → (d.out n.val).opened = true ∧ (d.out n.val).closed = false) ∧
      Dev.OnlyRegs [Reg.SAF_FBSTAT_BITS.key, (Reg.SAF_OSTAT_LOCKINH n.val).key, Reg.STR_SENSE_LOST.key] { s.dev with outs := d.outs, saf := d.saf } d) ∧
  (∀ (s : State) (n : Fin 16) (v : Nat), s.runs → s.dev.sess n.val = 12 → (s.dev.out n.val).opened = true → v ≤ 600 →
    s.dev.bit (Reg.SAF_OSTAT_LATCH n.val) 3 = false → s.dev.arcHeld n.val = false → s.dev.settled n.val →
    Completes (.weldVoltageCheck n v) s fun d =>
      Dev.OnlyRegs [(Reg.OUT_WELD_V2S n.val).key, (Reg.OUT_WELD_RESULT n.val).key] (s.dev.transits n.val 13 0 1) d ∧
      d.get (Reg.OUT_WELD_V2S n.val) = v ∧ d.get (Reg.OUT_WELD_RESULT n.val) = 1) ∧
  (∀ (s : State) (n : Fin 16) (v : Nat), s.runs → s.dev.sess n.val = 12 → (s.dev.out n.val).opened = true → 600 < v →
    s.dev.settled n.val →
    Completes (.weldVoltageCheck n v) s fun d =>
      d.get (Reg.OUT_WELD_V2S n.val) = min v 65535 ∧ d.get (Reg.OUT_WELD_RESULT n.val) = 2 ∧
      d.bit (Reg.SAF_OSTAT_LATCH n.val) 3 = true ∧ (d.out n.val).next = some { state := 15, cause := 0, rank := 4 } ∧
      d.get (Reg.OUT_EVCAUSE_WELD n.val) = 1 ∧ s.dev.sameStores d) ∧
  (∀ (s : State) (n : Fin 16), s.hears → s.dev.sess n.val = 13 → (s.dev.out n.val).senseV < 600 → s.dev.settled n.val →
    Completes (.unlockComplete n) s fun d => Dev.OnlyRegs [Reg.AUX_GPIOIN_LEVEL.key] (s.dev.transits n.val 14 0 1) d) ∧
  (∀ (s : State) (n : Fin 16), s.runs → s.dev.sess n.val = 13 → s.dev.settled n.val →
    Completes (.unlockTimeout n) s fun d =>
      Dev.OnlyRegsAndEvents [(Reg.OUT_EVCAUSE_LOCK n.val).key] (s.dev.transits n.val 14 0 1) d ∧
      d.get (Reg.OUT_EVCAUSE_LOCK n.val) = 1 ∧ d.raw (32 + n.val) = true) ∧
  (∀ (s : State) (n : Fin 16), s.runs →
    Completes (.retryDue n) s fun d =>
      Dev.OnlyRegs [] (if s.dev.sess n.val = 14 ∧ s.dev.get (Reg.OUT_RETRY_PENDING n.val) = 1
        then s.dev.modOut n.val fun o => { o with retryOwed := true } else s.dev) d) ∧
  (∀ (d : Dev) (n : Fin 16), (d.out n.val).retryOwed = true → d.sess n.val = 14 → d.get (Reg.OUT_RETRY_PENDING n.val) = 1 →
    d.get (Reg.OUT_RETRY_FROZEN n.val) = 0 → (d.out n.val).conn = some true → (d.out n.val).retries.length < 3 →
    d.mayStart n.val = true → d.settled n.val →
    (d.performOwed n.val).out n.val = { d.out n.val with
      retryOwed := false, retries := (d.out n.val).retries ++ [(d.out n.val).clock], next := some { state := 3, cause := 0, rank := 1 } } ∧
    (d.performOwed n.val).get (Reg.OUT_RETRY_COUNT n.val) = (d.out n.val).retries.length + 1 ∧
    (d.performOwed n.val).get (Reg.OUT_EVCAUSE_RETRY n.val) = 1 ∧ (d.performOwed n.val).raw (32 + n.val) = true) ∧
  (∀ (s : State) (k : Fin 16), s.runs → s.dev.get (Reg.OUT_RETRY_FROZEN k.val) = 0 →
    Completes (.retryExpiry ⟨k.val, by omega⟩) s fun d =>
      Dev.OnlyRegs [(Reg.OUT_RETRY_COUNT k.val).key, (Reg.OUT_RETRY_NEXT k.val).key]
        (s.dev.modOut k.val fun o => { o with retries := o.retries.drop 1 }) d ∧
      d.get (Reg.OUT_RETRY_COUNT k.val) = ((s.dev.out k.val).retries.length - 1) % 4) ∧
  (∀ (s : State) (str : Fin 64), s.runs → s.dev.get (Reg.OUT_STRCNT_FROZEN str.val) = 0 →
    Completes (.retryExpiry ⟨16 + str.val, by omega⟩) s fun d =>
      Dev.OnlyRegs [(Reg.OUT_STRCNT_COUNT str.val).key, (Reg.OUT_STRCNT_NEXT str.val).key]
        (s.dev.modStr str.val fun x => { x with retries := x.retries.drop 1 }) d ∧
      d.get (Reg.OUT_STRCNT_COUNT str.val) = ((s.dev.str str.val).retries.length - 1) % 4) ∧
  (∀ (s : State) (str : Fin 64), s.serves →
    Completes (.outStrlatchClear str) s fun d =>
      Dev.OnlyRegs [Reg.SYS_REFUSE_CODE.key] { s.dev with hostNext := s.dev.hostNext ++ [.strlatch str.val] } d ∧
      d.emitted = [.answer 0 0 []]) ∧
  (∀ (d : Dev) (str : Fin 64), d.bit2 Reg.OUT_STRLATCH_LO_LATCH Reg.OUT_STRLATCH_HI_LATCH str.val = true →
    (d.clearStrLatch str.val).bit2 Reg.OUT_STRLATCH_LO_LATCH Reg.OUT_STRLATCH_HI_LATCH str.val = false ∧
    (d.clearStrLatch str.val).get (Reg.OUT_STRCNT_LATCHED str.val) = 0 ∧
    (d.clearStrLatch str.val).get (Reg.OUT_STRCNT_COUNT str.val) = 0 ∧ (d.clearStrLatch str.val).inkState str.val = 4 ∧
    ((d.clearStrLatch str.val).str str.val).retries = [] ∧ ((d.clearStrLatch str.val).str str.val).readmit = true)

/-! ### Vehicle links -/

/-- SLAC_PARM_REQ, SLAC_SOUNDING_END, SLAC_MATCH_REQ, SLAC_VALIDATE_REQ, T1S_LINK_UP, T1S_LINK_DOWN, PLC_FRAME_RECEIVED,
PLC_RETRANSMISSION, BLANK_RATE_CHECK, BEACON, BEACON_FALLBACK, BEACON_RELOCK (R327 to R343): what each does to the link's state,
counters and messages. -/
def Obligations.vehicleLinksMatch : Prop :=
  (∀ (s : State) (n : Fin 16) (id : BitVec 64), s.hears → s.dev.sess n.val = 3 → s.dev.plcOn n.val = true →
    Completes (.slacParmReq n id) s fun d =>
      Dev.Said [(Reg.VLK_LINK_LSTATE n.val).key] n.val { s.dev with links := d.links } d ∧ d.get (Reg.VLK_LINK_LSTATE n.val) = 2 ∧
      ∃ r, d.links.run id.toNat = some r ∧ n.val ∈ r.answered ∧ r.stop = none) ∧
  (∀ (s : State) (id : BitVec 64) (sounds : List (List (List Nat))) (r : SlacRun), s.hears → s.dev.links.run id.toNat = some r →
    r.stop = none →
    Completes (.slacSoundingEnd id sounds) s fun d =>
      ∃ r', d.links.run id.toNat = some r' ∧ r'.stop = some s.dev.links.slacCount ∧ r'.answered = r.answered ∧
        (∀ w, r'.winner = some w → s.dev.sess w = 3 ∧ s.dev.plcOn w = true ∧ s.dev.links.taken w id.toNat r.start = false ∧
          d.get Reg.VLK_AMBIG_COUNT = s.dev.get Reg.VLK_AMBIG_COUNT) ∧
        (r'.winner = none → d.get Reg.VLK_AMBIG_COUNT = min (s.dev.get Reg.VLK_AMBIG_COUNT + 1) 65535 ∧ d.raw 96 = true) ∧
        s.dev.sameStores d) ∧
  (∀ (s : State) (n : Fin 16) (id : BitVec 64), s.hears → s.dev.links.wins n.val id.toNat = true → s.dev.sess n.val = 3 →
    s.dev.settled n.val →
    Completes (.slacMatchReq n id true) s fun d =>
      d.get (Reg.VLK_LINK_LSTATE n.val) = 3 ∧ d.bit Reg.VLK_STATUS_MATCHED n.val = true ∧
      (d.out n.val).next = some { state := 4, cause := 0, rank := 1 } ∧
      Dev.Said [(Reg.VLK_LINK_LSTATE n.val).key, Reg.VLK_STATUS_MATCHED.key] n.val
        { s.dev with outs := d.outs, links := d.links } d) ∧
  (∀ (s : State) (n : Fin 16) (id : BitVec 64) (joined : Bool), s.hears → s.dev.links.wins n.val id.toNat = false →
    Completes (.slacMatchReq n id joined) s fun d => Dev.OnlyRegs [] s.dev d) ∧
  (∀ (s : State) (n : Fin 16) (id : BitVec 64) (toggles : Nat), s.hears →
    s.dev.links.wins n.val id.toNat = true →
    Completes (.slacValidateReq n id toggles) s fun d =>
      Dev.Said [] n.val s.dev d ∧
      (s.dev.duplex = false → s.dev.plcOn n.val = true → s.dev.macBusy n.val = false →
        d.emitted = [.plc n.val (s.dev.plcPriority n.val 18) 18 [id.toNat, toggles]])) ∧
  (∀ (s : State) (n : Fin 16) (id : BitVec 64) (toggles : Nat), s.hears → s.dev.links.wins n.val id.toNat = false →
    Completes (.slacValidateReq n id toggles) s fun d => Dev.OnlyRegs [] s.dev d) ∧
  (∀ (s : State) (n : Fin 16), s.hears → s.dev.get (Reg.OUT_CFG_TYPE n.val) = 2 → s.dev.get (Reg.VLK_LINK_LSTATE n.val) ≠ 0 →
    s.dev.get (Reg.OUT_RETRY_PENDING n.val) = 0 → s.dev.settled n.val →
    Completes (.t1sLinkUp n) s fun d =>
      d.get (Reg.VLK_LINK_LSTATE n.val) = 5 ∧ d.bit Reg.VLK_STATUS_T1SUP n.val = true ∧
      Dev.OnlyRegs [(Reg.VLK_LINK_LSTATE n.val).key, Reg.VLK_STATUS_T1SUP.key, Reg.TB_STATUS_RUN.key]
        (if s.dev.sess n.val = 3 then s.dev.transits n.val 4 0 1 else s.dev) d) ∧
  (∀ (s : State) (n : Fin 16) (jabber : Bool), s.hears → s.dev.get (Reg.OUT_CFG_TYPE n.val) = 2 →
    s.dev.get (Reg.VLK_LINK_LSTATE n.val) = 5 →
    Completes (.t1sLinkDown n jabber) s fun d =>
      d.get (Reg.VLK_LINK_LSTATE n.val) = 4 ∧ d.bit Reg.VLK_STATUS_T1SUP n.val = false ∧
      (jabber = true → d.get (Reg.VLK_T1SSTAT_JABBER n.val) = min (s.dev.get (Reg.VLK_T1SSTAT_JABBER n.val) + 1) 255 ∧ d.raw 102 = true) ∧
      (s.dev.sess n.val = 9 → s.dev.settled n.val →
        (d.out n.val).next = some { state := 11, cause := 3, rank := 1 } ∧ d.raw 102 = true) ∧ s.dev.sameStores d) ∧
  (∀ (s : State) (n : Fin 16) (head : PlcHead) (symbols : List PlcSymbol) (blocks : List PlcBlock), s.runs → s.dev.plcOn n.val = true →
    Completes (.plcFrameReceived n head symbols blocks) s fun d =>
      d.get (Reg.VLK_LINK_ROBO n.val) = head.robo.val ∧
      (blocks.all (·.crcOk) = true → d.get (Reg.VLK_PBERR_COUNT n.val) = min (s.dev.get (Reg.VLK_PBERR_COUNT n.val)) 4294967295) ∧
      (symbols = [] → blocks.all (fun b => !b.crcOk && decide (b.syms.length ≠ 0)) = true →
        d.get (Reg.VLK_PBERR_COUNT n.val) = min (s.dev.get (Reg.VLK_PBERR_COUNT n.val) + blocks.length) 4294967295) ∧
      s.dev.now + head.reserved ≤ (d.plcMac n.val).busyUntil ∧
      (d.plcMac n.val).resolved = resolvedPriority head.prs0 head.prs1 ∧
      Dev.Said [(Reg.VLK_LINK_ROBO n.val).key, (Reg.VLK_LINK_SNR n.val).key, (Reg.VLK_BLANK_COUNT n.val).key,
          (Reg.VLK_ERASE_COUNT n.val).key, (Reg.VLK_PBERR_COUNT n.val).key, Reg.TB_STATUS_RUN.key] n.val { s.dev with links := d.links } d) ∧
  (∀ (s : State) (n : Fin 16) (fresh : Bool), s.runs → s.dev.plcOn n.val = true →
    Completes (.plcRetransmission n fresh) s fun d =>
      Dev.Said [(Reg.VLK_RETRY_COUNT n.val).key] n.val { s.dev with links := d.links } d ∧
      ((if fresh then 0 else (s.dev.link n.val).tries) < s.dev.get Reg.VLK_MACCFG_RETRY →
        (d.link n.val).tries = (if fresh then 0 else (s.dev.link n.val).tries) + 1 ∧
        d.get (Reg.VLK_RETRY_COUNT n.val) = min (s.dev.get (Reg.VLK_RETRY_COUNT n.val) + 1) 4294967295) ∧
      (s.dev.get Reg.VLK_MACCFG_RETRY ≤ (if fresh then 0 else (s.dev.link n.val).tries) →
        (d.link n.val).tries = 0 ∧ d.get (Reg.VLK_RETRY_COUNT n.val) = s.dev.get (Reg.VLK_RETRY_COUNT n.val))) ∧
  (∀ s : State, s.runs →
    Completes .blankRateCheck s fun d =>
      ∀ n < 16, (d.link n).blankSec = 0 ∧
        (1000 * s.dev.get Reg.VLK_NOISECFG_EVTRATE < (s.dev.link n).blankSec →
          d.bit (Reg.VLK_LINK_EVCAUSE n) 2 = true ∧ d.raw 98 = true)) ∧
  (∀ (s : State) (cycles : Nat), s.runs →
    Completes (.beacon cycles) s fun d =>
      (s.dev.get Reg.VLK_BCNSTAT_STATE = 0 → s.dev.links.beaconPos < 2 → Dev.OnlyRegs [] s.dev d ∧ d.emitted = []) ∧
      (s.dev.get Reg.VLK_BCNSTAT_STATE = 0 → 2 ≤ s.dev.links.beaconPos →
        Dev.OnlyRegs [Reg.VLK_BCNSTAT_PERIOD.key] { s.dev with links := { s.dev.links with beaconPos := 0 } } d ∧
        d.get Reg.VLK_BCNSTAT_PERIOD = min (cycles / 10000) 65535) ∧
      (s.dev.get Reg.VLK_BCNSTAT_STATE = 1 →
        Dev.OnlyRegs [Reg.VLK_BCNSTAT_PERIOD.key] { s.dev with links := { s.dev.links with beaconPos := 0 } } d ∧
        d.get Reg.VLK_BCNSTAT_PERIOD = if s.dev.get Reg.VLK_BCNCFG_NOMHZ = 1 then 3333 else 4000) ∧
      (s.dev.duplex = false →
        (s.dev.get Reg.VLK_BCNSTAT_STATE = 1 ∨ s.dev.get Reg.VLK_BCNSTAT_STATE = 2 ∨ 2 ≤ s.dev.links.beaconPos) →
        ∀ n < 16, s.dev.plcOn n = true → .plc n 1 14 [s.dev.get Reg.VLK_BCNCFG_OFFSET] ∈ d.emitted) ∧
      (s.dev.get Reg.VLK_BCNSTAT_STATE = 2 →
        d.links.beaconErr = s.dev.links.beaconErr - max (-100) (min 100 s.dev.links.beaconErr) ∧
        (s.dev.links.beaconErr.natAbs ≤ 110 → d.get Reg.VLK_BCNSTAT_STATE = 0 ∧ d.raw 97 = true) ∧
        (110 < s.dev.links.beaconErr.natAbs → d.get Reg.VLK_BCNSTAT_STATE = 2))) ∧
  (∀ s : State, s.runs → s.dev.get Reg.VLK_BCNSTAT_STATE ≠ 1 →
    Completes .beaconFallback s fun d =>
      Dev.OnlyRegsAndEvents (Reg.VLK_BCNSTAT_STATE.key :: Reg.VLK_BCNSTAT_MISSED.key ::
        (List.range 16).map fun n => (Reg.VLK_LINK_EVCAUSE n).key) { s.dev with links := d.links } d ∧
      d.get Reg.VLK_BCNSTAT_STATE = 1 ∧ d.get Reg.VLK_BCNSTAT_MISSED = min (max 3 (s.dev.get Reg.VLK_BCNSTAT_MISSED + 1)) 15 ∧
      d.links.beaconGood = 0 ∧ d.raw 97 = true) ∧
  (∀ (s : State) (err : Int), s.runs → s.dev.get Reg.VLK_BCNSTAT_STATE = 1 → 8 ≤ s.dev.links.beaconGood →
    Completes (.beaconRelock err) s fun d =>
      d.links.beaconErr = err ∧ (err.natAbs ≤ 10 → d.get Reg.VLK_BCNSTAT_STATE = 0 ∧ d.raw 97 = true) ∧
      (10 < err.natAbs → d.get Reg.VLK_BCNSTAT_STATE = 2))

/-- V2G_MESSAGE, RELAY_ANSWER, RELAY_TIMEOUT, VLK_IDCMD_GENERATE, VLK_IDCMD_INSTALL, VLK_IDCMD_ERASE, IDENTITY_EXPIRY_CHECK (R344
to R357): session messages, relays through the host, identities. That GENERATE is refused in Decommissioned with code 10 is the
model's choice (log 122). Keys and what a chain says are free values of the model (Config). -/
def Obligations.messagesRelaysAndIdentities : Prop :=
  ((∀ (s : State) (n : Fin 16) (src : BitVec 48) (m : V2g), s.hears → s.dev.evccid n.val ≠ 0 → s.dev.evccid n.val ≠ src.toNat →
    Completes (.v2gMessage n src m) s fun d => Dev.Answered [] n.val s.dev d) ∧
  (∀ (s : State) (n : Fin 16) (src : BitVec 48) (h : Handshake), s.hears → 4 ≤ s.dev.sess n.val → s.dev.sess n.val ≤ 6 →
    s.dev.evccid n.val = src.toNat → s.dev.settled n.val → s.dev.handshakeOk n.val h = false →
    Completes (.v2gMessage n src (.tls h)) s fun d =>
      d.get (Reg.VLK_TLS_ALERT n.val) = h.alert.toNat ∧ d.get (Reg.VLK_LINK_TLSVER n.val) = 0 ∧ d.raw 99 = true ∧
      d.bit (Reg.VLK_LINK_EVCAUSE n.val) 3 = true ∧ (d.out n.val).next = some { state := 14, cause := 3, rank := 1 } ∧ s.dev.sameStores d) ∧
  (∀ (s : State) (n : Fin 16) (src : BitVec 48) (h : Handshake), s.hears → 5 ≤ s.dev.sess n.val → s.dev.sess n.val ≤ 13 →
    s.dev.evccid n.val = src.toNat → s.dev.handshakeOk n.val h = true →
    Completes (.v2gMessage n src (.tls h)) s fun d =>
      Dev.Answered [(Reg.VLK_TLS_SLOT n.val).key, (Reg.VLK_TLS_ALERT n.val).key, (Reg.VLK_LINK_TLSVER n.val).key] n.val s.dev d ∧
      d.get (Reg.VLK_TLS_SLOT n.val) =
        s.dev.get (if h.v13 then Reg.VLK_OUTCFG_ID20 n.val else Reg.VLK_OUTCFG_ID2 n.val) % 2 ^ (Reg.VLK_TLS_SLOT n.val).width ∧
      d.get (Reg.VLK_TLS_ALERT n.val) = 0 ∧ d.get (Reg.VLK_LINK_TLSVER n.val) = if h.v13 then 2 else 1)) ∧
  ((∀ (s : State) (n : Fin 16) (src : BitVec 48) (dynamic : Bool) (sec wh : BitVec 32), s.hears → 5 ≤ s.dev.sess n.val →
    s.dev.sess n.val ≤ 13 → s.dev.evccid n.val = src.toNat →
    Completes (.v2gMessage n src (.departure dynamic sec wh)) s fun d =>
      Dev.Answered [(Reg.VLK_DEPART_VALUE n.val).key, (Reg.VLK_ENERGY_VALUE n.val).key] n.val
        (s.dev.modOut n.val fun o => { o with depart := (d.out n.val).depart }) d ∧
      ((d.out n.val).depart = none ↔ sec = 0 ∨ wh = 0) ∧
      d.get (Reg.VLK_DEPART_VALUE n.val) = sec.toNat ∧ d.get (Reg.VLK_ENERGY_VALUE n.val) = wh.toNat) ∧
  (∀ (s : State) (n : Fin 16) (src : BitVec 48) (es : List (Nat × Nat)), s.hears → 5 ≤ s.dev.sess n.val → s.dev.sess n.val ≤ 13 →
    s.dev.evccid n.val = src.toNat →
    Completes (.v2gMessage n src (.profile es)) s fun d =>
      Dev.Answered [] n.val
        (s.dev.modOut n.val fun o => { o with schedule := es.map fun e => { at_ := e.2, amount := e.1 : Trigger } }) d) ∧
  (∀ (s : State) (n : Fin 16) (src : BitVec 48), s.hears → s.dev.sess n.val = 12 → s.dev.evccid n.val = src.toNat →
    Completes (.v2gMessage n src .weldingDetection) s fun d =>
      Dev.Answered [] n.val s.dev d ∧
      (s.dev.duplex = false → s.dev.plcOn n.val = false →
        d.emitted = [.vehicle n.val 24 [ofSigned 32 (s.dev.out n.val).senseV]])) ∧
  (∀ (s : State) (n : Fin 16) (src : BitVec 48) (upd : Bool) (req : List Byte), s.hears → 5 ≤ s.dev.sess n.val →
    s.dev.sess n.val ≤ 13 → s.dev.evccid n.val = src.toNat → s.dev.relays n.val upd = true → s.dev.get Reg.VLK_RELAYCFG_EN ≠ 0 →
    Completes (.v2gMessage n src (.certificate upd req)) s fun d =>
      d.get (Reg.VLK_RELAY_STATE n.val) = 1 ∧ d.get (Reg.VLK_RELAY_KIND n.val) = (if upd then 2 else 1) ∧
      d.get (Reg.VLK_RELAY_REQLEN n.val) = min 2048 req.length ∧ d.mode = s.dev.mode ∧ d.flash = s.dev.flash) ∧
  (∀ (s : State) (n : Fin 16) (src : BitVec 48), s.hears → s.dev.sess n.val = 4 → s.dev.evccid n.val = 0 →
    Completes (.v2gMessage n src .other) s fun d =>
      Dev.Answered [(Reg.VLK_EVID_LO_ID n.val).key, (Reg.VLK_EVID_HI_ID n.val).key] n.val s.dev d ∧ d.evccid n.val = src.toNat)) ∧
  (∀ (s : State), s.runs → s.dev.get (Reg.PGH_STAT_STATE (s.dev.get Reg.VLK_RELAYCFG_PGH)) = 3 →
    3 ≤ s.dev.get (Reg.PGH_STAT_SNDAGENT (s.dev.get Reg.VLK_RELAYCFG_PGH)) →
    s.dev.get (Reg.PGH_STAT_SNDAGENT (s.dev.get Reg.VLK_RELAYCFG_PGH)) ≤ 10 →
    s.dev.get (Reg.VLK_RELAY_STATE (s.dev.get (Reg.PGH_DATA_DATA (s.dev.get Reg.VLK_RELAYCFG_PGH) 0) % 16)) = 1 →
    Completes .relayAnswer s fun d =>
      d.get (Reg.VLK_RELAY_STATE (s.dev.get (Reg.PGH_DATA_DATA (s.dev.get Reg.VLK_RELAYCFG_PGH) 0) % 16)) = 2 ∧ s.dev.sameStores d) ∧
  (∀ (s : State) (n : Fin 16), s.runs → s.dev.get (Reg.VLK_RELAY_STATE n.val) = 1 →
    Completes (.relayTimeout n) s fun d =>
      d.get (Reg.VLK_RELAY_STATE n.val) = 3 ∧ d.raw 100 = true ∧ d.bit (Reg.VLK_LINK_EVCAUSE n.val) 4 = true ∧
      (d.link n.val).waits = false ∧
      (s.dev.get (Reg.VLK_RELAY_KIND n.val) = 3 → s.dev.sess n.val = 5 → s.dev.settled n.val →
        (d.out n.val).next = some (if s.dev.get Reg.VLK_TLSCFG_UNKNOWN = 1 then { state := 6, cause := 0, rank := 1 }
          else { state := 14, cause := 4, rank := 1 })) ∧ s.dev.sameStores d) ∧
  (∀ (s : State) (ix : Fin 4) (curve : Fin 2), s.serves → (s.dev.mode = .commission ∨ s.dev.mode = .idle) →
    s.dev.lifecycle ≠ 3 →
    Completes (.vlkIdcmdGenerate ix curve) s fun d =>
      d.get (Reg.VLK_IDSTAT_STATE ix.val) = 1 ∧ d.get (Reg.VLK_IDSTAT_CURVE ix.val) = curve.val ∧ d.get (Reg.VLK_IDSTAT_DAYS ix.val) = 0 ∧
      (d.idSlot ix.val).key.isSome = true ∧ (d.idSlot ix.val).chain = none ∧
      Dev.OnlyRegs [Reg.SYS_REFUSE_CODE.key, (Reg.VLK_IDSTAT_STATE ix.val).key, (Reg.VLK_IDSTAT_CURVE ix.val).key,
        (Reg.VLK_IDSTAT_DAYS ix.val).key] { s.dev with box := d.box, freeCtr := s.dev.freeCtr + 1 } d ∧ d.emitted = [.answer 0 0 []]) ∧
  (∀ (s : State) (ix : Fin 4), s.serves → (s.dev.mode = .commission ∨ s.dev.mode = .idle) →
    Completes (.vlkIdcmdErase ix) s fun d =>
      d.get (Reg.VLK_IDSTAT_STATE ix.val) = 0 ∧ d.get (Reg.VLK_IDSTAT_CURVE ix.val) = 0 ∧ d.get (Reg.VLK_IDSTAT_DAYS ix.val) = 0 ∧
      d.idSlot ix.val = {} ∧
      Dev.OnlyRegs [Reg.SYS_REFUSE_CODE.key, (Reg.VLK_IDSTAT_STATE ix.val).key, (Reg.VLK_IDSTAT_CURVE ix.val).key,
        (Reg.VLK_IDSTAT_DAYS ix.val).key] { s.dev with box := d.box } d ∧ d.emitted = [.answer 0 0 []]) ∧
  (∀ (s : State) (ix : Fin 4) (len : BitVec 14), s.serves → (s.dev.mode = .commission ∨ s.dev.mode = .idle) → 1 ≤ len.toNat →
    len.toNat ≤ 8192 →
    Completes (.vlkIdcmdInstall ix len) s fun d =>
      ((s.dev.idSlot ix.val).key = none → d.get (Reg.VLK_IDSTAT_STATE ix.val) = 3) ∧
      (∀ k, (s.dev.idSlot ix.val).key = some k →
        d.get (Reg.VLK_IDSTAT_STATE ix.val) =
          if Config.chainNamesKey (s.dev.sramBytes s.dev.hostWin 0 len.toNat) (Config.publicKey k) = false then 3
          else if Config.chainVerifies (s.dev.sramBytes s.dev.hostWin 0 len.toNat) (s.dev.roots.map fun r => r.2.2) = false ∨
            (s.dev.inDate (s.dev.sramBytes s.dev.hostWin 0 len.toNat) = false ∧
              s.dev.leafGone (s.dev.sramBytes s.dev.hostWin 0 len.toNat) = false) then 4
          else if s.dev.leafGone (s.dev.sramBytes s.dev.hostWin 0 len.toNat) = true then 5 else 2) ∧
      Dev.OnlyRegs [Reg.SYS_REFUSE_CODE.key, (Reg.VLK_IDSTAT_STATE ix.val).key, (Reg.VLK_IDSTAT_CURVE ix.val).key,
        (Reg.VLK_IDSTAT_DAYS ix.val).key] { s.dev with box := d.box } d ∧ d.emitted = [.answer 0 0 []]) ∧
  (∀ (s : State) (ix : Fin 4) (curve : Fin 2), s.serves → (s.dev.mode = .commission ∨ s.dev.mode = .idle) → s.dev.lifecycle = 3 →
    Completes (.vlkIdcmdGenerate ix curve) s fun d =>
      Dev.OnlyRegs [Reg.SYS_REFUSE_CODE.key, Reg.SYS_REFUSE_ADDR.key] s.dev d ∧ d.get Reg.SYS_REFUSE_CODE = 10) ∧
  (∀ (s : State) (ix : Fin 4) (curve : Fin 2), s.serves → s.dev.mode ≠ .commission → s.dev.mode ≠ .idle →
    Completes (.vlkIdcmdGenerate ix curve) s fun d =>
      Dev.OnlyRegs [Reg.SYS_REFUSE_CODE.key, Reg.SYS_REFUSE_ADDR.key] s.dev d ∧ d.get Reg.SYS_REFUSE_CODE = 3 ∧
      d.get Reg.SYS_REFUSE_ADDR = Reg.VLK_IDCMD_OP.addr % 2 ^ 24 ∧ d.emitted = [.answer 1 3 []]) ∧
  (∀ s : State, s.runs → s.dev.timeKnown = false →
    Completes .identityExpiryCheck s fun d =>
      Dev.OnlyRegsAndEvents (Reg.VLK_ROOTSTAT_VALID.key :: (List.range 16).map fun n => (Reg.VLK_LINK_EVCAUSE n).key) s.dev d ∧
      d.get Reg.VLK_ROOTSTAT_VALID = 0 ∧ d.raw 101 = true) ∧
  (∀ s : State, s.runs → s.dev.timeKnown = true →
    Completes .identityExpiryCheck s fun d =>
      ∀ ix < 4, ∀ c, (s.dev.idSlot ix).chain = some c →
        d.get (Reg.VLK_IDSTAT_STATE ix) = (if Config.chainExpiry c ≤ s.dev.rtc ∨ Config.chainEnd c ≤ s.dev.rtc then 5 else 2) ∧
        d.get (Reg.VLK_IDSTAT_DAYS ix) =
          if Config.chainExpiry c ≤ s.dev.rtc ∨ Config.chainEnd c ≤ s.dev.rtc then 0
          else min ((Config.chainExpiry c - s.dev.rtc) / 86400) 65535)

/-! ### Cables and the die -/

/-- RTD_CONVERSION, RTD_FAULT, FLOW_UPDATE, FLOW_FAULT, CABLE_MODEL_UPDATE, CEILING_COMPUTE, OUTLET_THERMAL_LATCH,
OUTLET_LATCH_RELEASE, STRING_THERMAL_LATCH, STRING_LATCH_RELEASE, RUNON_END (R358 to R379): readings and their faults, the cable's
model, the ceiling that follows from them, the thermal latches and their release. How FLOW's quotient rounds is a free value of
the model (log 13). -/
def Obligations.cablesAreGuarded : Prop :=
  (∀ (s : State) (readings : List (BitVec 16)), s.hears → readings.length = 64 →
    Completes (.rtdConversion readings) s fun d =>
      (∀ n < 16, ∀ k < 4, d.get (Reg.CAB_RTD_TEMP n k) = (readings.getD (4 * n + k) 0).toNat) ∧
      Dev.OnlyRegs ((List.range 16).flatMap fun n => (List.range 4).map fun k => (Reg.CAB_RTD_TEMP n k).key)
        { s.dev with therm := d.therm } d) ∧
  (∀ (s : State) (n : Fin 16) (k : Fin 4) (faulted : Bool), s.runs → s.dev.rtdBad n.val k.val ≠ faulted →
    decide (s.dev.rtd n.val k.val < -5000 ∨ 20000 < s.dev.rtd n.val k.val) = faulted →
    Completes (.rtdFault n k faulted) s fun d =>
      Dev.OnlyRegsAndEvents [(Reg.CAB_STAT_SENSFLT n.val).key] s.dev d ∧ d.rtdBad n.val k.val = faulted ∧ d.raw 68 = true) ∧
  (∀ (s : State) (edges : List Nat), s.hears →
    Completes (.flowUpdate edges) s fun d =>
      (∀ n < 16, s.dev.hasFlow n = true → s.dev.get (Reg.CAB_FLOWCFG_KFACT n) ≠ 0 → s.dev.get (Reg.CAB_FLOWCFG_GPIO n) < 16 →
        d.get (Reg.CAB_STAT_FLOW n) = min (quot ((((edges.getD (s.dev.get (Reg.CAB_FLOWCFG_GPIO n)) 0 ::
          tget [] s.dev.therm.edges (s.dev.get (Reg.CAB_FLOWCFG_GPIO n))).take 4).foldl (· + ·) 0 * 6000 : Nat) : Int)
          (s.dev.get (Reg.CAB_FLOWCFG_KFACT n))).toNat 65535) ∧
      Dev.OnlyRegs ((List.range 16).map fun n => (Reg.CAB_STAT_FLOW n).key) { s.dev with therm := d.therm } d) ∧
  (∀ (s : State) (n : Fin 16), s.runs → s.dev.hasFlow n.val = true →
    (s.dev.get (Reg.CAB_STAT_FLOWFLT n.val) = 0 → s.dev.get (Reg.CAB_STAT_FLOW n.val) < 100 * s.dev.get (Reg.CAB_FLOWCFG_FMIN n.val) →
      1000 * s.dev.get (Reg.CAB_FLOWCFG_MINDUTY n.val) ≤ s.dev.thermalDuty (80 + n.val) → s.dev.cooling n.val = true →
      Completes (.flowFault n true) s fun d =>
        Dev.OnlyRegsAndEvents [(Reg.CAB_STAT_FLOWFLT n.val).key] s.dev d ∧ d.get (Reg.CAB_STAT_FLOWFLT n.val) = 1 ∧ d.raw 68 = true) ∧
    (s.dev.get (Reg.CAB_STAT_FLOWFLT n.val) = 1 → 100 * s.dev.get (Reg.CAB_FLOWCFG_FMIN n.val) ≤ s.dev.get (Reg.CAB_STAT_FLOW n.val) →
      Completes (.flowFault n false) s fun d =>
        Dev.OnlyRegsAndEvents [(Reg.CAB_STAT_FLOWFLT n.val).key] s.dev d ∧ d.get (Reg.CAB_STAT_FLOWFLT n.val) = 0 ∧ d.raw 68 = true)) ∧
  (∀ s : State, s.runs →
    Completes .cableModelUpdate s fun d =>
      (∀ n < 16, s.dev.get (Reg.OUT_CFG_TYPE n) ≠ 0 → (s.dev.cable n).started = true →
        d.cable n = (s.dev.cableStep n).cable n ∧
        d.get (Reg.CAB_TEMP_HOTSPOT n) = ofSigned 16 (quot (100 * (d.cable n).hot) 65536) ∧
        d.get (Reg.CAB_TEMP_COOLANT n) = ofSigned 16 (quot (100 * (d.cable n).tk) 65536) ∧
        (s.dev.supply n = none → d.cable n = s.dev.cable n)) ∧
      Dev.OnlyRegs ((List.range 16).flatMap fun n => [(Reg.CAB_TEMP_HOTSPOT n).key, (Reg.CAB_TEMP_COOLANT n).key])
        { s.dev with therm := d.therm } d) ∧
  (∀ s : State, s.runs →
    Completes .ceilingCompute s fun d =>
      Dev.OnlyRegsAndEvents (Reg.CAB_STATUS_LIMITING.key :: (List.range 16).flatMap fun n => [(Reg.CAB_CEIL_CEIL n).key, (Reg.CAB_CEIL_SRC n).key])
        s.dev d ∧
      ∀ n < 16, s.dev.get (Reg.OUT_CFG_TYPE n) ≠ 0 → s.dev.get (Reg.OUT_RATING_IMAX n) < 2 ^ 16 →
        d.get (Reg.CAB_CEIL_CEIL n) ≤ s.dev.get (Reg.OUT_RATING_IMAX n) ∧
        d.bit Reg.CAB_STATUS_LIMITING n = decide (d.get (Reg.CAB_CEIL_CEIL n) < s.dev.get (Reg.OUT_RATING_IMAX n)) ∧
        (s.dev.get (Reg.CAB_STAT_LATCH n) = 1 → d.get (Reg.CAB_CEIL_CEIL n) = 0 ∧ d.get (Reg.CAB_CEIL_SRC n) = 3) ∧
        (s.dev.get (Reg.CAB_STAT_LATCH n) = 0 →
          ((s.dev.rtdBad n 0 = true ∧ s.dev.rtdBad n 1 = true) ∨ (s.dev.rtdBad n 2 = true ∧ s.dev.rtdBad n 3 = true)) →
          d.get (Reg.CAB_CEIL_CEIL n) = 0 ∧ d.get (Reg.CAB_CEIL_SRC n) = 4) ∧
        (s.dev.get (Reg.CAB_STAT_LATCH n) = 0 → (∀ k < 4, s.dev.rtdBad n k = false) → (s.dev.cable n).started = true →
          s.dev.cableCeiling n = none →
          max (s.dev.rtd n 2) (s.dev.rtd n 3) ≤ 100 * (s.dev.get (Reg.CAB_OCFG_CLIM n) : Int) - 100 * (s.dev.get (Reg.CAB_OCFG2_BAND n) : Int) →
          d.get (Reg.CAB_CEIL_CEIL n) = s.dev.get (Reg.OUT_RATING_IMAX n) ∧ d.get (Reg.CAB_CEIL_SRC n) = 0)) ∧
  (∀ (s : State) (n : Fin 16), s.runs → s.dev.get (Reg.CAB_STAT_LATCH n.val) = 0 →
    (((s.dev.cable n.val).started = true ∧
        ((s.dev.get (Reg.CAB_OCFG_TLIM n.val) + s.dev.get (Reg.CAB_OCFG2_TRIPM n.val) : Nat) : Int) * 65536 < (s.dev.cable n.val).hot) ∨
      ∃ k : Fin 2, s.dev.rtdBad n.val (2 + k.val) = false ∧
        100 * ((s.dev.get (Reg.CAB_OCFG_CLIM n.val) + s.dev.get (Reg.CAB_OCFG2_TRIPM n.val) : Nat) : Int) < s.dev.rtd n.val (2 + k.val)) →
    Completes (.outletThermalLatch n) s fun d =>
      Dev.OnlyRegsAndEvents [(Reg.CAB_STAT_LATCH n.val).key, Reg.CAB_STATUS_LATCH.key, (Reg.OUT_RETRY_FROZEN n.val).key,
        (Reg.CAB_CEIL_CEIL n.val).key, (Reg.CAB_CEIL_SRC n.val).key, Reg.CAB_STATUS_LIMITING.key] s.dev d ∧
      d.get (Reg.CAB_STAT_LATCH n.val) = 1 ∧ d.bit Reg.CAB_STATUS_LATCH n.val = true ∧ d.get (Reg.OUT_RETRY_FROZEN n.val) = 1 ∧
      d.get (Reg.CAB_CEIL_CEIL n.val) = 0 ∧ d.get (Reg.CAB_CEIL_SRC n.val) = 3 ∧ d.raw 67 = true) ∧
  (∀ (s : State) (n : Fin 16) (c : Int), s.runs → s.dev.get (Reg.CAB_STAT_LATCH n.val) = 1 →
    (s.dev.cable n.val).hot < ((s.dev.get (Reg.CAB_OCFG_TLIM n.val) : Int) - s.dev.get (Reg.CAB_OCFG2_HYST n.val)) * 65536 →
    s.dev.contact n.val = some c → c < 100 * ((s.dev.get (Reg.CAB_OCFG_CLIM n.val) : Int) - s.dev.get (Reg.CAB_OCFG2_HYST n.val)) →
    s.dev.rtdBad n.val 0 = false → s.dev.rtdBad n.val 1 = false → s.dev.sf6Acts n.val = false →
    Completes (.outletLatchRelease n) s fun d =>
      Dev.OnlyRegsAndEvents [(Reg.CAB_STAT_LATCH n.val).key, Reg.CAB_STATUS_LATCH.key, (Reg.OUT_RETRY_FROZEN n.val).key] s.dev d ∧
      d.get (Reg.CAB_STAT_LATCH n.val) = 0 ∧ d.bit Reg.CAB_STATUS_LATCH n.val = false ∧ d.get (Reg.OUT_RETRY_FROZEN n.val) = flag s.dev.deviceLatch ∧
      d.raw 67 = true) ∧
  (∀ (s : State) (str : Fin 64), s.runs → 3 ≤ (s.dev.str str.val).hotRun → 1 ≤ s.dev.inkState str.val → s.dev.inkState str.val ≤ 3 →
    Completes (.stringThermalLatch str) s fun d =>
      Dev.OnlyRegsAndEvents ([Reg.THM_STRLATCH_LO_LATCH.key, Reg.THM_STRLATCH_HI_LATCH.key, (Reg.OUT_STRCNT_FROZEN str.val).key] ++
          (List.range 16).map fun c => (Reg.INK_COURSE_HEALTHY c).key)
        ({ s.dev with arcDirty := d.arcDirty }.modStr str.val fun x => { x with thermHold := false }) d ∧
      d.strFrozen str.val = true ∧ d.healthy str.val = false ∧ d.get (Reg.OUT_STRCNT_FROZEN str.val) = 1 ∧
      (∀ n < 16, d.arcDirty.testBit n = (s.dev.arcDirty.testBit n || decide (s.dev.courseArc (str.val / 4) = n))) ∧ d.raw 70 = true) ∧
  (∀ (d : Dev) (str : Fin 64), d.strFrozen str.val = true → 1 ≤ d.inkState str.val → d.inkState str.val ≤ 3 →
    d.dropStrings.inkState str.val = 7 ∧ d.dropStrings.weight str.val = 0) ∧
  (∀ (s : State) (str : Fin 64), s.runs → s.dev.strFrozen str.val = true →
    toSigned 12 (s.dev.str str.val).up.temp < 10 * (s.dev.get Reg.THM_STRLIM_REL : Int) → (s.dev.str str.val).up.overTemp = false →
    s.dev.get (Reg.STR_STRSTAT_FAULT str.val) = 0 →
    Completes (.stringLatchRelease str) s fun d =>
      Dev.OnlyRegsAndEvents [Reg.THM_STRLATCH_LO_LATCH.key, Reg.THM_STRLATCH_HI_LATCH.key, (Reg.OUT_STRCNT_FROZEN str.val).key]
        (s.dev.modStr str.val fun x => { x with thermHold := true }) d ∧
      d.strFrozen str.val = false ∧ d.get (Reg.OUT_STRCNT_FROZEN str.val) = flag s.dev.deviceLatch ∧ d.raw 70 = true) ∧
  (∀ (s : State) (n : Fin 16), s.runs → s.dev.get (Reg.CAB_STAT_RUNON n.val) = 1 →
    (Completes (.runonEnd n true) s fun d =>
      Dev.OnlyRegsAndEvents [(Reg.CAB_STAT_RUNON n.val).key] s.dev d ∧ d.get (Reg.CAB_STAT_RUNON n.val) = 0 ∧ d.raw 71 = true) ∧
    (s.dev.live n.val = true → Completes (.runonEnd n false) s fun d =>
      Dev.OnlyRegs [(Reg.CAB_STAT_RUNON n.val).key] s.dev d ∧ d.get (Reg.CAB_STAT_RUNON n.val) = 0))

/-- DIODE_CONVERSION, DIODE_FAULT_CLEAR, RATE_UPDATE, DIE_WARNING, HARDWARE_TRIP, SHUTDOWN_OUTPUT_RELEASE, SHUTDOWN_PEAK_UPDATE,
RECOVERY_DWELL_COMPLETE, RTC_COMPENSATION (R380 to R392): the die's conversions, its throttle and its shutdown. -/
def Obligations.theDieThrottlesAndShutsDown : Prop :=
  (∀ (s : State) (raw : BitVec 16), s.runs →
    (raw.toInt < -880 ∨ 2800 < raw.toInt ∨ (∃ p, s.dev.therm.lastConv = some p ∧ 160 < (raw.toInt - p).natAbs)) → s.dev.get Reg.THM_STATUS_DIODEFLT = 0 →
    Completes (.diodeConversion raw) s fun d =>
      d.get Reg.THM_STATUS_DIODEFLT = 1 ∧ d.get Reg.THM_STATUS_FRAC = 512 ∧ d.therm.frac = 5120000 ∧ d.therm.goodRun = 0 ∧
      d.getI Reg.THM_DIODE_TEMP = s.dev.getI Reg.THM_DIODE_TEMP ∧ d.raw 71 = true ∧ s.dev.sameStores d) ∧
  (∀ (s : State) (raw : BitVec 16), s.runs → -880 ≤ raw.toInt → raw.toInt ≤ 2800 →
    (∀ p, s.dev.therm.lastConv = some p → (raw.toInt - p).natAbs ≤ 160) →
    s.dev.get Reg.THM_STATUS_DIODEFLT = 0 →
    Completes (.diodeConversion raw) s fun d =>
      ((s.dev.mode = .standby ∨ s.dev.mode = .idle ∨ s.dev.mode = .serve ∨ s.dev.mode = .island) →
        d.getI Reg.THM_DIODE_TEMP = raw.toInt ∧ d.therm.lastConv = some raw.toInt ∧ d.therm.goodRun = s.dev.therm.goodRun + 1 ∧
        s.dev.sameStores d) ∧
      ((s.dev.mode = .boot ∨ s.dev.mode = .selftest ∨ s.dev.mode = .commission ∨ s.dev.mode = .recovery) →
        s.dev.shutLevel ≤ raw.toInt →
        d.mode = .thermal ∧ d.get Reg.THM_SHUT1_VALID = 1 ∧ d.get Reg.THM_SHUT1_RELEASED = 0 ∧ d.get Reg.THM_SHUT1_CAUSE = 0 ∧
        d.get Reg.THM_SHUT1_MODE = s.dev.mode.code ∧ d.raw 66 = true ∧ d.raw 0 = true) ∧
      (s.dev.mode = .thermal → raw.toInt < s.dev.releaseLevel → d.mode = .recovery ∧ d.get Reg.THM_SHUT2_DWELL = 0 ∧ d.raw 0 = true)) ∧
  (∀ s : State, s.runs → s.dev.get Reg.THM_STATUS_DIODEFLT = 1 → 1000 ≤ s.dev.therm.goodRun →
    Completes .diodeFaultClear s fun d =>
      d.get Reg.THM_STATUS_DIODEFLT = 0 ∧ d.get Reg.THM_STATUS_FRAC = 1024 ∧ d.therm.frac = 10240000 ∧ d.therm.blocks = [] ∧
      d.get Reg.THM_STATUS_WARN = 0 ∧ s.dev.sameStores d) ∧
  (∀ s : State, s.runs → s.dev.get Reg.THM_STATUS_REGIME = 0 → s.dev.get Reg.THM_STATUS_DIODEFLT = 0 →
    Completes .rateUpdate s fun d =>
      d.therm.blocks = ((s.dev.therm.sum, s.dev.therm.n) :: s.dev.therm.blocks).take 20 ∧ d.therm.sum = 0 ∧ d.therm.n = 0 ∧
      (s.dev.therm.blocks.length < 19 → Dev.OnlyRegs [] { s.dev with therm := d.therm } d) ∧
      (∀ r, d.dieRate = some r →
        d.get Reg.THM_DIODE_RATE = ofSigned 16 r ∧
        (r ≤ 10 * (s.dev.get Reg.THM_RATECFG_THRRATE : Int) → d.therm.frac = min 10240000 (s.dev.therm.frac + 51200)) ∧
        d.therm.frac ≤ s.dev.therm.frac + 51200) ∧ s.dev.sameStores d) ∧
  (∀ s : State, s.runs → s.dev.get Reg.THM_STATUS_REGIME = 0 → s.dev.get Reg.THM_STATUS_WARN = 0 →
    10 * (s.dev.get Reg.THM_RATECFG_WARNRATE : Int) ≤ s.dev.getI Reg.THM_DIODE_RATE →
    Completes .dieWarning s fun d =>
      Dev.OnlyRegsAndEvents [Reg.THM_STATUS_WARN.key] s.dev d ∧ d.get Reg.THM_STATUS_WARN = 1 ∧ d.raw 64 = true) ∧
  (∀ s : State, s.dev.mode ≠ .off → s.dev.mode ≠ .thermal → s.dev.mode ≠ .lastGasp →
    Completes .hardwareTrip s fun d =>
      d.mode = .thermal ∧ d.get Reg.THM_SHUT1_VALID = 1 ∧ d.get Reg.THM_SHUT1_CAUSE = 1 ∧
      d.get Reg.THM_SHUT1_MODE = s.dev.mode.code ∧ d.get Reg.THM_SHUT0_SEC = s.dev.rtc % 2 ^ 32 ∧ d.raw 66 = true ∧ d.sram = s.dev.sram ∧
      d.flash = s.dev.flash) ∧
  (∀ s : State, s.dev.mode = .lastGasp →
    Completes .hardwareTrip s fun d => Dev.OnlyRegs [] (s.dev.modTherm fun x => { x with gaspTrip := true }) d) ∧
  (∀ s : State, s.dev.mode = .thermal → (s.dev.keyholder && s.dev.dup.partEligible) = false →
    Completes .shutdownOutputRelease s fun d => (∀ n < 16, d.soutOn n = false) ∧ s.dev.sameStores d) ∧
  (∀ s : State, s.runs → s.dev.mode = .thermal → s.dev.get Reg.THM_DIODE_TEMP < 2 ^ 16 →
    Completes .shutdownPeakUpdate s fun d =>
      Dev.OnlyRegs [Reg.THM_SHUT2_PEAK.key] s.dev d ∧
      d.getI Reg.THM_SHUT2_PEAK = max (s.dev.getI Reg.THM_SHUT2_PEAK) (s.dev.getI Reg.THM_DIODE_TEMP)) ∧
  (∀ s : State, s.runs → s.dev.mode = .recovery → s.dev.recoveryDwell = true → s.dev.therm.dwellStart.isSome = true →
    Completes .recoveryDwellComplete s fun d =>
      (s.dev.copyPasses false = false → s.dev.copyPasses true = false →
        d.mode = .recovery ∧ d.get Reg.THM_SHUT1_RELEASED = 1 ∧ d.get Reg.THM_SHUT2_DWELL = 60 ∧ d.raw 66 = true) ∧
      ((s.dev.copyPasses false = true ∨ s.dev.copyPasses true = true) → d.mode = .boot ∧ d.get Reg.SYS_RESETCAUSE_KIND = 2)) ∧
  (∀ s : State, s.runs → s.dev.get Reg.THM_STATUS_DIODEFLT = 0 →
    Completes .rtcCompensation s fun d =>
      Dev.OnlyRegs [Reg.TB_COMP_RTC_PPM.key] s.dev d ∧
      d.get Reg.TB_COMP_RTC_PPM = ofSigned 16 (quot (s.dev.getI Reg.THM_RTCCOMP_K2 *
        ((5 * s.dev.getI Reg.THM_DIODE_TEMP - 8 * s.dev.getI Reg.THM_RTCCOMP_TURN) *
          (5 * s.dev.getI Reg.THM_DIODE_TEMP - 8 * s.dev.getI Reg.THM_RTCCOMP_TURN))) 640000))

/-! ### The Tally -/

/-- METER_SAMPLE, REFCORR_UPDATE, ZERO_CROSSING, ZERO_CROSSING_TIMEOUT, CYCLE_LATCH, TAL_CMD_LATCH (R397 to R412): a sample's
energy goes to import or to export, never to both; the line-cycle count and its fall-back, and the crossings that time the beacons
(R329, R330); latches. How a quotient rounds is a free value of the model (log 13). -/
def Obligations.theTallyCounts : Prop :=
  (∀ (s : State) (own : List (BitVec 24)) (fwd : Option (List (BitVec 24))), s.runs → s.dev.mode ≠ .boot →
    Completes (.meterSample own fwd) s fun d =>
      d.get Reg.TAL_STATUS_RUN = 1 ∧ d.tally.hostLatch = false ∧
      d.get Reg.TAL_LATCHNUM_NUM = (if s.dev.tally.hostLatch then (s.dev.get Reg.TAL_LATCHNUM_NUM + 1) % 2 ^ 32
        else s.dev.get Reg.TAL_LATCHNUM_NUM) ∧
      (∀ c < 20, s.dev.impCount c < 2 ^ 64 → s.dev.expCount c < 2 ^ 64 →
        d.impCount c = s.dev.impCount c ∨ d.expCount c = s.dev.expCount c) ∧
      (∀ c < 20, s.dev.scopeOn c = false → d.impCount c = s.dev.impCount c ∧ d.expCount c = s.dev.expCount c) ∧
      s.dev.sameStores d) ∧
  (∀ (s : State) (own : List (BitVec 24)) (fwd : Option (List (BitVec 24))), s.runs → s.dev.mode = .boot →
    Completes (.meterSample own fwd) s fun d => Dev.OnlyRegs [] s.dev d) ∧
  (∀ s : State, s.runs → s.dev.get Reg.THM_STATUS_DIODEFLT = 0 →
    Completes .refcorrUpdate s fun d =>
      Dev.OnlyRegs [Reg.TAL_REFCORR_CORR.key] s.dev d ∧
      d.get Reg.TAL_REFCORR_CORR = ofSigned 32 (quot (160 * s.dev.getI Reg.TAL_REF_A1 * (s.dev.getI Reg.THM_DIODE_TEMP - 400) +
        s.dev.getI Reg.TAL_REF_A2 * ((s.dev.getI Reg.THM_DIODE_TEMP - 400) * (s.dev.getI Reg.THM_DIODE_TEMP - 400))) 2560)) ∧
  (∀ (s : State) (feed : Fin 4) (phase : Fin 3) (positive : Bool) (ns : Nat), s.runs →
    (s.dev.get Reg.TAL_ZCCFG_FEED ≠ feed.val ∨ s.dev.get Reg.TAL_ZCCFG_PHASE ≠ phase.val) →
    Completes (.zeroCrossing feed phase positive ns) s fun d => Dev.OnlyRegs [] (s.dev.beaconCrossing feed.val phase.val positive ns) d) ∧
  (∀ (d : Dev) (feed phase ns : Nat) (positive : Bool),
    ((d.get Reg.VLK_BCNCFG_FEED ≠ feed ∨ d.get Reg.VLK_BCNCFG_PHASE ≠ phase) → d.beaconCrossing feed phase positive ns = d) ∧
    (d.get Reg.VLK_BCNCFG_FEED = feed → d.get Reg.VLK_BCNCFG_PHASE = phase →
      Dev.OnlyRegs [Reg.VLK_BCNSTAT_MISSED.key] { d with links := (d.beaconCrossing feed phase positive ns).links }
        (d.beaconCrossing feed phase positive ns) ∧
      (d.beaconCrossing feed phase positive ns).get Reg.VLK_BCNSTAT_MISSED = 0 ∧
      (d.beaconCrossing feed phase positive ns).links.beaconPos = d.links.beaconPos + (if positive then 1 else 0) ∧
      ((950000000 ≤ 2 * ns * (if d.get Reg.VLK_BCNCFG_NOMHZ = 1 then 60 else 50) ∧
          2 * ns * (if d.get Reg.VLK_BCNCFG_NOMHZ = 1 then 60 else 50) ≤ 1050000000) →
        (d.beaconCrossing feed phase positive ns).links.beaconGood = d.links.beaconGood + 1) ∧
      (¬ (950000000 ≤ 2 * ns * (if d.get Reg.VLK_BCNCFG_NOMHZ = 1 then 60 else 50) ∧
          2 * ns * (if d.get Reg.VLK_BCNCFG_NOMHZ = 1 then 60 else 50) ≤ 1050000000) →
        (d.beaconCrossing feed phase positive ns).links.beaconGood = 0))) ∧
  (∀ (s : State) (feed : Fin 4) (phase : Fin 3) (positive : Bool) (ns : Nat), s.runs →
    s.dev.get Reg.TAL_ZCCFG_FEED = feed.val → s.dev.get Reg.TAL_ZCCFG_PHASE = phase.val →
    Completes (.zeroCrossing feed phase positive ns) s fun d =>
      d.tally.halfNs = ns ∧ d.tally.zcPos = positive ∧
      (s.dev.get Reg.TAL_STATUS_ZCSTATE = 0 →
        Dev.OnlyRegs [] { s.dev.beaconCrossing feed.val phase.val positive ns with tally := d.tally } d ∧
        d.tally.cycles = s.dev.tally.cycles + (if positive && s.dev.tally.zcSeen then 1 else 0)) ∧
      (s.dev.get Reg.TAL_STATUS_ZCSTATE = 1 →
        Dev.OnlyRegs [Reg.TAL_STATUS_ZCSTATE.key] { s.dev.beaconCrossing feed.val phase.val positive ns with tally := d.tally } d ∧
        d.get Reg.TAL_STATUS_ZCSTATE = if positive then 2 else 1) ∧
      (s.dev.get Reg.TAL_STATUS_ZCSTATE = 2 → 7 ≤ s.dev.tally.zcRun →
        (s.dev.halfNominal ns = true → d.get Reg.TAL_STATUS_ZCSTATE = 0 ∧ d.raw 72 = true) ∧
        (s.dev.halfNominal ns = false → d.get Reg.TAL_STATUS_ZCSTATE = 2 ∧ d.tally.zcRun = 0))) ∧
  (∀ s : State, s.runs → s.dev.get Reg.TAL_STATUS_ZCSTATE ≠ 1 →
    Completes .zeroCrossingTimeout s fun d =>
      Dev.OnlyRegsAndEvents (Reg.TAL_STATUS_ZCSTATE.key :: (List.range 20).map fun c => (Reg.TAL_SCOPESTAT_FLAGS c).key)
        { s.dev with tally := d.tally } d ∧
      d.get Reg.TAL_STATUS_ZCSTATE = 1 ∧ d.raw 72 = true) ∧
  (∀ s : State, s.runs → s.dev.get Reg.TAL_CFG_N ≠ 0 → s.dev.get Reg.TAL_CFG_N ≤ s.dev.tally.cycles →
    Completes .cycleLatch s fun d =>
      d.tally.cycles = s.dev.tally.cycles - s.dev.get Reg.TAL_CFG_N ∧
      d.get Reg.TAL_LATCHNUM_NUM = (s.dev.get Reg.TAL_LATCHNUM_NUM + 1) % 2 ^ 32 ∧
      (∀ c < 20, s.dev.scopeOn c = true → s.dev.impCount c < 2 ^ 64 → s.dev.expCount c < 2 ^ 64 →
        d.get64 (Reg.TAL_LIMP_LO_COUNT c) (Reg.TAL_LIMP_HI_COUNT c) = s.dev.impCount c ∧
        d.get64 (Reg.TAL_LEXP_LO_COUNT c) (Reg.TAL_LEXP_HI_COUNT c) = s.dev.expCount c) ∧
      (∀ c < 20, d.impCount c = s.dev.impCount c ∧ d.expCount c = s.dev.expCount c) ∧ s.dev.sameStores d) ∧
  (∀ s : State, s.serves →
    Completes .talCmdLatch s fun d =>
      Dev.OnlyRegs [Reg.SYS_REFUSE_CODE.key] (s.dev.modTally fun t => { t with hostLatch := true }) d ∧ d.emitted = [.answer 0 0 []])

/-- RECORD_SIGNED, TAL_RECACK, PULSE_EMIT, PULSE_END, JOURNAL_WRITE (R413, R414, R418, R419, R423, R426): records are signed in
order and released by the host; pulses; the two journal slots alternate. What a signature reads is a free value of the model
(Config). -/
def Obligations.recordsPulsesAndTheJournal : Prop :=
  (∀ (s : State) (key : List Byte) (r : MeterRec), s.runs → s.dev.box.meter = some key →
    (s.dev.tally.recs.find? fun r => r.sig.isNone) = some r →
    Completes .recordSigned s fun d =>
      d.get Reg.TAL_RECHEAD_SEQ = r.seq % 2 ^ 32 ∧
      (∃ sig, d.tally.recs = s.dev.tally.recs.map fun x => if x.seq = r.seq then { x with sig := some sig } else x) ∧
      s.dev.sameStores d) ∧
  (∀ s : State, s.runs → s.dev.box.meter = none → Completes .recordSigned s fun d => Dev.OnlyRegs [] s.dev d) ∧
  (∀ (s : State) (seq : BitVec 32), s.serves →
    Completes (.talRecack seq) s fun d =>
      d.get Reg.TAL_RECACK_SEQ = seq.toNat ∧
      d.tally.recs = (if s.dev.get Reg.TAL_RECHEAD_SEQ < seq.toNat then s.dev.tally.recs
        else s.dev.tally.recs.filter fun r => decide (seq.toNat < r.seq)) ∧
      (seq.toNat ≤ s.dev.get Reg.TAL_RECHEAD_SEQ → d.get Reg.TAL_RECSTAT_COUNT = d.tally.recs.length % 512) ∧
      d.emitted = [.answer 0 0 []] ∧ s.dev.sameStores d) ∧
  (∀ (s : State) (k : Fin 8), s.runs → s.dev.get (Reg.TAL_PULSECFG_EN k.val) = 1 → s.dev.pulseMode = true →
    (tget {} s.dev.tally.pulses k.val).high = false → 1000000 * 2 ^ 32 ≤ (tget {} s.dev.tally.pulses k.val).acc →
    Completes (.pulseEmit k) s fun d =>
      Dev.OnlyRegs [] { s.dev with tally := d.tally } d ∧ (tget {} d.tally.pulses k.val).high = true ∧
      (tget {} d.tally.pulses k.val).acc = (tget {} s.dev.tally.pulses k.val).acc - 1000000 * 2 ^ 32 ∧
      d.emitted = [.pulse k.val (decide (s.dev.get (Reg.TAL_PULSECFG_POL k.val) = 0))]) ∧
  (∀ (s : State) (k : Fin 8), s.runs → (tget {} s.dev.tally.pulses k.val).high = true →
    Completes (.pulseEnd k) s fun d =>
      Dev.OnlyRegs [] { s.dev with tally := d.tally } d ∧ (tget {} d.tally.pulses k.val).high = false ∧
      (tget {} d.tally.pulses k.val).acc = (tget {} s.dev.tally.pulses k.val).acc ∧
      ∃ level, d.emitted = [.pulse k.val level]) ∧
  (∀ (s : State) (again : Bool), s.runs → s.dev.mode ≠ .boot →
    Completes (.journalWrite true again [] []) s fun d =>
      Dev.OnlyRegs [] { s.dev with tally := d.tally } d ∧ d.tally.slotNext = !s.dev.tally.slotNext ∧
      (if s.dev.tally.slotNext then d.tally.slotA = s.dev.tally.slotA ∧ d.tally.slotB = s.dev.journal true false
        else d.tally.slotB = s.dev.tally.slotB ∧ d.tally.slotA = s.dev.journal true false) ∧
      d.tally.best = s.dev.journal true false) ∧
  (∀ (s : State) (again : Bool), s.runs → s.dev.mode ≠ .boot →
    Completes (.journalWrite false again [] []) s fun d =>
      d.raw 78 = true ∧ d.tally.slotNext = s.dev.tally.slotNext ∧
      (if s.dev.tally.slotNext then d.tally.slotB.good = false ∧ d.tally.slotA.good = again
        else d.tally.slotA.good = false ∧ d.tally.slotB.good = again) ∧ s.dev.sameStores d) ∧
  (∀ (s : State) (again : Bool) (corrected rewritten : List (BitVec 16)), s.runs → s.dev.mode ≠ .boot → rewritten ≠ [] →
    s.dev.get Reg.MEM_MRAMSTAT_CORR < 2 ^ 16 →
    Completes (.journalWrite true again corrected rewritten) s fun d =>
      d.raw 26 = true ∧ d.tally.best = s.dev.journal true false ∧
      d.get Reg.MEM_MRAMSTAT_CORR = min 65535 (s.dev.get Reg.MEM_MRAMSTAT_CORR + corrected.length) ∧
      d.get Reg.MEM_MRAMSTAT_COPYLOST = min 255 (s.dev.get Reg.MEM_MRAMSTAT_COPYLOST + rewritten.length) ∧ s.dev.sameStores d)

/-! ### The safety island -/

/-- SF2, SF3, SF5, SF6, SF7, SF8, CONTACTOR_DISCREPANCY, CONTACTOR_WELD, COMPARATOR_TEST, LODGER_SAFETY_DEMAND, SAFE_INPUT_DEMAND,
ISLAND_ROM_CHECK (R433, R440, R443, R453, R456): a safety function that triggers latches and takes its outlet to the safe state,
the session of a live outlet to weld detection; a device-wide cause takes every outlet there. What does not trigger changes
nothing. -/
def Obligations.safetyFunctionsAct : Prop :=
  (∀ (s : State) (n : Fin 16), s.dev.mode ≠ .off →
    (s.dev.live n.val = true → Completes (.sf2 n true) s fun d => d.safed n.val 1) ∧
    (s.dev.get (Reg.OUT_ISO_STATUS n.val) = 3 → Completes (.sf2 n false) s fun d => d.safed n.val 1) ∧
    (s.dev.get (Reg.OUT_ISO_STATUS n.val) ≠ 3 → Completes (.sf2 n false) s fun d => Dev.OnlyRegs [] s.dev d) ∧
    (s.dev.live n.val = false → Completes (.sf2 n true) s fun d => Dev.OnlyRegs [] s.dev d) ∧
    (s.dev.live n.val = true → s.dev.lockHeld n.val = true → Completes (.sf3 n) s fun d => d.safed n.val 2) ∧
    ((s.dev.live n.val = false ∨ s.dev.lockHeld n.val = false) → Completes (.sf3 n) s fun d =>
      Dev.OnlyRegs [(Reg.SAF_OSTAT_LOCKINH n.val).key] s.dev d)) ∧
  (∀ (s : State) (n : Fin 16) (v : Nat), s.dev.mode ≠ .off →
    (s.dev.get (Reg.SAF_OLIM_VLIM n.val) * (1000 + s.dev.get (Reg.SAF_OCFG_OVM n.val)) < 1000 * v →
      Completes (.sf5 n v) s fun d => d.safed n.val 4 ∧ s.dev.sameStores d ∧
        (s.dev.settled n.val → 8 ≤ s.dev.sess n.val → s.dev.sess n.val ≤ 11 →
          (d.out n.val).next = some { state := 12, cause := 10, rank := 6 })) ∧
    (1000 * v ≤ s.dev.get (Reg.SAF_OLIM_VLIM n.val) * (1000 + s.dev.get (Reg.SAF_OCFG_OVM n.val)) →
      Completes (.sf5 n v) s fun d => Dev.OnlyRegs [] s.dev d)) ∧
  (∀ (s : State) (n : Fin 16) (k : Fin 4) (temp : Int) (lost : Bool), s.dev.mode ≠ .off → 1 ≤ k.val →
    (lost = true → Completes (.sf6 n k temp lost) s fun d =>
      d.safed n.val 5 ∧ d.saf.hot.testBit n.val = true ∧ d.get (Reg.CAB_STAT_LATCH n.val) = 1) ∧
    (k.val = 1 → 100 * (s.dev.get (Reg.SAF_OTEMP_TCOOL n.val) : Int) ≤ temp → Completes (.sf6 n k temp lost) s fun d => d.safed n.val 5) ∧
    (k.val ≠ 1 → 100 * (s.dev.get (Reg.SAF_OTEMP_TCONT n.val) : Int) ≤ temp → Completes (.sf6 n k temp lost) s fun d => d.safed n.val 5) ∧
    (k.val ≠ 1 → lost = false → temp < 100 * (s.dev.get (Reg.SAF_OTEMP_TCONT n.val) : Int) →
      Completes (.sf6 n k temp lost) s fun d => Dev.OnlyRegs [] s.dev d) ∧
    (k.val = 1 → lost = false → temp < 100 * (s.dev.get (Reg.SAF_OTEMP_TCOOL n.val) : Int) →
      Completes (.sf6 n k temp lost) s fun d => Dev.OnlyRegs [] s.dev d)) ∧
  (∀ (s : State) (n : Fin 16) (temp : Int) (lost : Bool), s.dev.mode ≠ .off →
    Completes (.sf6 n 0 temp lost) s fun d => Dev.OnlyRegs [] s.dev d) ∧
  (∀ (s : State) (n : Fin 16) (level : Nat) (ce : Bool), s.dev.mode ≠ .off → s.dev.live n.val = true →
    (s.dev.get (Reg.OUT_CFG_TYPE n.val) = 1 → (10500 < level ∨ level < 1500) → Completes (.sf7 n level ce) s fun d =>
      d.safed n.val 6 ∧ d.get (Reg.OUT_SESS_CONN n.val) = if 10500 < level then 0 else 3) ∧
    (s.dev.get (Reg.OUT_CFG_TYPE n.val) = 1 → 1500 ≤ level → level ≤ 10500 →
      Completes (.sf7 n level ce) s fun d => Dev.OnlyRegs [] s.dev d) ∧
    (s.dev.get (Reg.OUT_CFG_TYPE n.val) = 2 → ce = true → Completes (.sf7 n level ce) s fun d =>
      d.safed n.val 6 ∧ d.get (Reg.OUT_SESS_CONN n.val) = 3) ∧
    ((s.dev.get (Reg.OUT_CFG_TYPE n.val) = 2 → ce = false) → s.dev.get (Reg.OUT_CFG_TYPE n.val) ≠ 1 →
      Completes (.sf7 n level ce) s fun d => Dev.OnlyRegs [] s.dev d)) ∧
  (∀ (s : State) (n : Fin 16) (level : Nat) (ce : Bool), s.dev.mode ≠ .off → s.dev.live n.val = false →
    Completes (.sf7 n level ce) s fun d => Dev.OnlyRegs [(Reg.OUT_SESS_CONN n.val).key] s.dev d) ∧
  (∀ (s : State) (n : Fin 16) (cur : Nat), s.dev.mode ≠ .off →
    ((s.dev.islandLimit n.val * (100 + s.dev.get (Reg.SAF_OCFG_OCM n.val)) < 100 * cur ∨ 33000 < cur) →
      Completes (.sf8 n cur) s fun d => d.safed n.val 7) ∧
    (100 * cur ≤ s.dev.islandLimit n.val * (100 + s.dev.get (Reg.SAF_OCFG_OCM n.val)) → cur ≤ 33000 →
      Completes (.sf8 n cur) s fun d => Dev.OnlyRegs [] s.dev d)) ∧
  (∀ (s : State) (j : Fin 32), s.dev.mode ≠ .off →
    (s.dev.wireOn j.val = true → (s.dev.out (j.val / 2)).closed = true →
      Completes (.contactorDiscrepancy j) s fun d =>
        d.safed (j.val / 2) 3 ∧ d.bit Reg.SAF_FBSTAT_BITS j.val = false ∧ d.get (Reg.INK_COURSE_STATE (j.val / 2)) = 4) ∧
    ((s.dev.wireOn j.val = false ∨ (s.dev.out (j.val / 2)).closed = false) →
      Completes (.contactorDiscrepancy j) s fun d => Dev.OnlyRegs [] s.dev d) ∧
    (s.dev.wireOn j.val = true → Completes (.contactorWeld j) s fun d => Dev.OnlyRegs [] s.dev d) ∧
    (s.dev.wireOn j.val = false → s.dev.sess (j.val / 2) ≠ 12 →
      Completes (.contactorWeld j) s fun d =>
        d.safed (j.val / 2) 3 ∧ d.bit Reg.SAF_FBSTAT_BITS j.val = true ∧ d.get (Reg.OUT_EVCAUSE_WELD (j.val / 2)) = 1 ∧
        d.raw (32 + j.val / 2) = true) ∧
    (s.dev.wireOn j.val = false → s.dev.sess (j.val / 2) = 12 → s.dev.settled (j.val / 2) →
      Completes (.contactorWeld j) s fun d =>
        d.get (Reg.OUT_WELD_RESULT (j.val / 2)) = 3 ∧ d.bit (Reg.SAF_OSTAT_LATCH (j.val / 2)) 3 = true ∧
        (d.out (j.val / 2)).next = some { state := 15, cause := 0, rank := 4 })) ∧
  (∀ (s : State) (n : Fin 16) (k : Fin 8), s.dev.mode ≠ .off →
    (Completes (.comparatorTest (.outlet n k) false) s fun d => d.safed n.val k.val ∧ d.raw 85 = true) ∧
    (Completes (.comparatorTest (.outlet n k) true) s fun d =>
      Dev.OnlyRegs [] { s.dev with saf := d.saf } d ∧ d.saf.compOut.testBit (8 * n.val + k.val) = false) ∧
    (s.dev.duplex = true → s.dev.drives = true →
      Completes (.lodgerSafetyDemand (.outlet n k)) s fun d => d.safed n.val k.val)) ∧
  (∀ (s : State) (i : Fin 16), s.dev.mode ≠ .off →
    (s.dev.sinRole i.val ≠ 0 → Completes (.comparatorTest (.input i) false) s fun d =>
      d.bit Reg.SAF_STATUS_DEVCAUSE 0 = true ∧ d.allSafe ∧ d.raw 85 = true ∧ d.saf.compIn.testBit i.val = true) ∧
    (Completes (.comparatorTest (.input i) true) s fun d =>
      Dev.OnlyRegs [] { s.dev with saf := d.saf } d ∧ d.saf.compIn.testBit i.val = false)) ∧
  (∀ (s : State) (x : SafeDemand), s.dev.mode ≠ .off → (s.dev.duplex = false ∨ s.dev.drives = false) →
    Completes (.lodgerSafetyDemand x) s fun d => Dev.OnlyRegs [] s.dev d) ∧
  (∀ (s : State) (b : Fin 6), s.dev.mode ≠ .off → s.dev.duplex = true → s.dev.drives = true →
    Completes (.lodgerSafetyDemand (.device b)) s fun d => d.bit Reg.SAF_STATUS_DEVCAUSE b.val = true ∧ d.allSafe) ∧
  (∀ (s : State) (i : Fin 16), s.dev.mode ≠ .off →
    (s.dev.sinRole i.val = 1 → Completes (.safeInputDemand i true) s fun d =>
      d.bit Reg.SAF_STATUS_DEVCAUSE 0 = true ∧ d.allSafe ∧ d.bit Reg.SAF_SINSTAT_STATE i.val = false) ∧
    (s.dev.sinRole i.val = 2 → Completes (.safeInputDemand i true) s fun d =>
      (∀ n < 16, (s.dev.sinMask i.val).testBit n = true → d.safed n 5) ∧ d.bit Reg.SAF_SINSTAT_STATE i.val = false) ∧
    (s.dev.sinRole i.val ≠ 1 → s.dev.sinRole i.val ≠ 2 → Completes (.safeInputDemand i true) s fun d =>
      Dev.OnlyRegs [Reg.SAF_SINSTAT_STATE.key] { s.dev with saf := d.saf } d ∧ d.bit Reg.SAF_SINSTAT_STATE i.val = false ∧
      d.saf.demand.testBit i.val = true) ∧
    (Completes (.safeInputDemand i false) s fun d =>
      Dev.OnlyRegs [Reg.SAF_SINSTAT_STATE.key] { s.dev with saf := d.saf } d ∧ d.bit Reg.SAF_SINSTAT_STATE i.val = true ∧
      d.saf.demand.testBit i.val = false)) ∧
  (∀ s : State, s.dev.mode ≠ .off →
    (Completes (.islandRomCheck false) s fun d => d.saf.romBad = true ∧ d.saf.romLatch = true ∧ d.allSafe) ∧
    (Completes (.islandRomCheck true) s fun d =>
      Dev.OnlyRegs [] (s.dev.modSaf fun x => { x with romBad := false }) d))

/-- PAIR_DISCREPANCY, TEST_PULSE, OUTPUT_OFF_TEST, OUTPUT_DIAGNOSTIC_FAULT, ENABLE_LINE_CHECK, STUCK_ON_FAULT,
SAFE_OUTPUT_RELEASE, SAFETY_CAUSE_INACTIVE, SAF_ACK, SAF_OUTCLR, DUPLEX_SAFETY_DISAGREEMENT (R434 to R456): the diagnostics, the
release of outputs, and how latches clear. -/
def Obligations.theIslandDiagnosesAndClears : Prop :=
  (∀ (s : State) (k : Fin 8) (differ : Bool), s.dev.mode ≠ .off → s.dev.get (Reg.SAF_SINCFG_PAIR (2 * k.val)) ≠ 1 →
    Completes (.pairDiscrepancy k differ) s fun d => Dev.OnlyRegs [] s.dev d) ∧
  (∀ (s : State) (k : Fin 8), s.dev.mode ≠ .off → s.dev.get (Reg.SAF_SINCFG_PAIR (2 * k.val)) = 1 →
    (Completes (.pairDiscrepancy k true) s fun d =>
      d.bit Reg.SAF_SINSTAT_FAULT (2 * k.val) = true ∧ d.bit Reg.SAF_SINSTAT_FAULT (2 * k.val + 1) = true) ∧
    (Completes (.pairDiscrepancy k false) s fun d => Dev.OnlyRegs [] { s.dev with saf := d.saf } d)) ∧
  (∀ (s : State) (k : Fin 8) (bad : BitVec 16), s.dev.mode ≠ .off →
    Completes (.testPulse k bad) s fun d =>
      ∀ i < 16, s.dev.get (Reg.SAF_SINCFG_TP i) = k.val + 1 → s.dev.sinRole i ≠ 0 → bad.toNat.testBit i = true →
        d.bit Reg.SAF_SINSTAT_FAULT i = true) ∧
  (∀ (s : State) (j : Fin 32), s.dev.mode ≠ .off →
    (Completes (.outputOffTest j true) s fun d => Dev.OnlyRegs [] s.dev d) ∧
    (s.dev.bit Reg.SAF_SOUTSTAT_BITS j.val = true → s.dev.drives = true → (s.dev.safOut (j.val / 2)).releasing = none →
      s.dev.get (Reg.SAF_OSTAT_ACT (j.val / 2)) = 0 →
      Completes (.outputOffTest j false) s fun d =>
        d.bit Reg.SAF_SOUTFLT_BITS j.val = true ∧ d.get (Reg.SAF_OSTAT_DIAG (j.val / 2)) = 1 ∧
        d.bit Reg.SAF_STATUS_OUTSAFE (j.val / 2) = true ∧ d.arcHeld (j.val / 2) = true) ∧
    (∀ fell : Bool, (s.dev.bit Reg.SAF_SOUTSTAT_BITS j.val = false ∨ s.dev.drives = false ∨ (s.dev.safOut (j.val / 2)).releasing.isSome = true ∨
        s.dev.get (Reg.SAF_OSTAT_ACT (j.val / 2)) ≠ 0) →
      Completes (.outputOffTest j fell) s fun d => Dev.OnlyRegs [] s.dev d) ∧
    (∀ on, on ≠ (s.dev.out (j.val / 2)).contReq →
      Completes (.outputDiagnosticFault j on) s fun d =>
        d.bit Reg.SAF_SOUTFLT_BITS j.val = true ∧ d.get (Reg.SAF_OSTAT_DIAG (j.val / 2)) = 1 ∧ d.bit Reg.SAF_SOUTSTAT_BITS j.val = on) ∧
    (Completes (.outputDiagnosticFault j (s.dev.out (j.val / 2)).contReq) s fun d =>
      Dev.OnlyRegs [Reg.SAF_SOUTSTAT_BITS.key] s.dev d ∧ d.bit Reg.SAF_SOUTSTAT_BITS j.val = (s.dev.out (j.val / 2)).contReq) ∧
    (Completes (.enableLineCheck j true) s fun d => Dev.OnlyRegs [] s.dev d) ∧
    (Completes (.enableLineCheck j false) s fun d =>
      d.arcHeld (j.val / 2) = true ∧ d.raw 85 = true ∧
      (d.soutOn (j.val / 2) = false ∨ (d.safOut (j.val / 2)).releasing.isSome = true)) ∧
    (s.dev.drives = true → (s.dev.out (j.val / 2)).contReq = true → Completes (.stuckOnFault j) s fun d => Dev.OnlyRegs [] s.dev d) ∧
    (s.dev.drives = false → Completes (.stuckOnFault j) s fun d =>
      d.bit Reg.SAF_SOUTFLT_BITS j.val = true ∧ d.get (Reg.SAF_OSTAT_DIAG (j.val / 2)) = 1 ∧ d.saf.stuckOn.testBit j.val = true) ∧
    ((s.dev.out (j.val / 2)).contReq = false → Completes (.stuckOnFault j) s fun d =>
      d.bit Reg.SAF_SOUTFLT_BITS j.val = true ∧ d.get (Reg.SAF_OSTAT_DIAG (j.val / 2)) = 1 ∧ d.saf.stuckOn.testBit j.val = true)) ∧
  (∀ (s : State) (n : Fin 16) (ma : Nat) (elapsed : Bool), s.dev.mode ≠ .off →
    ((s.dev.safOut n.val).releasing = none → Completes (.safeOutputRelease n ma elapsed) s fun d => Dev.OnlyRegs [] s.dev d) ∧
    (∀ t, (s.dev.safOut n.val).releasing = some t →
      ((elapsed = true ∨ 10 * ma ≤ t ∨ ma < 5000) → Completes (.safeOutputRelease n ma elapsed) s fun d =>
        Dev.OnlyRegs [Reg.SAF_SOUTSTAT_BITS.key] { s.dev with outs := d.outs, saf := d.saf } d ∧ d.soutOn n.val = false ∧
        (d.out n.val).contReq = false ∧ (d.safOut n.val).releasing = none) ∧
      (elapsed = false → t < 10 * ma → 5000 ≤ ma → Completes (.safeOutputRelease n ma elapsed) s fun d => Dev.OnlyRegs [] s.dev d))) ∧
  (∀ (s : State) (n : Fin 16), s.dev.mode ≠ .off → s.dev.live n.val = false →
    (s.dev.saf.compOut.testBit (8 * n.val + 4) = false →
      Completes (.safetyCauseInactive n 4) s fun d => d.bit (Reg.SAF_OSTAT_LATCH n.val) 4 = false) ∧
    (s.dev.saf.compOut.testBit (8 * n.val + 7) = false →
      Completes (.safetyCauseInactive n 7) s fun d => d.bit (Reg.SAF_OSTAT_LATCH n.val) 7 = false) ∧
    ((∀ i < 16, s.dev.sinRole i = 2 → (s.dev.sinMask i).testBit n.val = true → s.dev.sinDemands i = false) →
      s.dev.saf.compOut.testBit (8 * n.val + 5) = false →
      Completes (.safetyCauseInactive n 5) s fun d =>
        d.bit (Reg.SAF_OSTAT_LATCH n.val) 5 = false ∧ d.saf.hot.testBit n.val = false) ∧
    (∀ k : Fin 8, (k = 1 ∨ k = 2 ∨ k = 3 ∨ k = 6) → Completes (.safetyCauseInactive n k) s fun d => Dev.OnlyRegs [] s.dev d) ∧
    (Completes (.safetyCauseInactive n 0) s fun d => d.get (Reg.SAF_OSTAT_XCHK n.val) = 0)) ∧
  (∀ (s : State) (n : Fin 16) (k : Fin 8), s.dev.mode ≠ .off → s.dev.live n.val = true →
    Completes (.safetyCauseInactive n k) s fun d => Dev.OnlyRegs [] s.dev d) ∧
  (∀ (s : State) (code : BitVec 16), s.serves →
    (s.dev.mode = .safeHold → code = 0xC35A#16 → Completes (.safAck code) s fun d =>
      Dev.OnlyRegsAndEvents [Reg.SYS_REFUSE_CODE.key] (s.dev.modSaf fun x => { x with ack := true }) d ∧ d.raw 86 = true) ∧
    (s.dev.mode = .safeHold → code ≠ 0xC35A#16 → Completes (.safAck code) s fun d =>
      Dev.OnlyRegsAndEvents [Reg.SYS_REFUSE_CODE.key, Reg.SAF_ACK_RESULT.key] s.dev d ∧ d.get Reg.SAF_ACK_RESULT = 3 ∧ d.raw 86 = true) ∧
    (s.dev.mode ≠ .safeHold → Completes (.safAck code) s fun d =>
      Dev.OnlyRegsAndEvents [Reg.SYS_REFUSE_CODE.key, Reg.SYS_REFUSE_ADDR.key, Reg.SAF_ACK_RESULT.key] s.dev d ∧
      d.get Reg.SAF_ACK_RESULT = 3 ∧ d.get Reg.SYS_REFUSE_CODE = 3 ∧ d.get Reg.SYS_REFUSE_ADDR = Reg.SAF_ACK_CODE.addr % 2 ^ 24 ∧
      d.raw 86 = true)) ∧
  (∀ (s : State) (code mask : BitVec 16), s.serves →
    (code ≠ 0xC35A#16 → Completes (.safOutclr code mask) s fun d => Dev.OnlyRegs [Reg.SYS_REFUSE_CODE.key] s.dev d) ∧
    (code = 0xC35A#16 → Completes (.safOutclr code mask) s fun d =>
      (∀ n < 16, mask.toNat.testBit n = true → s.dev.live n = false →
        (s.dev.get (Reg.SAF_OSTAT_DIAG n) = 1 → s.dev.soutOn n = false →
          d.get (Reg.SAF_OSTAT_DIAG n) = 0 ∧ d.bit Reg.SAF_SOUTFLT_BITS (2 * n) = false ∧
          d.bit Reg.SAF_SOUTFLT_BITS (2 * n + 1) = false) ∧
        (s.dev.fbClosed n = false → d.bit (Reg.SAF_OSTAT_LATCH n) 3 = false)) ∧ s.dev.sameStores d)) ∧
  (∀ (d : Dev) (n ma : Nat), d.soutOn n = true →
    (ma < 5000 → (d.release n ma).soutOn n = false ∧ ((d.release n ma).safOut n).releasing = none) ∧
    (5000 ≤ ma → ((d.release n ma).safOut n).releasing = some (((d.safOut n).releasing).getD ma))) ∧
  (∀ (d : Dev) (n : Fin 16), (d.safOut n.val).leaving = true → d.safeStands n.val = false →
    ((d.endHold n.val).safOut n.val).leaving = false ∧ ((d.endHold n.val).safOut n.val).walled = false ∧
    (d.live n.val = false → (d.endHold n.val).arcHeld n.val = false)) ∧
  (∀ s : State, s.dev.mode ≠ .off →
    (s.dev.duplex = true → Completes .duplexSafetyDisagreement s fun d => Dev.OnlyRegsAndEvents [] s.dev d ∧ d.raw 87 = true) ∧
    (s.dev.duplex = false → Completes .duplexSafetyDisagreement s fun d => Dev.OnlyRegs [] s.dev d))

/-- SAFE_FRAME_RECEIVED, SAFE_FRAME_SEND, SAFE_CONNECTION_WATCHDOG, SAFE_CONNECTION_WAIT (R458 to R462): safe connections over one
network. -/
def Obligations.safeConnectionsWatchAndSend : Prop :=
  (∀ (s : State) (carrier : Fin 7) (bytes : List Byte) (k : Fin 16), s.dev.mode ≠ .off → s.dev.get (Reg.SAF_CONNCFG_MODE k.val) = 1 →
    s.dev.get (Reg.SAF_CONNCFG_DIR k.val) = 0 → s.dev.get (Reg.SAF_CONNSTAT_STATE k.val) ≠ 0 →
    s.dev.get (Reg.SAF_CONNID_ID k.val) = (safeFields bytes).conn → s.dev.get (Reg.SAF_CONNCFG_CARA k.val) = carrier.val →
    (safeCrcOk bytes = false → Completes (.safeFrameReceived carrier bytes) s fun d =>
      d.get (Reg.SAF_CONNSTAT_FMTERR k.val) = min (s.dev.get (Reg.SAF_CONNSTAT_FMTERR k.val) + 1) 255 ∧ d.raw 84 = true ∧
      d.get (Reg.SAF_CONNSTAT_STATE k.val) = s.dev.get (Reg.SAF_CONNSTAT_STATE k.val) ∧ d.safConn k.val = s.dev.safConn k.val) ∧
    (safeCrcOk bytes = true → (safeFields bytes).wd = s.dev.get (Reg.SAF_CONNTIM_WD k.val) → (safeFields bytes).len ≤ 32 →
      (s.dev.safConn k.val).started = false → Completes (.safeFrameReceived carrier bytes) s fun d =>
        d.get (Reg.SAF_CONNSTAT_STATE k.val) = 2 ∧ (d.safConn k.val).started = true ∧
        (d.safConn k.val).lastSeq = (safeFields bytes).seq ∧
        (((safeFields bytes).payload.headD 0#8).getLsbD 0 = false →
          (d.safConn k.val).stop = true ∧ d.bit Reg.SAF_STATUS_DEVCAUSE 1 = true ∧ d.allSafe))) ∧
  (∀ (s : State) (k : Fin 16), s.dev.mode ≠ .off → s.dev.get (Reg.SAF_CONNCFG_DIR k.val) = 0 →
    (s.dev.get (Reg.SAF_CONNSTAT_STATE k.val) = 2 → Completes (.safeConnectionWatchdog k) s fun d =>
      d.get (Reg.SAF_CONNSTAT_STATE k.val) = 3 ∧ d.raw 84 = true ∧ d.bit Reg.SAF_STATUS_DEVCAUSE 1 = true ∧ d.allSafe) ∧
    (s.dev.get (Reg.SAF_CONNSTAT_STATE k.val) = 1 → Completes (.safeConnectionWait k) s fun d =>
      Dev.OnlyRegsAndEvents [] s.dev d ∧ d.raw 84 = true)) ∧
  (∀ (s : State) (k : Fin 16), s.dev.mode ≠ .off → s.dev.get (Reg.SAF_CONNCFG_MODE k.val) = 1 →
    s.dev.get (Reg.SAF_CONNCFG_DIR k.val) = 1 → s.dev.get (Reg.SAF_CONNCFG_CARA k.val) < 2 → (s.dev.safConn k.val).sentAt = none →
    (s.dev.safConn k.val).started = true →
    Completes (.safeFrameSend k) s fun d =>
      Dev.OnlyRegs [] { s.dev with saf := d.saf } d ∧ (d.safConn k.val).sentAt = some s.dev.now ∧
      (d.safConn k.val).sentSeq = ((s.dev.safConn k.val).sentSeq + 1) % 65536 ∧
      d.emitted = [.safeFrame k.val (safeEncode (s.dev.get (Reg.SAF_CONNID_ID k.val)) (((s.dev.safConn k.val).sentSeq + 1) % 65536)
        (s.dev.get (Reg.SAF_CONNTIM_WD k.val)) 0 s.dev.safePayload)]) ∧
  (∀ (s : State) (k : Fin 16) (t : Nat), s.dev.mode ≠ .off → (s.dev.safConn k.val).sentAt = some t → s.dev.now < t + 1000000 →
    Completes (.safeFrameSend k) s fun d => Dev.OnlyRegs [] s.dev d)

/-! ### The duplex station -/

/-- FORWARDED_INPUTS, FORWARDED_INPUTS_MISSING, PLAUSIBILITY_DISAGREEMENT, DOWN_FRAME_COMPARE, DISPUTE, DISPUTE_VERDICT,
REJOIN_COMPLETE, HEALTH_SCORE, HEALTH_RECEIVED, REDUCED_AVAILABILITY (R477 to R480, R488 to R495): the lodger follows and
compares; what does not concern the module changes nothing. -/
def Obligations.theLodgerFollowsAndCompares : Prop :=
  (∀ (s : State) (period : Nat) (on : Bool) (sense : List (Int × Int × Int)) (poison : List (Fin 128)) (late : List (Fin 64)), s.runs →
    s.dev.lodger = true →
    Completes (.forwardedInputs period [.islandState on] sense poison late) s fun d =>
      d.dup.fwdPeriod = period ∧ d.dup.missing = false ∧ d.islandWanted = on) ∧
  (∀ (s : State) (period : Nat) (inputs : List Fwd) (sense : List (Int × Int × Int)) (poison : List (Fin 128)) (late : List (Fin 64)), s.runs →
    s.dev.duplex = false →
    Completes (.forwardedInputs period inputs sense poison late) s fun d => Dev.OnlyRegs [] s.dev d) ∧
  (∀ s : State, s.runs → s.dev.lodger = true → s.dev.synced = true → s.dev.dup.missing = false →
    Completes .forwardedInputsMissing s fun d =>
      Dev.OnlyRegsAndEvents [] (s.dev.modDup fun x => { x with missing := true }) d ∧ d.raw 92 = true) ∧
  (∀ s : State, s.runs → (s.dev.lodger = false ∨ s.dev.synced = false ∨ s.dev.dup.missing = true) →
    Completes .forwardedInputsMissing s fun d => Dev.OnlyRegs [] s.dev d) ∧
  (∀ (s : State) (j : Fin 8), s.runs → s.dev.lodger = true → plausibleRow j.val = true →
    Completes (.plausibilityDisagreement j) s fun d =>
      Dev.OnlyRegsAndEvents [Reg.DUP_PLAUS_CLASS.key] s.dev d ∧ d.bit Reg.DUP_PLAUS_CLASS j.val = true ∧ d.raw 91 = true) ∧
  (∀ (s : State) (j : Fin 8), s.runs → (s.dev.lodger = false ∨ plausibleRow j.val = false) →
    Completes (.plausibilityDisagreement j) s fun d => Dev.OnlyRegs [] s.dev d) ∧
  (∀ (s : State) (period : Nat) (heard : List (Fin 64 × Option (BitVec 68))) (touched : BitVec 16), s.runs → s.dev.lodger = true →
    s.dev.synced = false →
    Completes (.downFrameCompare period heard touched) s fun d =>
      d.get Reg.DUP_CMPCNT_UNCOMP = min (s.dev.get Reg.DUP_CMPCNT_UNCOMP + 1) 65535 ∧
      Dev.OnlyRegs [Reg.DUP_CMPCNT_UNCOMP.key] { s.dev with dup := d.dup } d) ∧
  (∀ (s : State) (period : Nat) (str : Fin 64), s.runs → s.dev.lodger = true → s.dev.synced = true → s.dev.dup.dispute = none →
    s.dev.dup.rejoin = none → period ≤ s.dev.dup.fwdPeriod → s.dev.present str.val = true → s.dev.computed str.val ≠ none →
    16 ≤ s.dev.courseArc (str.val / 4) →
    Completes (.downFrameCompare period [] 0) s fun d =>
      d.get Reg.DUP_CMPCNT_MISMATCH = min (s.dev.get Reg.DUP_CMPCNT_MISMATCH + 1) 65535 ∧
      (s.dev.dup.run + 1 < s.dev.get Reg.DUP_CFG_NMIS → d.dup.run = s.dev.dup.run + 1 ∧ d.dup.dispute = none) ∧
      (s.dev.get Reg.DUP_CFG_NMIS ≤ s.dev.dup.run + 1 → d.dup.run = 0 ∧ d.raw 89 = true ∧
        d.dup.dispute = some (if s.dev.dup.run = 0 then period else s.dev.dup.firstBad, true, 0) ∧
        d.get Reg.DUP_DISPUTE_COUNT = min (s.dev.get Reg.DUP_DISPUTE_COUNT + 1) 4095)) ∧
  (∀ (s : State) (p : Nat) (pass : Bool) (digest : BitVec 64), s.runs → s.dev.keyholder = true →
    Completes (.dispute p pass digest) s fun d =>
      d.get Reg.DUP_DISPUTE_COUNT = min (s.dev.get Reg.DUP_DISPUTE_COUNT + 1) 4095 ∧ d.get Reg.DUP_DISPUTE_PERIOD = p % 65536 ∧
      d.dup.dispute = (if p + 16 < s.dev.period then none else some (p, pass, digest.toNat)) ∧ d.raw 89 = true ∧ s.dev.sameStores d) ∧
  (∀ (s : State) (pass : Bool) (digest : BitVec 64) (p mine : Nat) (own : Bool), s.runs → s.dev.keyholder = true →
    s.dev.dup.dispute = some (p, own, mine) →
    Completes (.disputeVerdict pass digest) s fun d =>
      d.dup.dispute = none ∧
      d.get Reg.DUP_DISPUTE_RESULT = (if own = false ∧ pass = true then 1 else if own = true ∧ pass = false then 2
        else if own = false then 3 else if mine = digest.toNat then 4 else 5) ∧
      (own = false → pass = true → d.dup.surrender = true ∧ d.raw 89 = true) ∧
      (pass = false → d.dup.surrender = s.dev.dup.surrender ∧ d.raw 89 = true ∧ d.raw 90 = true) ∧ s.dev.sameStores d) ∧
  (∀ (s : State) (pass : Bool) (digest : BitVec 64), s.runs → s.dev.dup.dispute = none →
    Completes (.disputeVerdict pass digest) s fun d => Dev.OnlyRegs [] s.dev d) ∧
  (∀ (s : State) (k : Nat) (clean : Bool), s.runs → s.dev.lodger = true → s.dev.dup.rejoin = some (k, clean) →
    (3 ≤ k → Completes (.rejoinComplete true true) s fun d =>
      d.get Reg.DUP_STATUS_SYNCED = 1 ∧ d.dup.rejoin = none ∧ d.dup.barred = false ∧ d.dup.run = 0 ∧ s.dev.sameStores d) ∧
    (k < 3 → Completes (.rejoinComplete true true) s fun d => Dev.OnlyRegs [] s.dev d)) ∧
  (∀ (s : State) (fails : BitVec 5), s.runs → s.dev.lodger = true →
    Completes (.healthScore fails) s fun d =>
      d.get Reg.DUP_STATUS_HEALTH = 100 - ((if fails.getLsbD 0 then 40 else 0) +
        (if fails.getLsbD 1 then 40 else min 20 (5 * s.dev.ownedErrors)) + (if fails.getLsbD 2 then 30 else 0) +
        (if fails.getLsbD 3 then 30 else 0) + (if fails.getLsbD 4 then 10 else 0) +
        (if s.dev.get Reg.DUP_STATUS_LANES ≠ 3 then 20 else 0) + (if s.dev.get Reg.DUP_PLAUS_CLASS ≠ 0 then 20 else 0)) ∧
      Dev.OnlyRegsAndEvents [Reg.DUP_STATUS_HEALTH.key, Reg.DUP_HEALTHDET_FAIL.key, Reg.DUP_STATUS_ELIGIBLE.key] s.dev d) ∧
  (∀ (s : State) (m : PartnerHealth) (eligible synced : Bool), s.runs → s.dev.keyholder = true →
    Completes (.healthReceived m eligible synced) s fun d =>
      Dev.OnlyRegs [Reg.DUP_PARTNER_LO_UID.key, Reg.DUP_PARTNER_HI_UID.key, Reg.DUP_STATUS_PARTHEALTH.key, Reg.DUP_STATUS_PARTNER.key,
          Reg.DUP_STATUS_REDUCED.key]
        (s.dev.modDup fun x => { x with partStation := some m.station.toNat, partEligible := eligible, partSynced := synced }) d ∧
      d.get64 Reg.DUP_PARTNER_LO_UID Reg.DUP_PARTNER_HI_UID = m.uid.toNat ∧
      d.get Reg.DUP_STATUS_PARTHEALTH = m.score.toNat ∧ d.get Reg.DUP_STATUS_PARTNER = 1 ∧
      d.get Reg.DUP_STATUS_REDUCED = if eligible && synced then 0 else s.dev.get Reg.DUP_STATUS_REDUCED) ∧
  (∀ (s : State) (m : PartnerHealth) (eligible synced : Bool), s.runs → s.dev.keyholder = false →
    (s.dev.duplex = true → Completes (.healthReceived m eligible synced) s fun d =>
      Dev.OnlyRegs [Reg.DUP_PARTNER_LO_UID.key, Reg.DUP_PARTNER_HI_UID.key, Reg.DUP_STATUS_PARTNER.key]
        (s.dev.modDup fun x => { x with partStation := some m.station.toNat }) d ∧
      d.get64 Reg.DUP_PARTNER_LO_UID Reg.DUP_PARTNER_HI_UID = m.uid.toNat ∧ d.get Reg.DUP_STATUS_PARTNER = 1) ∧
    (s.dev.duplex = false → Completes (.healthReceived m eligible synced) s fun d => Dev.OnlyRegs [] s.dev d)) ∧
  (∀ s : State, s.runs → s.dev.keyholder = true → s.dev.get Reg.DUP_STATUS_REDUCED = 0 →
    Completes (.reducedAvailability true) s fun d =>
      Dev.OnlyRegsAndEvents [Reg.DUP_STATUS_PARTNER.key, Reg.DUP_STATUS_REDUCED.key] s.dev d ∧ d.get Reg.DUP_STATUS_REDUCED = 1 ∧
      d.get Reg.DUP_STATUS_PARTNER = 0 ∧ d.raw 90 = true) ∧
  (∀ s : State, s.runs → s.dev.keyholder = true → s.dev.get Reg.DUP_STATUS_REDUCED = 0 →
    ((s.dev.dup.partEligible = false ∨ s.dev.dup.partSynced = false) → Completes (.reducedAvailability false) s fun d =>
      Dev.OnlyRegsAndEvents [Reg.DUP_STATUS_REDUCED.key] s.dev d ∧ d.get Reg.DUP_STATUS_REDUCED = 1 ∧ d.raw 90 = true) ∧
    (s.dev.dup.partEligible = true → s.dev.dup.partSynced = true → Completes (.reducedAvailability false) s fun d =>
      Dev.OnlyRegs [] s.dev d))

/-- LEASE_RENEWAL, LEASE_RECEIVED, LEASE_EXPIRY, KEYHOLDER_SELF_RELEASE, KEY_TAKE, STARTUP_KEY_WAIT, DUP_CMD_TAKE,
DUP_CMD_SURRENDER, DUP_CMD_REJOIN, SHARED_CHANNELS_OFF (R474, R481 to R487, R495): who holds the key. A refusal of a DUP_CMD write
has code 6, which is the model's choice. -/
def Obligations.theKeyChangesHands : Prop :=
  (∀ s : State, s.runs → s.dev.renews = true →
    Completes .leaseRenewal s fun d =>
      Dev.OnlyRegs [] (s.dev.modDup fun x => { x with ownAt := some s.dev.now, lostAt := none, dnOff := false }) d ∧
      d.emitted = [.keyPulse, .twin 0 s.dev.leaseBody]) ∧
  (∀ s : State, s.runs → s.dev.renews = false → s.dev.keyholder = true →
    Completes .leaseRenewal s fun d =>
      Dev.OnlyRegs [] (s.dev.modDup fun x => { x with lostAt := some (x.lostAt.getD s.dev.now) }) d ∧ d.emitted = []) ∧
  (∀ (s : State) (pin : Bool) (uid : BitVec 64) (station : BitVec 8), s.runs → s.dev.duplex = true →
    Completes (.leaseReceived pin uid station) s fun d =>
      d.get Reg.DUP_LEASE_VALID = 1 ∧ d.get Reg.DUP_LEASE_AGE = 0 ∧ d.get Reg.DUP_LEASE_PIN = flag pin ∧
      d.get Reg.DUP_LEASE_TWIN = flag (!pin) ∧ d.dup.leaseAt = some s.dev.now ∧ d.dup.missing = false ∧
      (pin = false → d.get64 Reg.DUP_PARTNER_LO_UID Reg.DUP_PARTNER_HI_UID = uid.toNat ∧ d.get Reg.DUP_STATUS_PARTNER = 1 ∧
        d.dup.partStation = some station.toNat) ∧ s.dev.sameStores d) ∧
  (∀ (s : State) (pin : Bool) (uid : BitVec 64) (station : BitVec 8), s.runs → s.dev.duplex = false →
    Completes (.leaseReceived pin uid station) s fun d => Dev.OnlyRegs [] s.dev d) ∧
  (∀ s : State, s.runs → s.dev.get Reg.DUP_LEASE_VALID ≠ 1 → Completes .leaseExpiry s fun d => Dev.OnlyRegs [] s.dev d) ∧
  (∀ (s : State) (c : Sched), s.runs → s.dev.get Reg.DUP_LEASE_VALID = 1 → s.dev.sentUp = some c →
    Completes .leaseExpiry s fun d =>
      d.get Reg.DUP_LEASE_VALID = 0 ∧ d.sentUp = none ∧ d.get Reg.TXN_STATUS_STATE = 6 ∧ d.get Reg.TXN_STATUS_CODE = 8 ∧
      d.raw 3 = true ∧ s.dev.sameStores d) ∧
  (∀ s : State, s.runs → s.dev.get Reg.DUP_LEASE_VALID = 1 → s.dev.sentUp = none →
    Completes .leaseExpiry s fun d =>
      Dev.OnlyRegs [Reg.DUP_LEASE_VALID.key] (s.dev.modDup fun x => { x with missing := false }) d ∧ d.get Reg.DUP_LEASE_VALID = 0) ∧
  (∀ s : State, s.dev.mode ≠ .off → s.dev.duplex = true → s.dev.dup.ownAt ≠ none →
    Completes .keyholderSelfRelease s fun d =>
      Dev.OnlyRegs [Reg.SAF_SOUTSTAT_BITS.key, Reg.DUP_STATUS_ROLE.key, Reg.DUP_STATUS_SYNCED.key, Reg.DUP_STATUS_REDUCED.key]
        { s.dev with saf := d.saf, dup := d.dup } d ∧
      d.get Reg.DUP_STATUS_ROLE = 2 ∧ d.get Reg.DUP_STATUS_SYNCED = 0 ∧ d.dup.dnOff = true ∧ d.dup.ownAt = none ∧
      ∀ n < 16, d.soutOn n = false) ∧
  (∀ s : State, s.dev.mode ≠ .off → (s.dev.duplex = false ∨ s.dev.dup.ownAt = none) →
    Completes .keyholderSelfRelease s fun d => Dev.OnlyRegs [] s.dev d) ∧
  (∀ d : Dev, d.dup.surrender = true →
    d.handOver.get Reg.DUP_STATUS_ROLE = 2 ∧ d.handOver.get Reg.DUP_STATUS_SYNCED = 0 ∧ d.handOver.dup.dnOff = true ∧
    d.handOver.dup.surrender = false ∧ d.handOver.dup.lostAt = some d.now ∧
    ((d.mode = .idle ∨ d.mode = .serve) → d.handOver.mode = d.target .standby) ∧
    (d.mode ≠ .idle → d.mode ≠ .serve → d.mode ≠ .island → d.handOver.mode = d.mode)) ∧
  (∀ (s : State) (heard : Bool) (wires : BitVec 32) (gap : Nat), s.runs → s.dev.quiet heard = true → s.dev.mayTake = true →
    Completes (.keyTake heard wires gap) s fun d =>
      d.get Reg.DUP_STATUS_ROLE = 1 ∧ d.get Reg.DUP_STATUS_SYNCED = 0 ∧ d.get Reg.DUP_SWITCH_GAP = min gap 65535 ∧
      d.get Reg.DUP_SWITCH_COUNT = min (s.dev.get Reg.DUP_SWITCH_COUNT + 1) 65535 ∧ d.mode = s.dev.target s.dev.servingMode ∧
      (∀ n < 16, s.dev.outletLatched n = true → d.soutOn n = false) ∧
      (∀ n < 16, s.dev.outletLatched n = false → s.dev.safeWait = false → s.dev.get (Reg.SAF_OLIM_ILIM n) ≠ 0 →
        d.bit Reg.SAF_SOUTSTAT_BITS (2 * n) = wires.getLsbD (2 * n) ∧
        d.bit Reg.SAF_SOUTSTAT_BITS (2 * n + 1) = wires.getLsbD (2 * n + 1)) ∧
      d.dup.ownAt = some s.dev.now ∧ d.raw 88 = true ∧ d.sram = s.dev.sram ∧ d.flash = s.dev.flash) ∧
  (∀ (s : State) (heard : Bool) (wires : BitVec 32) (gap : Nat), s.runs → (s.dev.quiet heard = false ∨ s.dev.mayTake = false) →
    Completes (.keyTake heard wires gap) s fun d => Dev.OnlyRegs [] s.dev d) ∧
  (∀ (s : State) (heard : Bool), s.runs → s.dev.quiet heard = true → s.dev.dup.leaseAt = none →
    (s.dev.get64 Reg.DUP_PARTNER_LO_UID Reg.DUP_PARTNER_HI_UID = 0 ∨
      s.dev.get64 Reg.SYS_UID_LO_UID Reg.SYS_UID_HI_UID < s.dev.get64 Reg.DUP_PARTNER_LO_UID Reg.DUP_PARTNER_HI_UID) →
    Completes (.startupKeyWait heard) s fun d =>
      d.get Reg.DUP_STATUS_ROLE = 1 ∧ d.mode = s.dev.target s.dev.servingMode ∧ d.raw 88 = true) ∧
  (∀ (s : State) (heard : Bool), s.runs →
    (s.dev.quiet heard = false ∨ s.dev.dup.leaseAt ≠ none ∨
      (s.dev.get64 Reg.DUP_PARTNER_LO_UID Reg.DUP_PARTNER_HI_UID ≠ 0 ∧
        s.dev.get64 Reg.DUP_PARTNER_LO_UID Reg.DUP_PARTNER_HI_UID ≤ s.dev.get64 Reg.SYS_UID_LO_UID Reg.SYS_UID_HI_UID)) →
    Completes (.startupKeyWait heard) s fun d => Dev.OnlyRegs [] s.dev d) ∧
  (∀ (s : State) (heard : Bool), s.serves → s.dev.quiet heard = true → s.dev.get Reg.DUP_STATUS_ELIGIBLE = 0 →
    Completes (.dupCmdTake heard) s fun d =>
      d.get Reg.DUP_STATUS_ROLE = 1 ∧ d.raw 88 = true ∧
      ∀ n < 16, 2 ≤ s.dev.sess n → s.dev.sess n < 14 → d.sess n = if s.dev.get (Reg.OUT_SESS_CONN n) = 0 then 1 else 14) ∧
  (∀ (s : State) (heard : Bool), s.serves → (s.dev.quiet heard = false ∨ s.dev.get Reg.DUP_STATUS_ELIGIBLE ≠ 0) →
    Completes (.dupCmdTake heard) s fun d =>
      Dev.OnlyRegs [Reg.SYS_REFUSE_CODE.key, Reg.SYS_REFUSE_ADDR.key] s.dev d ∧ d.get Reg.SYS_REFUSE_CODE = 6 ∧
      d.get Reg.SYS_REFUSE_ADDR = Reg.DUP_CMD_TAKE.addr % 2 ^ 24 ∧ d.emitted = [.answer 2 6 []]) ∧
  (∀ s : State, s.serves → s.dev.keyholder = true → s.dev.dup.partEligible = true →
    Completes .dupCmdSurrender s fun d =>
      Dev.OnlyRegs [Reg.SYS_REFUSE_CODE.key] (s.dev.modDup fun x => { x with surrender := true }) d ∧ d.emitted = [.answer 0 0 []]) ∧
  (∀ s : State, s.serves → (s.dev.keyholder && s.dev.dup.partEligible) = false →
    Completes .dupCmdSurrender s fun d =>
      Dev.OnlyRegs [Reg.SYS_REFUSE_CODE.key, Reg.SYS_REFUSE_ADDR.key] s.dev d ∧ d.get Reg.SYS_REFUSE_CODE = 6) ∧
  (∀ s : State, s.serves → s.dev.lodger = true → s.dev.dup.rejoin = none →
    Completes .dupCmdRejoin s fun d =>
      d.get Reg.DUP_STATUS_SYNCED = 0 ∧ d.dup.rejoin = some (0, false) ∧ d.dup.run = 0 ∧ s.dev.sameStores d) ∧
  (∀ s : State, s.serves → s.dev.lodger = true → s.dev.dup.rejoin ≠ none →
    Completes .dupCmdRejoin s fun d => Dev.OnlyRegs [Reg.SYS_REFUSE_CODE.key] s.dev d ∧ d.emitted = [.answer 0 0 []]) ∧
  (∀ s : State, s.serves → s.dev.lodger = false →
    Completes .dupCmdRejoin s fun d =>
      Dev.OnlyRegs [Reg.SYS_REFUSE_CODE.key, Reg.SYS_REFUSE_ADDR.key] s.dev d ∧ d.get Reg.SYS_REFUSE_CODE = 6 ∧
      d.emitted = [.answer 2 6 []]) ∧
  (∀ s : State, s.runs → s.dev.lodger = true →
    Completes .sharedChannelsOff s fun d =>
      Dev.OnlyRegs [Reg.AUX_ON_LO_BITS.key, Reg.AUX_ON_HI_BITS.key] s.dev d ∧
      ∀ ch < 48, d.bit2 Reg.AUX_ON_LO_BITS Reg.AUX_ON_HI_BITS ch =
        (s.dev.bit2 Reg.AUX_ON_LO_BITS Reg.AUX_ON_HI_BITS ch && !s.dev.auxShared ch)) ∧
  (∀ s : State, s.runs → s.dev.lodger = false → Completes .sharedChannelsOff s fun d => Dev.OnlyRegs [] s.dev d)

/-! ### The fabric -/

/-- HAIL, HAIL_RECEIVED, AUTH_FRAME, LINK_REKEY, LANE_LOSS, LANE_BLOCK_LOCK, FABRIC_FRAME_RECEIVED, FABRIC_ACK_TIMEOUT (R497 to
R503): the states of a port: 1 training, 2 link up, 3 authenticating, 4 up, 5 refused. What a certificate or a signature is worth
is a free value of the model (Config). -/
def Obligations.fabricLinksComeUp : Prop :=
  (∀ (s : State) (p : Fin 6), s.runs → s.dev.portOn p.val = true → 2 ≤ s.dev.portState p.val → s.dev.portState p.val ≤ 5 →
    Completes (.hail p) s fun d =>
      (∃ body, d.emitted = [.fabric 254 1 (p.val :: s.dev.uid :: body)]) ∧ d.portState p.val = s.dev.portState p.val ∧
      Dev.OnlyRegs ((List.range 6).map fun q => (Reg.FAB_PORT_STATE q).key) { s.dev with fab := d.fab } d) ∧
  (∀ (s : State) (p : Fin 6) (h : Hail), s.runs → s.dev.portOn p.val = true →
    (2 ≤ s.dev.portState p.val → s.dev.portState p.val ≤ 4 → h.level ≠ s.dev.get Reg.FAB_ID_LEVEL →
      Completes (.hailReceived p h) s fun d =>
        d.portState p.val = 5 ∧ d.get (Reg.FAB_PORT_ENC p.val) = 0 ∧ d.raw 93 = true ∧ (d.fport p.val).hail = some h) ∧
    (s.dev.portState p.val = 2 → h.level = s.dev.get Reg.FAB_ID_LEVEL →
      ¬(s.dev.addr? = some h.addr ∧ h.uid < s.dev.uid ∧ s.dev.get Reg.FAB_STATUS_ADDRSRC = 1) →
      Completes (.hailReceived p h) s fun d =>
        d.portState p.val = 3 ∧ (d.fport p.val).hail = some h ∧
        d.get (Reg.FAB_PORT_PEER p.val) = if h.addr < 32 then h.addr else 0)) ∧
  (∀ (s : State) (p : Fin 6) (chain key digest sig : List Byte) (enc : Bool), s.runs → s.dev.portOn p.val = true →
    (s.dev.portState p.val = 3 ∨ s.dev.portState p.val = 5) →
    Completes (.authFrame p chain key digest sig enc) s fun d =>
      if Config.chainVerifies chain [s.dev.tab.siteCa] = true ∧ Config.chainNamesKey chain key = true ∧
          Config.ecdsaVerify key digest sig = true ∧ s.dev.fab.chain.isSome = true ∧ s.dev.addr?.isSome = true ∧
          enc = s.dev.bit Reg.FAB_CFG_ENC p.val ∧
          ((s.dev.fport p.val).hail.map (·.level)) = some (s.dev.get Reg.FAB_ID_LEVEL) then
        d.portState p.val = 4 ∧ d.get (Reg.FAB_PORT_ENC p.val) = flag enc ∧ (d.fport p.val).keyNum = (s.dev.fport p.val).keyNum + 1 ∧
        (d.fport p.val).rxCtr = 0
      else d.portState p.val = 5 ∧ (s.dev.portState p.val = 3 → d.get (Reg.FAB_PORT_ENC p.val) = 0 ∧ d.raw 93 = true)) ∧
  (∀ (s : State) (p : Fin 6) (chain key digest sig : List Byte) (enc : Bool), s.runs →
    (s.dev.portOn p.val = false ∨ (s.dev.portState p.val ≠ 3 ∧ s.dev.portState p.val ≠ 5)) →
    Completes (.authFrame p chain key digest sig enc) s fun d => Dev.OnlyRegs [] s.dev d) ∧
  (∀ (s : State) (p : Fin 6), s.runs → s.dev.portUp p.val = true → s.dev.get (Reg.FAB_PORT_ENC p.val) = 1 →
    ((2 ^ 32 ≤ (s.dev.fport p.val).txCtr ∨ 2 ^ 32 ≤ (s.dev.fport p.val).rxCtr ∨ (s.dev.fport p.val).keyAt + 86400000000000 ≤ s.dev.now) →
      Completes (.linkRekey p) s fun d =>
        Dev.OnlyRegs [] (s.dev.modPort p.val fun x => { x with keyAt := s.dev.now, keyNum := x.keyNum + 1, txCtr := 0, rxCtr := 0 }) d) ∧
    ((s.dev.fport p.val).txCtr < 2 ^ 32 → (s.dev.fport p.val).rxCtr < 2 ^ 32 → s.dev.now < (s.dev.fport p.val).keyAt + 86400000000000 →
      Completes (.linkRekey p) s fun d => Dev.OnlyRegs [] s.dev d)) ∧
  (∀ (s : State) (p : Fin 6) (lane : Fin 2), s.runs → s.dev.portOn p.val = true →
    s.dev.bit (Reg.FAB_PORT_LANES p.val) lane.val = true → 1 ≤ s.dev.portState p.val → s.dev.portState p.val ≤ 5 →
    Completes (.laneLoss p lane) s fun d =>
      d.bit (Reg.FAB_PORT_LANES p.val) lane.val = false ∧ d.raw 93 = true ∧
      (d.get (Reg.FAB_PORT_LANES p.val) = 0 → 2 ≤ s.dev.portState p.val → d.portState p.val = 1) ∧
      (d.get (Reg.FAB_PORT_LANES p.val) ≠ 0 → d.portState p.val = s.dev.portState p.val)) ∧
  (∀ (s : State) (p : Fin 6) (lane : Fin 2), s.runs → s.dev.portOn p.val = true → s.dev.portState p.val = 1 →
    Completes (.laneBlockLock p lane) s fun d =>
      d.bit (Reg.FAB_PORT_LANES p.val) lane.val = true ∧ d.portState p.val = 2 ∧ s.dev.sameStores d) ∧
  (∀ (s : State) (p : Fin 6) (f : FabFrame) (check : List Byte), s.runs → s.dev.isTwin p.val = false →
    (s.dev.portState p.val < 2 → Completes (.fabricFrameReceived p f check) s fun d => Dev.OnlyRegs [] s.dev d ∧ d.emitted = []) ∧
    (2 ≤ s.dev.portState p.val →
      (minLen f.typ = none ∨ 1024 < f.payload.length ∨ (f.enc = false ∧ check ≠ leBytes 4 (crc32Ieee f.bytes)) ∨
        s.dev.mayCarry p.val f = false) →
      Completes (.fabricFrameReceived p f check) s fun d =>
        Dev.OnlyRegs [(Reg.FAB_PORT_ERR p.val).key] s.dev d ∧
        d.get (Reg.FAB_PORT_ERR p.val) = min (s.dev.get (Reg.FAB_PORT_ERR p.val) + 1) 65535 ∧ d.emitted = []) ∧
    (∀ n, 2 ≤ s.dev.portState p.val → minLen f.typ = some n → n ≤ f.payload.length → f.payload.length ≤ 1024 → f.enc = false →
      check = leBytes 4 (crc32Ieee f.bytes) → s.dev.mayCarry p.val f = true → f.dst = 254 →
      Completes (.fabricFrameReceived p f check) s fun d =>
        Dev.OnlyRegs [] s.dev d ∧
        d.emitted = [.fabLink p.val { dst := 254, src := s.dev.addr?.getD 255, typ := 0, seq := f.seq }])) ∧
  (∀ (s : State) (p : Fin 6) (tries : Nat) (f : FabFrame), s.runs → s.dev.isTwin p.val = false → 2 ≤ s.dev.portState p.val →
    (tries < 8 → Completes (.fabricAckTimeout p tries f) s fun d =>
      Dev.OnlyRegs [(Reg.FAB_PORT_ERR p.val).key]
        (if s.dev.get (Reg.FAB_PORT_ENC p.val) = 1 then s.dev.modPort p.val fun x => { x with txCtr := x.txCtr + 1 } else s.dev) d ∧
      d.get (Reg.FAB_PORT_ERR p.val) = min (s.dev.get (Reg.FAB_PORT_ERR p.val) + 1) 65535 ∧
      d.emitted = [.fabLink p.val { f with enc := decide (s.dev.get (Reg.FAB_PORT_ENC p.val) = 1) }]) ∧
    (8 ≤ tries → Completes (.fabricAckTimeout p tries f) s fun d =>
      d.portState p.val = (if s.dev.get (Reg.FAB_PORT_LANES p.val) = 0 then 1 else 2) ∧ d.get (Reg.FAB_PORT_ENC p.val) = 0 ∧
      (d.fport p.val).hail = none ∧ d.raw 93 = true))

/-- LSA, TIME_EXCHANGE, TIME_STEP, TIME_ERROR_ISLAND, TIME_SOURCE_CHANGE, POST_RECEIVED, NOTIFY_RECEIVED, FAB_CERTCMD_GENERATE,
FAB_CERTCMD_INSTALL, FAB_CERTCMD_ERASE (R503, R507 to R514, R586): routes, fabric time, posts, the device certificate. How half a
time difference rounds is a free value of the model (log 13). -/
def Obligations.fabricTimeAndPosts : Prop :=
  (∀ (s : State) (a : Nat), s.runs → s.dev.addr? = some a →
    Completes (.lsa none) s fun d =>
      Dev.OnlyRegs [] (s.dev.modFab fun x => { x with seq := (x.seq + 1) % 65536 }) d ∧
      d.emitted = [.fabric 255 3 ((s.dev.fab.seq + 1) % 65536 :: s.dev.neighbours)]) ∧
  (∀ s : State, s.runs → s.dev.addr? = none → Completes (.lsa none) s fun d => Dev.OnlyRegs [] s.dev d ∧ d.emitted = []) ∧
  (∀ (s : State) (src : Fin 32) (seq : BitVec 16) (links : List (Fin 32)), s.runs → s.dev.addr? ≠ some src.val →
    (s.dev.peer src.val).lsaSeq = none →
    Completes (.lsa (some (src, seq, links))) s fun d =>
      (d.peer src.val).lsaSeq = some seq.toNat ∧ (d.peer src.val).links = links.map (·.val) ∧ s.dev.sameStores d) ∧
  (∀ (s : State) (p : Fin 6) (t1 t2 t3 t4 : Int) (synced inIsland : Bool), s.runs → (s.dev.portUp p.val = false) →
    Completes (.timeExchange p t1 t2 t3 t4 synced inIsland) s fun d => Dev.OnlyRegs [] s.dev d) ∧
  (∀ (s : State) (p : Fin 6) (t1 t2 t3 t4 : Int) (synced inIsland : Bool), s.runs → s.dev.portUp p.val = true →
    s.dev.get Reg.FAB_STATUS_TIMESTATE ≠ 2 → s.dev.get (Reg.FAB_ROUTE_REACH (s.dev.get Reg.FAB_STATUS_TIMESRC)) = 1 →
    s.dev.get (Reg.FAB_ROUTE_PORT (s.dev.get Reg.FAB_STATUS_TIMESRC)) = p.val →
    Completes (.timeExchange p t1 t2 t3 t4 synced inIsland) s fun d =>
      d.getI Reg.FAB_TIMEERR_NS = max (-2147483648) (min 2147483647 (quot ((t2 - t1) - (t4 - t3)) 2)) ∧
      ((quot ((t2 - t1) - (t4 - t3)) 2).natAbs ≤ 1000 → d.get Reg.FAB_STATUS_TIMESTATE = 1 ∧ d.fab.step = none ∧
        d.bit Reg.FAB_ISLAND_CAUSE 1 = false) ∧
      (1000 < (quot ((t2 - t1) - (t4 - t3)) 2).natAbs → d.get Reg.FAB_STATUS_TIMESTATE = 3 ∧
        d.fab.step = some (quot ((t2 - t1) - (t4 - t3)) 2)) ∧ s.dev.sameStores d) ∧
  (∀ (s : State) (p : Fin 6) (t1 t2 t3 t4 : Int) (synced inIsland : Bool), s.runs → s.dev.portUp p.val = true →
    (s.dev.get Reg.FAB_STATUS_TIMESTATE = 2 ∨ s.dev.get (Reg.FAB_ROUTE_REACH (s.dev.get Reg.FAB_STATUS_TIMESRC)) = 0 ∨
      s.dev.get (Reg.FAB_ROUTE_PORT (s.dev.get Reg.FAB_STATUS_TIMESRC)) ≠ p.val) →
    Completes (.timeExchange p t1 t2 t3 t4 synced inIsland) s fun d =>
      Dev.OnlyRegs [] (s.dev.modPeer (s.dev.get (Reg.FAB_PORT_PEER p.val)) fun x => { x with synced := synced, inIsland := inIsland }) d) ∧
  (∀ s : State, s.runs → (∀ e, s.dev.fab.step = some e → 1000000 < e.natAbs) →
    Completes .timeStep s fun d => Dev.OnlyRegs [] s.dev d) ∧
  (∀ s : State, s.runs → (s.dev.multi = false ∨ ∀ e, s.dev.fab.step = some e → e.natAbs ≤ 1000000) →
    Completes .timeErrorIsland s fun d => Dev.OnlyRegs [] s.dev d) ∧
  (∀ (s : State) (e : Int), s.runs → s.dev.fab.step = some e → e.natAbs ≤ 1000000 →
    (s.dev.midRound = true → Completes .timeStep s fun d =>
      d.time = ((s.dev.time : Int) + e).toNat % 2 ^ 64 ∧ d.fab.step = none ∧ d.get Reg.FAB_STATUS_TIMESTATE = 1 ∧
      d.get Reg.FAB_TIMEERR_NS = 0 ∧ d.raw 94 = true) ∧
    (s.dev.midRound = false → Completes .timeStep s fun d => Dev.OnlyRegs [] s.dev d)) ∧
  (∀ (s : State) (e : Int), s.runs → s.dev.multi = true → s.dev.fab.step = some e → 1000000 < e.natAbs →
    Completes .timeErrorIsland s fun d =>
      d.bit Reg.FAB_ISLAND_CAUSE 1 = true ∧ d.get Reg.FAB_STATUS_ISLAND = 1 ∧ d.time = ((s.dev.time : Int) + e).toNat % 2 ^ 64 ∧
      d.fab.step = none ∧ d.raw 94 = true ∧ ((s.dev.mode = .idle ∨ s.dev.mode = .serve) → d.mode = s.dev.target .island)) ∧
  (∀ (s : State) (a b : Nat), s.runs → s.dev.addr? = some a → s.dev.timeSource = some b → s.dev.get Reg.FAB_STATUS_TIMESRC ≠ b →
    Completes .timeSourceChange s fun d =>
      Dev.OnlyRegsAndEvents [Reg.FAB_STATUS_TIMESRC.key, Reg.FAB_STATUS_TIMESTATE.key, Reg.FAB_STATUS_HOPS.key, Reg.FAB_TIMEERR_NS.key]
        s.dev d ∧ d.get Reg.FAB_STATUS_TIMESRC = b % 32 ∧ d.raw 94 = true ∧ d.time = s.dev.time) ∧
  (∀ (s : State) (q : Post), s.runs → s.dev.multi = true → q.addr < 32 → q.station ≠ s.dev.get Reg.FAB_CFG_STATION →
    (q.round * s.dev.roundNs + 5000000 < s.dev.time → Completes (.postReceived q) s fun d =>
      d.get Reg.FAB_SETDIG_LATE = min (s.dev.get Reg.FAB_SETDIG_LATE + 1) 65535 ∧ d.purse = s.dev.purse) ∧
    (s.dev.time ≤ q.round * s.dev.roundNs + 5000000 → Completes (.postReceived q) s fun d =>
      d.purse.posts = s.dev.purse.posts ++ [q] ∧ (d.peer q.addr).station = q.station ∧
      (q.setDigest = s.dev.purse.setDigest → d.purse.capShare = s.dev.purse.capShare) ∧
      (q.setDigest ≠ s.dev.purse.setDigest → d.purse.capShare = true ∧ d.raw 93 = true ∧
        d.get Reg.FAB_SETDIG_MISMATCH = min (s.dev.get Reg.FAB_SETDIG_MISMATCH + 1) 65535))) ∧
  (∀ (s : State) (q : Post), s.runs →
    (s.dev.multi = false ∨ 32 ≤ q.addr ∨ (q.station = s.dev.get Reg.FAB_CFG_STATION ∧ s.dev.addr? = some q.addr)) →
    Completes (.postReceived q) s fun d => Dev.OnlyRegs [] s.dev d) ∧
  (∀ (s : State) (src : Fin 32) (event : Fin 128), s.runs →
    Completes (.notifyReceived src event) s fun d =>
      Dev.OnlyRegsAndEvents [Reg.EVT_MISC_NADDR.key, Reg.EVT_MISC_NEVENT.key] s.dev d ∧ d.get Reg.EVT_MISC_NADDR = src.val ∧
      d.get Reg.EVT_MISC_NEVENT = event.val ∧ d.raw 15 = true) ∧
  (∀ s : State, s.serves → s.dev.mode = .commission →
    (s.dev.lifecycle = 3 → Completes .fabCertcmdGenerate s fun d =>
      Dev.OnlyRegs [Reg.SYS_REFUSE_CODE.key, Reg.SYS_REFUSE_ADDR.key] s.dev d ∧ d.get Reg.SYS_REFUSE_CODE = 10) ∧
    (s.dev.lifecycle ≠ 3 → Completes .fabCertcmdGenerate s fun d =>
      d.get Reg.FAB_CERTSTAT_STATE = 1 ∧ d.box.fabric.isSome = true ∧ d.fab.chain = none ∧
      Dev.OnlyRegs [Reg.SYS_REFUSE_CODE.key, Reg.FAB_CERTSTAT_STATE.key] { s.dev with box := d.box, fab := d.fab, freeCtr := s.dev.freeCtr + 1 } d ∧
      d.emitted = [.answer 0 0 []]) ∧
    (Completes .fabCertcmdErase s fun d =>
      d.get Reg.FAB_CERTSTAT_STATE = 0 ∧ d.box.fabric = none ∧ d.fab.chain = none ∧
      Dev.OnlyRegs [Reg.SYS_REFUSE_CODE.key, Reg.FAB_CERTSTAT_STATE.key] { s.dev with box := d.box, fab := d.fab } d ∧
      d.emitted = [.answer 0 0 []]) ∧
    (∀ len : BitVec 13, 1 ≤ len.toNat → len.toNat ≤ 4096 → Completes (.fabCertcmdInstall len) s fun d =>
      (s.dev.box.fabric = none → d.get Reg.FAB_CERTSTAT_STATE = 3 ∧ d.fab.chain = s.dev.fab.chain) ∧
      (∀ k, s.dev.box.fabric = some k →
        d.get Reg.FAB_CERTSTAT_STATE =
          if Config.chainNamesKey (s.dev.sramBytes s.dev.hostWin 0 len.toNat) (Config.publicKey k) = false then 3
          else if Config.chainVerifies (s.dev.sramBytes s.dev.hostWin 0 len.toNat) [s.dev.tab.siteCa] = false ∨
            s.dev.inDate (s.dev.sramBytes s.dev.hostWin 0 len.toNat) = false then 4 else 2) ∧
      (d.get Reg.FAB_CERTSTAT_STATE = 2 → d.fab.chain = some (s.dev.sramBytes s.dev.hostWin 0 len.toNat)) ∧
      Dev.OnlyRegs [Reg.SYS_REFUSE_CODE.key, Reg.FAB_CERTSTAT_STATE.key] { s.dev with fab := d.fab } d ∧ d.emitted = [.answer 0 0 []]) ∧
    (∀ len : BitVec 13, (len.toNat = 0 ∨ 4096 < len.toNat) → Completes (.fabCertcmdInstall len) s fun d =>
      Dev.OnlyRegs [Reg.SYS_REFUSE_CODE.key, Reg.SYS_REFUSE_ADDR.key] s.dev d ∧ d.get Reg.SYS_REFUSE_CODE = 5)) ∧
  (∀ (s : State) (c : Instr), s.serves → s.dev.mode ≠ .commission →
    (c = .fabCertcmdGenerate ∨ c = .fabCertcmdErase ∨ ∃ len, c = .fabCertcmdInstall len) → Completes c s fun d =>
      Dev.OnlyRegs [Reg.SYS_REFUSE_CODE.key, Reg.SYS_REFUSE_ADDR.key] s.dev d ∧ d.get Reg.SYS_REFUSE_CODE = 3 ∧ d.emitted = [.answer 1 3 []])

/-! ### SRAM, the Night Porter, the Strongbox -/

/-- ALIAS_BIT_OPERATION, PARTIAL_WRITE, MEM_ATOMSET, MEM_ATOMCLR (R522, R529 to R531): a write goes to its own bytes alone, by an
agent that may access the bank; the alias operation answers with the prior word, the atomic operation shows it in MEM_ATOMOLD. -/
def Obligations.sramWritesGoToTheirBytes : Prop :=
  (∀ (s : State) (agent : Fin 32) (b : Fin 64) (w : Fin 32768), s.runs → s.dev.mayAccess agent.val b.val = false →
    (∀ (mask : BitVec 64) (set_ bad : Bool), Completes (.aliasBitOperation agent b w mask set_ bad) s fun d =>
      Dev.OnlyRegs [] s.dev d ∧ d.emitted = [.answer 1 0 []]) ∧
    (∀ (data : BitVec 64) (mask : BitVec 8) (bad : Bool), Completes (.partialWrite agent b w data mask bad) s fun d =>
      Dev.OnlyRegs [] s.dev d ∧ d.emitted = [.answer 1 0 []])) ∧
  (∀ (s : State) (agent : Fin 32) (b : Fin 64) (w : Fin 32768) (mask : BitVec 64) (set_ : Bool), s.runs →
    s.dev.mayAccess agent.val b.val = true → s.dev.bankPwr b.val = 0 → s.dev.poisoned b.val w.val = false →
    Completes (.aliasBitOperation agent b w mask set_ false) s fun d =>
      Dev.OnlyRegs [] { s.dev with sram := d.sram } d ∧ d.emitted = [.answer 0 0 [s.dev.sramWord b.val w.val]] ∧
      d.sramWord b.val w.val = (if set_ then s.dev.sramWord b.val w.val ||| mask.toNat
        else s.dev.sramWord b.val w.val - (s.dev.sramWord b.val w.val &&& mask.toNat)) ∧
      ∀ a, (a < b.val * 262144 + 8 * w.val ∨ b.val * 262144 + 8 * w.val + 8 ≤ a) → tget 0#8 d.sram a = tget 0#8 s.dev.sram a) ∧
  (∀ (s : State) (agent : Fin 32) (b : Fin 64) (w : Fin 32768) (mask : BitVec 64) (set_ bad : Bool), s.runs →
    s.dev.mayAccess agent.val b.val = true → s.dev.bankPwr b.val = 0 → (bad = true ∨ s.dev.poisoned b.val w.val = true) →
    Completes (.aliasBitOperation agent b w mask set_ bad) s fun d =>
      d.poisoned b.val w.val = false ∧ d.sramWord b.val w.val = (if set_ then mask.toNat else 0) ∧
      ∀ a, (a < b.val * 262144 + 8 * w.val ∨ b.val * 262144 + 8 * w.val + 8 ≤ a) → tget 0#8 d.sram a = tget 0#8 s.dev.sram a) ∧
  (∀ (s : State) (agent : Fin 32) (b : Fin 64) (w : Fin 32768) (data : BitVec 64) (mask : BitVec 8), s.runs →
    s.dev.mayAccess agent.val b.val = true → s.dev.bankPwr b.val = 0 →
    (s.dev.poisoned b.val w.val = false → Completes (.partialWrite agent b w data mask false) s fun d =>
      Dev.OnlyRegs [] { (if mask.toNat = 255 then s.dev.setPoison b.val w.val false else s.dev) with sram := d.sram } d ∧ d.emitted = [.answer 0 0 []] ∧
      (∀ i < 8, d.sramByte b.val (8 * w.val + i) =
        if mask.getLsbD i then BitVec.ofNat 8 (data.toNat / 256 ^ i) else s.dev.sramByte b.val (8 * w.val + i)) ∧
      ∀ a, (a < b.val * 262144 + 8 * w.val ∨ b.val * 262144 + 8 * w.val + 8 ≤ a) → tget 0#8 d.sram a = tget 0#8 s.dev.sram a) ∧
    (∀ bad : Bool, (bad = true ∨ s.dev.poisoned b.val w.val = true) → Completes (.partialWrite agent b w data mask bad) s fun d =>
      d.poisoned b.val w.val = false ∧
      (∀ i < 8, d.sramByte b.val (8 * w.val + i) =
        if mask.getLsbD i then BitVec.ofNat 8 (data.toNat / 256 ^ i) else 0#8) ∧
      ∀ a, (a < b.val * 262144 + 8 * w.val ∨ b.val * 262144 + 8 * w.val + 8 ≤ a) → tget 0#8 d.sram a = tget 0#8 s.dev.sram a)) ∧
  (∀ (s : State) (agent : Fin 32) (b : Fin 64) (w : Fin 32768), s.runs → s.dev.mayAccess agent.val b.val = true →
    (s.dev.bankPwr b.val ≠ 0 → s.dev.bankPwr b.val ≠ 3 →
      (∀ (mask : BitVec 64) (set_ bad : Bool), Completes (.aliasBitOperation agent b w mask set_ bad) s fun d => Dev.OnlyRegs [] s.dev d) ∧
      (∀ (data : BitVec 64) (mask : BitVec 8) (bad : Bool), Completes (.partialWrite agent b w data mask bad) s fun d => Dev.OnlyRegs [] s.dev d)) ∧
    (s.dev.bankPwr b.val = 3 →
      (∀ (mask : BitVec 64) (set_ bad : Bool), Completes (.aliasBitOperation agent b w mask set_ bad) s fun d =>
        Dev.OnlyRegs [] (s.dev.modMem fun m => { m with waiting := m.waiting ++
          [{ agent := agent.val, bank := b.val, word := w.val, op := .bits mask.toNat set_ bad }] }) d ∧ d.emitted = []) ∧
      (∀ (data : BitVec 64) (mask : BitVec 8) (bad : Bool), Completes (.partialWrite agent b w data mask bad) s fun d =>
        Dev.OnlyRegs [] (s.dev.modMem fun m => { m with waiting := m.waiting ++
          [{ agent := agent.val, bank := b.val, word := w.val, op := .write data.toNat mask.toNat bad }] }) d ∧ d.emitted = []))) ∧
  (∀ (s : State) (mask : BitVec 32) (b o old : Nat), s.serves → b = s.dev.get Reg.MEM_HOSTWIN_BANK →
    o = 4 * s.dev.get Reg.MEM_ATOMADDR_OFFSET → old = ofLe (s.dev.sramBytes b o 4) → s.dev.poisoned b (o / 8) = false →
    s.dev.bankPwr b = 0 →
    (Completes (.memAtomset mask) s fun d =>
      Dev.OnlyRegs [Reg.SYS_REFUSE_CODE.key, Reg.MEM_ATOMOLD_MASK.key] { s.dev with sram := d.sram } d ∧
      d.get Reg.MEM_ATOMOLD_MASK = old ∧ ofLe (d.sramBytes b o 4) = old ||| mask.toNat ∧ d.emitted = [.answer 0 0 []] ∧
      ∀ a, (a < b * 262144 + o ∨ b * 262144 + o + 4 ≤ a) → tget 0#8 d.sram a = tget 0#8 s.dev.sram a) ∧
    (Completes (.memAtomclr mask) s fun d =>
      Dev.OnlyRegs [Reg.SYS_REFUSE_CODE.key, Reg.MEM_ATOMOLD_MASK.key] { s.dev with sram := d.sram } d ∧
      d.get Reg.MEM_ATOMOLD_MASK = old ∧ ofLe (d.sramBytes b o 4) = old - (old &&& mask.toNat) ∧ d.emitted = [.answer 0 0 []] ∧
      ∀ a, (a < b * 262144 + o ∨ b * 262144 + o + 4 ≤ a) → tget 0#8 d.sram a = tget 0#8 s.dev.sram a)) ∧
  (∀ (s : State) (mask : BitVec 32), s.serves → s.dev.bankPwr (s.dev.get Reg.MEM_HOSTWIN_BANK) ≠ 0 →
    (Completes (.memAtomset mask) s fun d => Dev.OnlyRegs [Reg.SYS_REFUSE_CODE.key] s.dev d) ∧
    (Completes (.memAtomclr mask) s fun d => Dev.OnlyRegs [Reg.SYS_REFUSE_CODE.key] s.dev d))

/-- BANK_HANDOVER, BANK_WAKE, BANK_RETENTION_REQUEST, NIGHT_PORTER_SCRUB, NIGHT_PORTER_LAP_END, LAP_OVER_LAPMAX, MIGRATION_SWITCH,
TAMPER, SHIELD_BREAK, TAMPER_LEVEL_CHANGE (R523 to R553). -/
def Obligations.banksMoveAndTheStrongboxIsWiped : Prop :=
  (∀ (s : State) (b : Fin 64) (new compare : Fin 32) (dma : Bool), s.runs →
    ((s.dev.holder b.val ≠ compare.val ∨ s.dev.handable b.val = false ∨ new.val = 31 ∨ dma = true) →
      Completes (.bankHandover b new compare dma) s fun d =>
        Dev.OnlyRegs [] s.dev d ∧ d.emitted = [.answer 0 0 [s.dev.holder b.val]]) ∧
    (s.dev.holder b.val = compare.val → s.dev.handable b.val = true → dma = false → new.val ≠ 31 → new.val ≠ 0 →
      s.dev.owner b.val = 0 → s.dev.bankPwr b.val ≠ 0 →
      Completes (.bankHandover b new compare dma) s fun d =>
        Dev.OnlyRegs [(Reg.MEM_BANKOWN_PWR b.val).key]
          (s.dev.modMem fun m => { m with claims := tput 0 m.claims b.val new.val }) d ∧ d.bankPwr b.val = 3 ∧
        d.holder b.val = new.val ∧ d.emitted = [.answer 0 0 [compare.val]]) ∧
    (s.dev.holder b.val = compare.val → s.dev.handable b.val = true → dma = false → new.val ≠ 31 → new.val ≠ 0 →
      (s.dev.owner b.val ≠ 0 ∨ s.dev.bankPwr b.val = 0) →
      Completes (.bankHandover b new compare dma) s fun d =>
        Dev.OnlyRegs [(Reg.MEM_BANKOWN_OWNER b.val).key] s.dev d ∧ d.owner b.val = new.val ∧
        d.emitted = [.answer 0 0 [compare.val]]) ∧
    (s.dev.holder b.val = compare.val → s.dev.handable b.val = true → dma = false → new.val = 0 →
      Completes (.bankHandover b new compare dma) s fun d =>
        d.owner b.val = 0 ∧ (d.bankPwr b.val = 0 ∨ d.bankPwr b.val = 2) ∧ (∀ o < 262144, d.sramByte b.val o = 0#8) ∧
        (∀ w < 32768, d.poisoned b.val w = false) ∧
        ∀ b' o, b' ≠ b.val → o < 262144 → d.sramByte b' o = s.dev.sramByte b' o)) ∧
  (∀ (s : State) (b : Fin 64) (bad : List (Fin 32768)), s.runs →
    ((s.dev.bankPwr b.val = 0 ∨ s.dev.retired b.val = true) → Completes (.bankWake b bad) s fun d => Dev.OnlyRegs [] s.dev d) ∧
    (s.dev.retired b.val = false → (∀ x ∈ s.dev.mem.waiting, x.bank ≠ b.val) → s.dev.bankPwr b.val = 1 →
      Completes (.bankWake b bad) s fun d =>
        d.bankPwr b.val = 0 ∧ d.sram = s.dev.sram ∧ (∀ w ∈ bad, d.poisoned b.val w.val = true) ∧
        (bad ≠ [] → d.raw 16 = true ∧ d.raw 19 = true)) ∧
    (s.dev.retired b.val = false → (∀ x ∈ s.dev.mem.waiting, x.bank ≠ b.val) →
      ((s.dev.bankPwr b.val = 2 ∧ s.dev.owner b.val ≠ 0) ∨ s.dev.bankPwr b.val = 3) →
      (∀ x, s.dev.mem.move = some x → x.bank ≠ b.val) →
      Completes (.bankWake b bad) s fun d =>
        d.bankPwr b.val = 0 ∧ (∀ o < 262144, d.sramByte b.val o = 0#8) ∧ (∀ w < 32768, d.poisoned b.val w = false) ∧
        (tget 0 s.dev.mem.claims b.val = 0 → d.owner b.val = s.dev.owner b.val) ∧
        (tget 0 s.dev.mem.claims b.val ≠ 0 → d.owner b.val = tget 0 s.dev.mem.claims b.val % 2 ^ (Reg.MEM_BANKOWN_OWNER b.val).width) ∧
        ∀ b' o, b' ≠ b.val → o < 262144 → d.sramByte b' o = s.dev.sramByte b' o)) ∧
  (∀ (s : State) (agent : Fin 32) (b : Fin 64), s.runs →
    (agent.val ≠ 0 → s.dev.owner b.val = agent.val → s.dev.bankPwr b.val = 0 → s.dev.retired b.val = false →
      Completes (.bankRetentionRequest agent b) s fun d =>
        Dev.OnlyRegs [(Reg.MEM_BANKOWN_PWR b.val).key] s.dev d ∧ d.bankPwr b.val = 1) ∧
    (s.dev.owner b.val ≠ agent.val → Completes (.bankRetentionRequest agent b) s fun d => Dev.OnlyRegs [] s.dev d)) ∧
  (∀ (s : State) (b : Fin 64) (w : Fin 32768) (synd : BitVec 8), s.runs → s.dev.bankPwr b.val = 0 →
    (s.dev.poisoned b.val w.val = false → Completes (.nightPorterScrub b w 0 synd) s fun d => Dev.OnlyRegs [] s.dev d) ∧
    (s.dev.poisoned b.val w.val = false → Completes (.nightPorterScrub b w 1 synd) s fun d =>
      d.sram = s.dev.sram ∧ d.poisoned b.val w.val = false ∧ d.get (Reg.MEM_BANKERR_SYND b.val) = synd.toNat ∧
      d.get (Reg.MEM_BANKERR_UE b.val) = s.dev.get (Reg.MEM_BANKERR_UE b.val)) ∧
    (∀ r : Fin 3, (r = 2 ∨ s.dev.poisoned b.val w.val = true) → Completes (.nightPorterScrub b w r synd) s fun d =>
      d.sram = s.dev.sram ∧ d.poisoned b.val w.val = true ∧
      d.get (Reg.MEM_BANKERR_UE b.val) = min (s.dev.get (Reg.MEM_BANKERR_UE b.val) + 1) 255 ∧
      d.get (Reg.MEM_BANKERR_SYND b.val) = synd.toNat ∧
      d.get Reg.MEM_LOGHEAD_TOTAL = (s.dev.get Reg.MEM_LOGHEAD_TOTAL + 1) % 2 ^ 32 ∧ d.raw 16 = true ∧ d.raw 19 = true)) ∧
  (∀ (s : State) (b : Fin 64) (w : Fin 32768) (r : Fin 3) (synd : BitVec 8), s.runs → s.dev.bankPwr b.val ≠ 0 →
    Completes (.nightPorterScrub b w r synd) s fun d => Dev.OnlyRegs [] s.dev d) ∧
  (∀ s : State, s.runs →
    (Completes .nightPorterLapEnd s fun d =>
      Dev.OnlyRegs [Reg.MEM_PORTER_LAST.key, Reg.MEM_PORTER_LAPS.key] (s.dev.modMem fun m => { m with lapStart := s.dev.now }) d ∧
      d.get Reg.MEM_PORTER_LAPS = min (s.dev.get Reg.MEM_PORTER_LAPS + 1) 65535 ∧
      d.get Reg.MEM_PORTER_LAST = min ((s.dev.now - s.dev.mem.lapStart) / 100000000) 65535) ∧
    (Completes .lapOverLapmax s fun d => Dev.OnlyRegsAndEvents [] s.dev d ∧ d.raw 18 = true)) ∧
  (∀ (s : State) (x : Migration), s.runs → s.dev.mem.move = some x → x.bank < 64 → x.spare < 64 → x.bank ≠ x.spare →
    s.dev.get Reg.MEM_RETSTAT_STATE = 2 →
    Completes .migrationSwitch s fun d =>
      d.get Reg.MEM_RETSTAT_STATE = 3 ∧ d.get Reg.MEM_RETSTAT_PROGRESS = 128 ∧ d.mem.move = none ∧ d.retired x.bank = true ∧
      d.owner x.bank = 31 ∧ d.owner x.spare = s.dev.owner x.bank % 2 ^ (Reg.MEM_BANKOWN_OWNER x.spare).width ∧
      d.get (Reg.MEM_BANKOWN_LOGICAL x.spare) =
        s.dev.get (Reg.MEM_BANKOWN_LOGICAL x.bank) % 2 ^ (Reg.MEM_BANKOWN_LOGICAL x.spare).width ∧
      d.get (Reg.MEM_BANKOWN_ROLE x.spare) = s.dev.get (Reg.MEM_BANKOWN_ROLE x.bank) % 2 ^ (Reg.MEM_BANKOWN_ROLE x.spare).width ∧
      d.bankPwr x.spare = (if x.retained then 1 else 0) ∧ d.raw 20 = true ∧
      (∀ o < 262144, d.sramByte x.bank o = 0#8)) ∧
  (∀ s : State, s.runs → (s.dev.mem.move = none ∨ s.dev.get Reg.MEM_RETSTAT_STATE ≠ 2) →
    Completes .migrationSwitch s fun d => Dev.OnlyRegs [] s.dev d) ∧
  (∀ (s : State) (k : Fin 4), s.runs →
    (s.dev.bit Reg.MEM_TAMPCFG_EN k.val = true → Completes (.tamper k) s fun d =>
      d.bit Reg.MEM_TAMPSTAT_LATCH k.val = true ∧ d.bit Reg.MEM_TAMPSTAT_LEVEL k.val = true ∧ d.box = {} ∧ d.fab.chain = none ∧
      d.get Reg.MEM_TAMPSTAT_WIPES = min (s.dev.get Reg.MEM_TAMPSTAT_WIPES + 1) 65535 ∧
      (∀ ix < 4, d.get (Reg.VLK_IDSTAT_STATE ix) = 0) ∧ d.get Reg.FAB_CERTSTAT_STATE = 0 ∧ d.raw 28 = true ∧ s.dev.sameStores d) ∧
    (s.dev.bit Reg.MEM_TAMPCFG_EN k.val = false → Completes (.tamper k) s fun d =>
      Dev.OnlyRegsAndEvents [Reg.MEM_TAMPSTAT_LEVEL.key] s.dev d ∧ d.bit Reg.MEM_TAMPSTAT_LEVEL k.val = true)) ∧
  (∀ s : State, s.runs →
    Completes .shieldBreak s fun d =>
      d.get Reg.MEM_TAMPSTAT_SHIELD = 1 ∧ d.box = {} ∧ d.fab.chain = none ∧ d.raw 28 = true ∧ d.raw 29 = true ∧ s.dev.sameStores d) ∧
  (∀ (s : State) (k : Fin 4) (pin : Bool), s.runs →
    s.dev.bit Reg.MEM_TAMPSTAT_LEVEL k.val ≠ decide (pin = s.dev.bit Reg.MEM_TAMPCFG_POL k.val) →
    Completes (.tamperLevelChange k pin) s fun d =>
      Dev.OnlyRegsAndEvents [Reg.MEM_TAMPSTAT_LEVEL.key] s.dev d ∧
      d.bit Reg.MEM_TAMPSTAT_LEVEL k.val = decide (pin = s.dev.bit Reg.MEM_TAMPCFG_POL k.val) ∧ d.raw 29 = true) ∧
  (∀ (s : State) (k : Fin 4) (pin : Bool), s.runs →
    s.dev.bit Reg.MEM_TAMPSTAT_LEVEL k.val = decide (pin = s.dev.bit Reg.MEM_TAMPCFG_POL k.val) →
    Completes (.tamperLevelChange k pin) s fun d => Dev.OnlyRegs [] s.dev d)

/-! ### Transactions -/

/-- TXN_BEGIN, TXN_COMMIT, TXN_ABORT, TXN_TIMEOUT_EXPIRY, PERSIST_WRITE_COMPLETE (R564 to R569): one transaction at a time, by the
handle and the agent that opened it; a refused commit discards every shadow and tells its code and address; an accepted one
waits for its boundary with all its writes. -/
def Obligations.transactionsOpenCommitAndAbort : Prop :=
  (∀ (s : State) (a : Fin 11), s.serves →
    ((s.dev.txn.isSome = true ∨ s.dev.holding.isSome = true ∨ s.dev.mode.transacts = false) →
      Completes (.txnBegin a) s fun d => Dev.OnlyRegs [Reg.SYS_REFUSE_CODE.key, Reg.SYS_REFUSE_ADDR.key] s.dev d ∧
        d.get Reg.SYS_REFUSE_CODE = 1 ∧ d.emitted = [.answer 0 0 [0]]) ∧
    (s.dev.txn = none → s.dev.holding = none → s.dev.mode.transacts = true →
      Completes (.txnBegin a) s fun d =>
        Dev.OnlyRegs [Reg.TXN_STATUS_STATE.key, Reg.TXN_STATUS_CODE.key, Reg.TXN_STATUS_AGENT.key, Reg.TXN_STATUS_HANDLE.key]
          { s.dev with txn := some { agent := a.val, handle := s.dev.nextHandle, begun := s.dev.now },
                       nextHandle := if s.dev.nextHandle = 65535 then 1 else s.dev.nextHandle + 1 } d ∧
        d.get Reg.TXN_STATUS_STATE = 1 ∧ d.get Reg.TXN_STATUS_AGENT = a.val ∧ d.emitted = [.answer 0 0 [s.dev.nextHandle]])) ∧
  (∀ (s : State) (a : Fin 11) (h : BitVec 16) (p : Bool), s.serves →
    (∀ code : Nat, (code = 2 ∧ ∀ t, s.dev.txn = some t → t.handle ≠ h.toNat) ∨
        (code = 9 ∧ ∃ t, s.dev.txn = some t ∧ t.handle = h.toNat ∧ t.agent ≠ a.val) →
      (Completes (.txnAbort a h) s fun d => Dev.OnlyRegs [Reg.SYS_REFUSE_CODE.key, Reg.SYS_REFUSE_ADDR.key] s.dev d ∧
        d.get Reg.SYS_REFUSE_CODE = code ∧ d.emitted = [.answer 2 code []]) ∧
      (Completes (.txnCommit a h p) s fun d => Dev.OnlyRegs [Reg.SYS_REFUSE_CODE.key, Reg.SYS_REFUSE_ADDR.key] s.dev d ∧
        d.get Reg.SYS_REFUSE_CODE = code ∧ d.emitted = [.answer 2 code []])) ∧
    (∀ t, s.dev.txn = some t → t.handle = h.toNat → t.agent = a.val →
      Completes (.txnAbort a h) s fun d =>
        Dev.OnlyRegs [Reg.TXN_STATUS_STATE.key, Reg.TXN_STATUS_CODE.key, Reg.TXN_STATUS_AGENT.key, Reg.TXN_STATUS_HANDLE.key]
          { s.dev with txn := none } d ∧ d.get Reg.TXN_STATUS_STATE = 5 ∧ d.emitted = [.answer 0 0 []]) ∧
    (∀ t code addr, s.dev.txn = some t → t.handle = h.toNat → t.agent = a.val →
      (s.dev.txnExpired t = true ∧ code = 7 ∧ addr = Reg.TXN_COMMIT_HANDLE.addr) ∨
        (s.dev.txnExpired t = false ∧ s.dev.commitFault (t.lockHit.or (s.dev.lockOf t.writes)) t.writes = some (code, addr)) →
      Completes (.txnCommit a h p) s fun d =>
        Dev.OnlyRegsAndEvents [Reg.TXN_STATUS_STATE.key, Reg.TXN_STATUS_CODE.key, Reg.TXN_STATUS_AGENT.key, Reg.TXN_STATUS_HANDLE.key,
          Reg.TXN_ERRADDR_VALUE.key, Reg.SYS_REFUSE_CODE.key, Reg.SYS_REFUSE_ADDR.key] { s.dev with txn := none } d ∧
        d.get Reg.TXN_STATUS_STATE = 6 ∧ d.get Reg.TXN_STATUS_CODE = code % 16 ∧ d.get Reg.TXN_ERRADDR_VALUE = addr % 2 ^ 32 ∧
        d.raw 3 = true) ∧
    (∀ t, s.dev.txn = some t → t.handle = h.toNat → t.agent = a.val → s.dev.txnExpired t = false →
      s.dev.commitFault (t.lockHit.or (s.dev.lockOf t.writes)) t.writes = none →
      (s.dev.holding.isSome = true → touches t.writes (fun k => siteField (k / 32)) = true → Completes (.txnCommit a h p) s fun d =>
        d.txn = none ∧ d.scheds = s.dev.scheds ∧ d.get Reg.TXN_STATUS_STATE = 6 ∧ d.get Reg.TXN_STATUS_CODE = 1 ∧ d.raw 3 = true) ∧
      ((s.dev.duplex = false ∨ s.dev.drives = true ∨ s.dev.get Reg.DUP_LEASE_VALID ≠ 1) → s.dev.sentUp = none →
        (touches t.writes (fun k => siteField (k / 32)) = false ∨
          s.dev.holding = none ∧ s.dev.preparing = none ∧ s.dev.peersAsked = []) →
        Completes (.txnCommit a h p) s fun d =>
          d.txn = none ∧ d.locked = true ∧ d.get Reg.TXN_STATUS_STATE = 3 ∧ d.get Reg.TXN_STATUS_CODE = 0 ∧
          d.get Reg.TXN_APPLY_VALUE = s.dev.nextApply % 2 ^ 32 ∧ .answer 0 0 [] ∈ d.emitted ∧
          d.scheds = s.dev.scheds ++ [{ round := s.dev.nextApply, handle := h.toNat, agent := a.val, persist := p, writes := t.writes }] ∧
          (touches t.writes (fun k => calibration (k / 32)) = false → Dev.OnlyRegs [Reg.TXN_STATUS_STATE.key, Reg.TXN_STATUS_CODE.key,
            Reg.TXN_STATUS_AGENT.key, Reg.TXN_STATUS_HANDLE.key, Reg.TXN_APPLY_VALUE.key]
            { s.dev with txn := none, locked := true, scheds := d.scheds } d) ∧
          (touches t.writes (fun k => calibration (k / 32)) = true →
            d.get Reg.TAL_CALID_ID = (s.dev.get Reg.TAL_CALID_ID + 1) % 2 ^ 32 ∧ d.raw 79 = true)) ∧
      ((s.dev.duplex = false ∨ s.dev.drives = true ∨ s.dev.get Reg.DUP_LEASE_VALID ≠ 1) → touches t.writes (fun k => siteField (k / 32)) = true → s.dev.holding = none →
        s.dev.preparing = none → s.dev.sentUp = none → s.dev.peersAsked ≠ [] →
        Completes (.txnCommit a h p) s fun d =>
          d.txn = none ∧ d.locked = s.dev.locked ∧ d.scheds = s.dev.scheds ∧ d.get Reg.TXN_STATUS_STATE = 2 ∧ d.get Reg.TXN_PHASE_FSTATE = 1 ∧
          d.preparing = some (Prepare.mk (s.dev.get Reg.FAB_CFG_STATION)
            { handle := h.toNat, agent := a.val, persist := p, writes := t.writes } [] s.dev.peersAsked) ∧
          ∀ x ∈ s.dev.peersAsked, .fabric x 9 ([1, h.toNat] ++ writeWords (siteWrites t.writes)) ∈ d.emitted) ∧
      (s.dev.duplex = true → s.dev.drives = false → s.dev.get Reg.DUP_LEASE_VALID = 1 →
        s.dev.sentUp = none →
        (touches t.writes (fun k => siteField (k / 32)) = false ∨ s.dev.holding = none ∧ s.dev.preparing = none) →
        Completes (.txnCommit a h p) s fun d =>
          d.txn = none ∧ d.locked = s.dev.locked ∧ d.scheds = s.dev.scheds ∧ d.get Reg.TXN_STATUS_STATE = 2 ∧
          d.sentUp = some { handle := h.toNat, agent := a.val, persist := p, writes := t.writes } ∧
          .twin 10 ([h.toNat, flag p] ++ writeWords (stationWrites t.writes)) ∈ d.emitted))) ∧
  (∀ s : State, s.runs →
    (s.dev.txn = none → Completes .txnTimeoutExpiry s fun d => Dev.OnlyRegs [] s.dev d) ∧
    (∀ t, s.dev.txn = some t → Completes .txnTimeoutExpiry s fun d =>
      Dev.OnlyRegsAndEvents [Reg.TXN_STATUS_STATE.key, Reg.TXN_STATUS_CODE.key, Reg.TXN_STATUS_AGENT.key, Reg.TXN_STATUS_HANDLE.key]
        { s.dev with txn := none } d ∧
      d.get Reg.TXN_STATUS_STATE = 5 ∧ d.get Reg.TXN_STATUS_CODE = 7 ∧ d.raw 3 = true)) ∧
  (∀ (s : State) (ok : Bool), s.runs →
    (s.dev.persisting = none → Completes (.persistWriteComplete ok) s fun d => Dev.OnlyRegs [] s.dev d) ∧
    (∀ img other good, s.dev.persisting = some img → s.dev.persistDue = false → other = decide (s.dev.get Reg.SYS_TAB_ACTIVE = 0) →
      good = (ok && (s.dev.putFlash (copyBase other) img).copyOk other) →
      Completes (.persistWriteComplete ok) s fun d =>
        d.persisting = none ∧ d.raw 4 = true ∧
        d.flash = (if ok then (s.dev.putFlash (copyBase other) img).flash else s.dev.flash) ∧
        d.get Reg.TXN_PHASE_PSTATE = (if good then 3 else 4) ∧
        d.get Reg.SYS_TAB_ACTIVE = (if good then flag other else s.dev.get Reg.SYS_TAB_ACTIVE) ∧
        (good = false → d.get Reg.TXN_STATUS_CODE = 12)))

/-- TXN_PREPARE_RECEIVED, TXN_PREPARE_REPLY, TXN_PREPARE_TIMEOUT, TXN_FABRIC_COMMIT, TXN_FABRIC_ABORT, TXN_PREPARE_HOLD_EXPIRY
(R571): a prepare is validated, held and answered; every acceptance names one boundary for every station; a refusal or a missing
answer gives the change up everywhere. -/
def Obligations.siteChangesTakeTwoPhases : Prop :=
  (∀ (s : State) (x : BitVec 8) (h : BitVec 16) (ws : List (Nat × Nat)) (tb : Tbl (Option Nat)), s.runs →
    tb = ws.foldl (fun t w => tput none t w.1 (some w.2)) [] →
    (s.dev.drives = false → Completes (.txnPrepareReceived x h ws) s fun d => Dev.OnlyRegs [] s.dev d ∧ d.emitted = []) ∧
    (s.dev.drives = true →
      (((s.dev.preparing.isSome = true ∧ s.dev.get Reg.FAB_CFG_STATION ≤ x.toNat) ∨
          (s.dev.preparing = none ∧ ∃ p, s.dev.holding = some p ∧ p.station ≤ x.toNat)) →
        Completes (.txnPrepareReceived x h ws) s fun d => Dev.OnlyRegs [] s.dev d ∧
          d.emitted = [.fabric x.toNat 9 [2, h.toNat, 1]]) ∧
      (∀ p, s.dev.preparing = some p → p.sched.agent ≠ 11 → x.toNat < s.dev.get Reg.FAB_CFG_STATION → Completes (.txnPrepareReceived x h ws) s fun d =>
        d.preparing = none ∧ d.get Reg.TXN_PHASE_PEER = x.toNat % 32 ∧ d.get Reg.TXN_STATUS_STATE = 6 ∧ d.get Reg.TXN_STATUS_CODE = 8 ∧
        d.raw 3 = true ∧ ∀ y ∈ p.awaited, .fabric y 9 [4, p.sched.handle] ∈ d.emitted) ∧
      (s.dev.preparing = none → (∀ p, s.dev.holding = some p → x.toNat < p.station) →
        ((tb.any fun w => !siteField (w.1 / 32) || (fieldAt w.1).isNone) = true →
          Completes (.txnPrepareReceived x h ws) s fun d => Dev.OnlyRegs [] s.dev d ∧ d.emitted = [.fabric x.toNat 9 [2, h.toNat, 6]]) ∧
        ((tb.any fun w => !siteField (w.1 / 32) || (fieldAt w.1).isNone) = false →
          (∀ code addr, s.dev.commitFault (s.dev.lockOf tb) tb = some (code, addr) → Completes (.txnPrepareReceived x h ws) s fun d =>
            Dev.OnlyRegs [] s.dev d ∧ d.emitted = [.fabric x.toNat 9 [2, h.toNat, code]]) ∧
          (s.dev.commitFault (s.dev.lockOf tb) tb = none → Completes (.txnPrepareReceived x h ws) s fun d =>
            Dev.OnlyRegs [Reg.TXN_PHASE_FSTATE.key]
              { s.dev with holding := some { station := x.toNat, sched := { handle := h.toNat, writes := tb } } } d ∧
            d.get Reg.TXN_PHASE_FSTATE = 2 ∧ d.emitted = [.fabric x.toNat 9 [2, h.toNat, 0]]))))) ∧
  (∀ (s : State) (x : BitVec 8) (c : BitVec 4), s.runs →
    ((∀ p, s.dev.preparing = some p → p.awaited.contains x.toNat = false) →
      Completes (.txnPrepareReply x c) s fun d => Dev.OnlyRegs [] s.dev d) ∧
    (∀ p, s.dev.preparing = some p → p.sched.agent ≠ 11 → p.awaited.contains x.toNat = true →
      (c.toNat ≠ 0 → Completes (.txnPrepareReply x c) s fun d => s.dev.gaveUp p x.toNat d) ∧
      (c.toNat = 0 → ∀ got, got = (if p.answered.contains x.toNat then p.answered else p.answered ++ [x.toNat]) →
        (p.awaited.all got.contains = false → Completes (.txnPrepareReply x c) s fun d =>
          Dev.OnlyRegs [] { s.dev with preparing := some { p with answered := got } } d) ∧
        (p.awaited.all got.contains = true → Completes (.txnPrepareReply x c) s fun d =>
          d.preparing = none ∧ d.get Reg.TXN_PHASE_FSTATE = 3 ∧ d.get Reg.TXN_STATUS_STATE = 3 ∧
          ∃ r, s.dev.round + 3 ≤ r ∧ (∀ y ∈ s.dev.scheds, y.round ≠ r) ∧ d.scheds = s.dev.scheds ++ [{ p.sched with round := r }] ∧
            d.get Reg.TXN_APPLY_VALUE = r % 2 ^ 32 ∧ ∀ y ∈ p.awaited, .fabric y 9 [3, p.sched.handle, r] ∈ d.emitted)))) ∧
  (∀ s : State, s.runs →
    ((∀ p, s.dev.preparing = some p → p.awaited.filter (fun y => !p.answered.contains y) = []) →
      Completes .txnPrepareTimeout s fun d => Dev.OnlyRegs [] s.dev d) ∧
    (∀ p y ys, s.dev.preparing = some p → p.sched.agent ≠ 11 → p.awaited.filter (fun y => !p.answered.contains y) = y :: ys →
      Completes .txnPrepareTimeout s fun d => s.dev.gaveUp p (ys.foldl min y) d) ∧
    (s.dev.holding = none → Completes .txnPrepareHoldExpiry s fun d => Dev.OnlyRegs [] s.dev d) ∧
    (s.dev.holding.isSome = true → Completes .txnPrepareHoldExpiry s fun d =>
      Dev.OnlyRegs [Reg.TXN_PHASE_FSTATE.key] { s.dev with holding := none } d ∧ d.get Reg.TXN_PHASE_FSTATE = 4)) ∧
  (∀ (s : State) (x : BitVec 8) (r : Nat), s.runs →
    ((∀ p, s.dev.holding = some p → p.station ≠ x.toNat) →
      (Completes (.txnFabricCommit x r) s fun d => Dev.OnlyRegs [] s.dev d) ∧
      (Completes (.txnFabricAbort x) s fun d => Dev.OnlyRegs [] s.dev d)) ∧
    (∀ p, s.dev.holding = some p → p.station = x.toNat →
      (Completes (.txnFabricCommit x r) s fun d =>
        Dev.OnlyRegs [Reg.TXN_PHASE_FSTATE.key] { s.dev.makeRoom r with holding := none, scheds := (s.dev.makeRoom r).scheds ++ [{ p.sched with round := r }] } d ∧
        d.get Reg.TXN_PHASE_FSTATE = 3) ∧
      (Completes (.txnFabricAbort x) s fun d =>
        Dev.OnlyRegs [Reg.TXN_PHASE_FSTATE.key] { s.dev with holding := none } d ∧ d.get Reg.TXN_PHASE_FSTATE = 4))) ∧
  (∀ (d : Dev) (r : Nat), (∀ x ∈ (d.makeRoom r).scheds, x.round ≠ r) ∧ (d.makeRoom r).scheds.length = d.scheds.length ∧
    ((∀ x ∈ d.scheds, x.round ≠ r) → d.makeRoom r = d)) ∧
  (∀ (s : State) (x : BitVec 8) (c : BitVec 4), s.runs → ∀ p, s.dev.preparing = some p → p.sched.agent = 11 →
    p.awaited.contains x.toNat = true → c.toNat ≠ 0 →
    Completes (.txnPrepareReply x c) s fun d =>
      d.preparing = none ∧ d.get Reg.TXN_PHASE_FSTATE = 4 ∧ d.get Reg.TXN_PHASE_PEER = x.toNat % 32 ∧
      .twin 11 [p.sched.handle, 8] ∈ d.emitted ∧ d.get Reg.TXN_STATUS_STATE = s.dev.get Reg.TXN_STATUS_STATE)

/-! ### Pigeonholes, events and the flash -/

/-- PGH_POST, PGH_TAKE, PGH_ACK, PGH_DONE, PGH_FLUSH (R579): POST fills an EMPTY pigeonhole; the receiver takes and acknowledges;
the recorded sender ends. PGH_RESULT tells 0, 1 not empty, 2 wrong state, 3 wrong agent, 4 too long. -/
def Obligations.pigeonholesGoRound : Prop :=
  (∀ (s : State) (a : Fin 13) (h : Fin 32) (len : BitVec 16) (bytes : List Byte) (addr : Fin 32) (ep : BitVec 16), s.runs →
    (256 < len.toNat → Completes (.pghPost a h len bytes addr ep) s fun d =>
      tget 0 d.pghResult a.val = 4 ∧ d.get (Reg.PGH_STAT_STATE h.val) = s.dev.get (Reg.PGH_STAT_STATE h.val)) ∧
    (len.toNat ≤ 256 → s.dev.get (Reg.PGH_STAT_STATE h.val) ≠ 0 → Completes (.pghPost a h len bytes addr ep) s fun d =>
      tget 0 d.pghResult a.val = 1 ∧ d.get (Reg.PGH_STAT_STATE h.val) = s.dev.get (Reg.PGH_STAT_STATE h.val)) ∧
    (len.toNat ≤ 256 → s.dev.get (Reg.PGH_STAT_STATE h.val) = 0 → Completes (.pghPost a h len bytes addr ep) s fun d =>
      tget 0 d.pghResult a.val = 0 ∧ d.get (Reg.PGH_STAT_STATE h.val) = 1 ∧ d.get (Reg.PGH_STAT_SNDAGENT h.val) = a.val ∧
      d.get (Reg.PGH_STAT_SNDADDR h.val) = addr.val ∧
      d.get (Reg.PGH_STAT_LEN h.val) = len.toNat ∧ d.get (Reg.PGH_STAT_STALE h.val) = 0 ∧
      (s.dev.get (Reg.PGH_CFG_RCV h.val) < 3 → d.raw (120 + h.val / 4) = true) ∧
      (3 ≤ a.val → ∀ w < 64, d.get (Reg.PGH_DATA_DATA h.val w) =
        ofLe ((((bytes ++ List.replicate 256 0#8).take len.toNat).drop (4 * w)).take 4)) ∧
      (a.val < 3 → ∀ w < 64, 4 * w + 4 ≤ len.toNat →
        d.get (Reg.PGH_DATA_DATA h.val w) = tget 0 s.dev.stage (64 * a.val + w) % 2 ^ 32))) ∧
  (∀ (s : State) (a : Fin 13) (h : Fin 32), s.runs →
    (s.dev.get (Reg.PGH_STAT_STATE h.val) ≠ 1 → s.dev.get (Reg.PGH_CFG_RCV h.val) = a.val → Completes (.pghTake a h) s fun d =>
      Dev.OnlyRegs [] { s.dev with pghResult := tput 0 s.dev.pghResult a.val 2 } d) ∧
    (s.dev.get (Reg.PGH_STAT_STATE h.val) = 1 → s.dev.get (Reg.PGH_CFG_RCV h.val) ≠ a.val → Completes (.pghTake a h) s fun d =>
      Dev.OnlyRegs [] { s.dev with pghResult := tput 0 s.dev.pghResult a.val 3 } d) ∧
    (s.dev.get (Reg.PGH_STAT_STATE h.val) ≠ 1 → s.dev.get (Reg.PGH_CFG_RCV h.val) ≠ a.val → Completes (.pghTake a h) s fun d =>
      (tget 0 d.pghResult a.val = 2 ∨ tget 0 d.pghResult a.val = 3) ∧ Dev.OnlyRegs [] { s.dev with pghResult := d.pghResult, freeCtr := d.freeCtr } d) ∧
    (s.dev.get (Reg.PGH_STAT_STATE h.val) = 1 → s.dev.get (Reg.PGH_CFG_RCV h.val) = a.val → Completes (.pghTake a h) s fun d =>
      Dev.OnlyRegs [(Reg.PGH_STAT_STATE h.val).key] { s.dev with pghResult := tput 0 s.dev.pghResult a.val 0 } d ∧
      d.get (Reg.PGH_STAT_STATE h.val) = 2) ∧
    (s.dev.get (Reg.PGH_STAT_STATE h.val) ≠ 3 → s.dev.get (Reg.PGH_STAT_SNDAGENT h.val) = a.val → Completes (.pghDone a h) s fun d =>
      Dev.OnlyRegs [] { s.dev with pghResult := tput 0 s.dev.pghResult a.val 2 } d) ∧
    (s.dev.get (Reg.PGH_STAT_STATE h.val) = 3 → s.dev.get (Reg.PGH_STAT_SNDAGENT h.val) ≠ a.val → Completes (.pghDone a h) s fun d =>
      Dev.OnlyRegs [] { s.dev with pghResult := tput 0 s.dev.pghResult a.val 3 } d) ∧
    (s.dev.get (Reg.PGH_STAT_STATE h.val) ≠ 3 → s.dev.get (Reg.PGH_STAT_SNDAGENT h.val) ≠ a.val → Completes (.pghDone a h) s fun d =>
      (tget 0 d.pghResult a.val = 2 ∨ tget 0 d.pghResult a.val = 3) ∧ Dev.OnlyRegs [] { s.dev with pghResult := d.pghResult, freeCtr := d.freeCtr } d) ∧
    (s.dev.get (Reg.PGH_STAT_STATE h.val) = 3 → s.dev.get (Reg.PGH_STAT_SNDAGENT h.val) = a.val → Completes (.pghDone a h) s fun d =>
      Dev.OnlyRegs [(Reg.PGH_STAT_STATE h.val).key] { s.dev with pghResult := tput 0 s.dev.pghResult a.val 0 } d ∧
      d.get (Reg.PGH_STAT_STATE h.val) = 0) ∧
    (a.val < 3 → Completes (.pghFlush a h) s fun d =>
      Dev.OnlyRegs [(Reg.PGH_STAT_STATE h.val).key] { s.dev with pghResult := tput 0 s.dev.pghResult a.val 0 } d ∧
      d.get (Reg.PGH_STAT_STATE h.val) = 0) ∧
    (3 ≤ a.val → Completes (.pghFlush a h) s fun d =>
      Dev.OnlyRegs [] { s.dev with pghResult := tput 0 s.dev.pghResult a.val 3 } d)) ∧
  (∀ (s : State) (a : Fin 13) (h : Fin 32) (code : BitVec 16), s.runs →
    (s.dev.get (Reg.PGH_CFG_RCV h.val) = a.val → (s.dev.get (Reg.PGH_STAT_STATE h.val) = 1 ∨ s.dev.get (Reg.PGH_STAT_STATE h.val) = 2) →
      Completes (.pghAck a h code) s fun d =>
        tget 0 d.pghResult a.val = 0 ∧ d.get (Reg.PGH_STAT_STATE h.val) = 3 ∧ d.get (Reg.PGH_ACKCODE_CODE h.val) = code.toNat ∧
        (s.dev.get (Reg.PGH_STAT_SNDAGENT h.val) < 3 → d.raw (120 + h.val / 4) = true) ∧
        (s.dev.get (Reg.PGH_STAT_SNDAGENT h.val) = 12 →
          .fabric (s.dev.get (Reg.PGH_STAT_SNDADDR h.val)) 6 [3, h.val, code.toNat] ∈ d.emitted)) ∧
    (s.dev.get (Reg.PGH_CFG_RCV h.val) = a.val → s.dev.get (Reg.PGH_STAT_STATE h.val) ≠ 1 → s.dev.get (Reg.PGH_STAT_STATE h.val) ≠ 2 →
      Completes (.pghAck a h code) s fun d => Dev.OnlyRegs [] { s.dev with pghResult := tput 0 s.dev.pghResult a.val 2 } d) ∧
    (s.dev.get (Reg.PGH_CFG_RCV h.val) ≠ a.val → (s.dev.get (Reg.PGH_STAT_STATE h.val) = 1 ∨ s.dev.get (Reg.PGH_STAT_STATE h.val) = 2) →
      Completes (.pghAck a h code) s fun d => Dev.OnlyRegs [] { s.dev with pghResult := tput 0 s.dev.pghResult a.val 3 } d) ∧
    (s.dev.get (Reg.PGH_CFG_RCV h.val) ≠ a.val → s.dev.get (Reg.PGH_STAT_STATE h.val) ≠ 1 → s.dev.get (Reg.PGH_STAT_STATE h.val) ≠ 2 →
      Completes (.pghAck a h code) s fun d =>
        (tget 0 d.pghResult a.val = 2 ∨ tget 0 d.pghResult a.val = 3) ∧ Dev.OnlyRegs [] { s.dev with pghResult := d.pghResult, freeCtr := d.freeCtr } d))

/-- EVT_RAW_CLEAR, GUESTBOOK_FLUSH, NVM_ERASE, NVM_PROGRAM, NVM_READ, NVM_CHECK, NVM_ACTIVATE, NVM_RELEASE, NVM_OP_COMPLETE (R584,
R587, R621 to R623): clear first, raise second; the Guestbook's waiting entries go to MRAM; one flash operation at a time, and a
failed one changes neither flash nor SRAM. -/
def Obligations.eventsClearAndTheFlashWorks : Prop :=
  (∀ (s : State) (k : Fin 4) (mask : BitVec 32), s.serves →
    (Completes (.evtRawClear k mask []) s fun d => Dev.OnlyRegs [(Reg.EVT_RAW_BITS k.val).key] s.dev d ∧ d.emitted = [.answer 0 0 []] ∧
      d.get (Reg.EVT_RAW_BITS k.val) = s.dev.get (Reg.EVT_RAW_BITS k.val) - (s.dev.get (Reg.EVT_RAW_BITS k.val) &&& mask.toNat)) ∧
    ∀ raised, Completes (.evtRawClear k mask raised) s fun d =>
      Dev.OnlyRegsAndEvents [] s.dev d ∧ (∀ x ∈ raised, d.raw (32 * k.val + x.1.val) = true) ∧
      ∀ i < 32, mask.getLsbD i = false → s.dev.raw (32 * k.val + i) = true → d.raw (32 * k.val + i) = true) ∧
  (∀ s : State, s.runs →
    (s.dev.mode = .boot ∨ s.dev.mode = .selftest → Completes .guestbookFlush s fun d => Dev.OnlyRegs [] s.dev d) ∧
    (s.dev.mode ≠ .boot → s.dev.mode ≠ .selftest → Completes .guestbookFlush s fun d =>
      Dev.OnlyRegs [Reg.EVT_GBHEAD_VALUE.key] { s.dev with gb := d.gb, gbWait := [] } d ∧
      d.get Reg.EVT_GBHEAD_VALUE = s.dev.gbNext % 2 ^ 32 ∧
      ∀ i, (∀ x ∈ s.dev.gbWait, x.1 % 32768 ≠ i) → tget {} d.gb i = tget {} s.dev.gb i)) ∧
  (∀ (s : State) (c : Fin 2), s.serves →
    (Completes .nvmErase s fun d => s.dev.nvmStarted 1 0 65536 d) ∧
    (Completes .nvmProgram s fun d => s.dev.nvmStarted 2 0 (s.dev.get Reg.NVM_LEN_VALUE) d) ∧
    (Completes .nvmRead s fun d => s.dev.nvmStarted 3 0 (s.dev.get Reg.NVM_LEN_VALUE) d) ∧
    (Completes (.nvmCheck c) s fun d => s.dev.nvmStarted 4 c.val (s.dev.get Reg.NVM_LEN_VALUE) d) ∧
    (Completes (.nvmActivate c) s fun d => s.dev.nvmStarted 5 c.val (s.dev.get Reg.NVM_LEN_VALUE) d)) ∧
  (∀ s : State, s.serves →
    (s.dev.nvm.isSome = true → Completes .nvmRelease s fun d =>
      Dev.OnlyRegs [Reg.SYS_REFUSE_CODE.key, Reg.SYS_REFUSE_ADDR.key] s.dev d ∧ d.emitted = [.answer 2 1 []]) ∧
    (s.dev.nvm = none → s.dev.mode.nvmRefuses = true → Completes .nvmRelease s fun d =>
      d.get Reg.NVM_STATUS_STATE = 3 ∧ d.get Reg.NVM_STATUS_RESULT = 1 ∧ d.get Reg.NVM_STATUS_HOLD = s.dev.get Reg.NVM_STATUS_HOLD ∧
      d.raw 118 = true) ∧
    (s.dev.nvm = none → s.dev.mode.nvmRefuses = false → Completes .nvmRelease s fun d =>
      d.get Reg.NVM_STATUS_STATE = 2 ∧ d.get Reg.NVM_STATUS_RESULT = 0 ∧ d.get Reg.NVM_STATUS_HOLD = 0 ∧ d.raw 117 = true)) ∧
  (∀ (s : State) (ok : Bool), s.runs →
    (s.dev.nvm = none → Completes (.nvmOpComplete ok) s fun d => Dev.OnlyRegs [] s.dev d) ∧
    (∀ x, s.dev.nvm = some x →
      (ok = false → Completes (.nvmOpComplete ok) s fun d => s.dev.sameStores d ∧ d.nvm = none ∧ d.get Reg.NVM_STATUS_STATE = 3 ∧
        d.get Reg.NVM_STATUS_RESULT = 5 ∧ d.raw 118 = true) ∧
      (ok = true → x.op = 1 → Completes (.nvmOpComplete ok) s fun d => d.nvm = none ∧ d.get Reg.NVM_STATUS_STATE = 2 ∧ d.sram = s.dev.sram ∧
        d.flash = (s.dev.putFlash x.addr (List.replicate 65536 0xFF#8)).flash ∧ d.raw 117 = true) ∧
      (ok = true → x.op = 2 → Completes (.nvmOpComplete ok) s fun d => d.nvm = none ∧ d.get Reg.NVM_STATUS_STATE = 2 ∧ d.sram = s.dev.sram ∧
        d.flash = (s.dev.putFlash x.addr (s.dev.sramBytes s.dev.hostWin x.src x.len)).flash ∧ d.raw 117 = true) ∧
      (ok = true → x.op = 3 → Completes (.nvmOpComplete ok) s fun d => d.nvm = none ∧ d.get Reg.NVM_STATUS_STATE = 2 ∧ d.flash = s.dev.flash ∧
        d.sram = (s.dev.writeRun 14 s.dev.hostWin x.src (s.dev.flashBytes x.addr x.len)).sram ∧
        (s.dev.mem.poison = [] → d.sram = (s.dev.putSram s.dev.hostWin x.src (s.dev.flashBytes x.addr x.len)).sram) ∧ d.raw 117 = true) ∧
      (ok = true → x.op = 4 ∨ x.op = 5 → ∀ b good, b = decide (x.copy = 1) → good = s.dev.copyOk b →
        Completes (.nvmOpComplete ok) s fun d => d.nvm = none ∧ s.dev.sameStores d ∧
          (if b then d.get Reg.NVM_STATUS_VALIDB else d.get Reg.NVM_STATUS_VALIDA) = flag good ∧
          d.get Reg.NVM_STATUS_STATE = (if good then 2 else 3) ∧ d.get Reg.NVM_STATUS_RESULT = (if good then 0 else 6) ∧
          d.get Reg.SYS_TAB_ACTIVE = (if x.op = 5 ∧ good = true then flag b else s.dev.get Reg.SYS_TAB_ACTIVE))))

/-! ### The host ports -/

/-- REGISTER_WRITE, SPI_WRITE, SPI_READ, SPI_STATUS (R8 to R10, R564, R566, R578): an access that is narrow, unaligned or names no
register fails with no effect; a configuration field outside a transaction is refused with code 11, and by another agent than the
owner with 9; the owner's write goes to the shadows; a plain register stores its RW fields, clears its W1C fields and keeps the
others. An SPI word is such an access, and the status tells whether the last one failed. -/
def Obligations.registerAccessesAnswer : Prop :=
  (∀ (s : State) (g : Fin 11) (a v : BitVec 32) (env : HostEnv), s.serves →
    (Completes (.registerWrite g a v true env) s fun d => Dev.OnlyRegs [] s.dev d ∧ d.emitted = [.answer 1 0 []]) ∧
    ((a.toNat % 4 ≠ 0 ∨ inAperture a.toNat = false ∧ regAt a.toNat = none) → Completes (.registerWrite g a v false env) s fun d =>
      d.emitted = [.answer 1 0 []] ∧ Dev.OnlyRegs [] s.dev d) ∧
    (∀ r fs, a.toNat % 4 = 0 → inAperture a.toNat = false → regAt a.toNat = some r → fs = r.fields.filter (txnField a.toNat) → fs ≠ [] →
      (s.dev.txn = none → Completes (.registerWrite g a v false env) s fun d =>
        Dev.OnlyRegs [Reg.SYS_REFUSE_CODE.key, Reg.SYS_REFUSE_ADDR.key] s.dev d ∧ d.get Reg.SYS_REFUSE_CODE = 11 ∧
        d.get Reg.SYS_REFUSE_ADDR = a.toNat % 2 ^ 24 ∧ d.emitted = [.answer 1 11 []]) ∧
      (∀ t, s.dev.txn = some t → s.dev.txnExpired t = false →
        (t.agent ≠ g.val → Completes (.registerWrite g a v false env) s fun d =>
          Dev.OnlyRegs [Reg.SYS_REFUSE_CODE.key, Reg.SYS_REFUSE_ADDR.key] s.dev d ∧ d.get Reg.SYS_REFUSE_CODE = 9 ∧
          d.emitted = [.answer 2 9 []]) ∧
        (t.agent = g.val → (fs.map (·.lo)).Nodup → Completes (.registerWrite g a v false env) s fun d =>
          Dev.OnlyRegs [Reg.SYS_REFUSE_CODE.key] { s.dev with txn := d.txn } d ∧ d.emitted = [.answer 0 0 []] ∧
          ∀ f ∈ fs, d.shadowRead g.val (32 * a.toNat + f.lo) = some (v.toNat / 2 ^ f.lo % 2 ^ f.width)))) ∧
    (∀ r, a.toNat % 4 = 0 → inAperture a.toNat = false → regAt a.toNat = some r → r.fields.filter (txnField a.toNat) = [] →
      s.dev.special g.val a.toNat v.toNat env = none → s.dev.plainRange a.toNat v.toNat = false →
      indexAt (Reg.PGH_STAGE_DATA 0).addr 4 64 a.toNat = none → indexAt (Reg.HST_EPOCH_EPOCH 0).addr 4 3 a.toNat = none →
      a.toNat ≠ Reg.TAL_RECSEL_SEQ.addr → (r.fields.map (·.lo)).Nodup →
      Completes (.registerWrite g a v false env) s fun d =>
        Dev.OnlyRegs (Reg.SYS_REFUSE_CODE.key :: r.fields.map fun f => 32 * a.toNat + f.lo) s.dev d ∧ d.emitted = [.answer 0 0 []] ∧
        ∀ f ∈ r.fields, ∀ k n, k = 32 * a.toNat + f.lo → n = v.toNat / 2 ^ f.lo % 2 ^ f.width → k ∉ Reg.SYS_REFUSE_CODE.key :: summaryKeys →
          ((f.acc = .rw ∨ f.acc = .rwl) → fixedField a.toNat f.lo = false → tget 0 d.regs k = n) ∧
          (f.acc = .w1c → fixedField a.toNat f.lo = false → tget 0 d.regs k % 2 ^ f.width = (tget 0 s.dev.regs k - (tget 0 s.dev.regs k &&& n)) % 2 ^ f.width) ∧
          ((f.acc = .ro ∨ f.acc = .wo ∨ fixedField a.toNat f.lo = true) → tget 0 d.regs k = tget 0 s.dev.regs k))) ∧
  (∀ (s : State) (a : BitVec 32) (words : List (BitVec 32)) (n : Nat) (whole : Bool) (env : HostEnv), s.serves → s.dev.spiOn = false →
    (Completes (.spiWrite a words whole env) s fun d => Dev.OnlyRegs [] s.dev d ∧ d.emitted = []) ∧
    (Completes (.spiRead a n whole env) s fun d => Dev.OnlyRegs [] s.dev d ∧ d.emitted = []) ∧
    (Completes .spiStatus s fun d => Dev.OnlyRegs [] s.dev d ∧ d.emitted = [])) ∧
  (∀ (s : State) (a v : BitVec 32) (env : HostEnv), s.serves → s.dev.spiOn = true →
    (Completes .spiStatus s fun d => Dev.OnlyRegs [] s.dev d ∧ d.emitted = [.spi [flag s.dev.spiFail]]) ∧
    (∀ words, Completes (.spiWrite a words false env) s fun d => d.raw 110 = true ∧ d.spiFail = true) ∧
    (∀ n, Completes (.spiRead a n false env) s fun d => d.raw 110 = true ∧ d.spiFail = true) ∧
    (∀ x st code, s.dev.begin.writeWord 2 a.toNat v.toNat env = (x, st, code) → Completes (.spiWrite a [v] true env) s fun d =>
      d.spiFail = decide (st ≠ 0) ∧ d.txn = x.txn ∧ d.sram = x.sram ∧ d.flash = x.flash ∧ d.mode = x.mode) ∧
    (∀ x r, s.dev.begin.readWord 2 a.toNat env = (x, r) → Completes (.spiRead a 1 true env) s fun d =>
      d.spiFail = r.isNone ∧ (∀ w, r = some w → .spi [w] ∈ d.emitted) ∧
      (r = none → inAperture a.toNat = true → .spi [0] ∈ d.emitted)))

/-- HOST_READ, HOST_WRITE, HOST_POST, HOST_PGHGET, HOST_NOTIFY, HOST_REQUEST_DENIED, ARP_REQUEST, ICMP_ECHO_REQUEST,
ETHERNET_LINK_CHANGE (R573 to R577, R619): a port that is down answers nothing; a source that HST_ALLOW does not name is counted;
a repeated request gets the kept reply again and has no second effect; a request that runs answers with its status, count and
data, which are kept. -/
def Obligations.hostPortsAnswer : Prop :=
  (∀ (s : State) (p : Fin 2) (h : UdpHead) (n : BitVec 16) (a : BitVec 32) (bytes : List Byte) (env : HostEnv),
    s.serves →
    (s.dev.ethUp p.val = false →
      (Completes (.hostRead p h n a env) s fun d => Dev.OnlyRegs [] s.dev d ∧ d.emitted = []) ∧
      (Completes (.hostWrite p h n a bytes env) s fun d => Dev.OnlyRegs [] s.dev d ∧ d.emitted = []) ∧
      (Completes (.hostPost p h a bytes) s fun d => Dev.OnlyRegs [] s.dev d ∧ d.emitted = []) ∧
      (Completes (.hostPghget p h a) s fun d => Dev.OnlyRegs [] s.dev d ∧ d.emitted = [])) ∧
    (s.dev.ethUp p.val = true → s.dev.allowed h.src.toNat = true →
      (∀ k, s.dev.keptFor p.val h = some k →
        (Completes (.hostRead p h n a env) s fun d =>
          Dev.OnlyRegs [] s.dev d ∧ d.emitted = [.udp p.val k.bytes]) ∧
        (Completes (.hostWrite p h n a bytes env) s fun d =>
          Dev.OnlyRegs [] s.dev d ∧ d.emitted = [.udp p.val k.bytes]) ∧
        (Completes (.hostPost p h a bytes) s fun d =>
          Dev.OnlyRegs [] s.dev d ∧ d.emitted = [.udp p.val k.bytes]) ∧
        (Completes (.hostPghget p h a) s fun d =>
          Dev.OnlyRegs [] s.dev d ∧ d.emitted = [.udp p.val k.bytes])) ∧
      (s.dev.keptFor p.val h = none → 8 < h.busy →
        Completes (.hostRead p h n a env) s fun d =>
          Dev.OnlyRegs [] s.dev d ∧ d.emitted = [.udp p.val (d.replyBytes p.val 1 h.tag.toNat { status := 5, count := 0, data := [] })]) ∧
      (s.dev.keptFor p.val h = none → h.busy ≤ 8 → n.toNat = 0 → Completes (.hostRead p h n a env) s fun d =>
        d.get (Reg.HST_STAT_FORMAT p.val) = min (s.dev.get (Reg.HST_STAT_FORMAT p.val) + 1) 255 ∧
        .udp p.val (d.replyBytes p.val 1 h.tag.toNat { status := 3, count := 0, data := [] }) ∈ d.emitted) ∧
      (s.dev.keptFor p.val h = none → h.busy ≤ 8 → (n.toNat = 0 ∨ 256 < n.toNat ∨ bytes.length ≠ 4 * n.toNat) →
        Completes (.hostWrite p h n a bytes env) s fun d =>
          d.get (Reg.HST_STAT_FORMAT p.val) = min (s.dev.get (Reg.HST_STAT_FORMAT p.val) + 1) 255 ∧
          .udp p.val (d.replyBytes p.val 2 h.tag.toNat { status := 3, count := 0, data := [] }) ∈ d.emitted) ∧
      (s.dev.keptFor p.val h = none → h.busy ≤ 8 → s.dev.epochNow p.val 0 = h.epoch.toNat →
        (1 ≤ n.toNat → n.toNat ≤ 256 → a.toNat ≠ Reg.TXN_BEGIN_HANDLE.addr →
          ∀ x r, Dev.readWords env p.val n.toNat a.toNat s.dev.begin [] = (x, r) → Completes (.hostRead p h n a env) s fun d =>
            .udp p.val (d.replyBytes p.val 1 h.tag.toNat r) ∈ d.emitted ∧
            ∃ k, d.keptFor p.val h = some k ∧ k.bytes = d.replyBytes p.val 1 h.tag.toNat r) ∧
        (1 ≤ n.toNat → n.toNat ≤ 256 → bytes.length = 4 * n.toNat →
          ∀ x r, Dev.writeWords env p.val (dataWords bytes) a.toNat s.dev.begin 0 = (x, r) → Completes (.hostWrite p h n a bytes env) s fun d =>
            .udp p.val (d.replyBytes p.val 2 h.tag.toNat r) ∈ d.emitted ∧ d.sram = x.sram ∧ d.flash = x.flash ∧ d.txn = x.txn ∧
            ∃ k ∈ d.kept, k.port = p.val ∧ k.src = h.src.toNat ∧ k.udp = h.udp.toNat ∧ k.tag = h.tag.toNat ∧
              k.bytes = d.replyBytes p.val 2 h.tag.toNat r) ∧
        (bytes.length ≤ 1024 → 32 ≤ a.toNat → Completes (.hostPost p h a bytes) s fun d =>
          Dev.OnlyRegs [] { s.dev with kept := d.kept } d ∧ d.emitted = [.udp p.val (d.replyBytes p.val 3 h.tag.toNat { status := 1, count := 0, data := [] })]) ∧
        (bytes.length ≤ 256 → a.toNat < 32 → s.dev.get (Reg.PGH_STAT_STATE a.toNat) = 0 → Completes (.hostPost p h a bytes) s fun d =>
          .udp p.val (d.replyBytes p.val 3 h.tag.toNat { status := 0, count := 1, data := [0] }) ∈ d.emitted ∧ d.get (Reg.PGH_STAT_STATE a.toNat) = 1 ∧
          d.get (Reg.PGH_STAT_SNDAGENT a.toNat) = p.val ∧ d.get (Reg.PGH_STAT_LEN a.toNat) = bytes.length) ∧
        (bytes.length ≤ 256 → a.toNat < 32 → s.dev.get (Reg.PGH_STAT_STATE a.toNat) ≠ 0 → Completes (.hostPost p h a bytes) s fun d =>
          d.emitted = [.udp p.val (d.replyBytes p.val 3 h.tag.toNat { status := 0, count := 1, data := [1] })] ∧ d.get (Reg.PGH_STAT_STATE a.toNat) = s.dev.get (Reg.PGH_STAT_STATE a.toNat)) ∧
        (a.toNat < 32 → Completes (.hostPghget p h a) s fun d =>
          Dev.OnlyRegs [] { s.dev with kept := d.kept } d ∧
          ∃ ws : List Nat, d.emitted = [.udp p.val (d.replyBytes p.val 4 h.tag.toNat { status := 0, count := ws.length, data := ws })] ∧
            ws.length = 3 + (s.dev.get (Reg.PGH_STAT_LEN a.toNat) + 3) / 4 ∧ ws.getD 0 0 = s.dev.word (Reg.PGH_STAT_LEN a.toNat).addr ∧
            ∀ i < (s.dev.get (Reg.PGH_STAT_LEN a.toNat) + 3) / 4, ws.getD (3 + i) 0 = s.dev.get (Reg.PGH_DATA_DATA a.toNat i))))) ∧
  (∀ (s : State) (p : Fin 2) (h : UdpHead) (magic : BitVec 16) (version op : BitVec 8), s.serves → s.dev.ethUp p.val = true →
    (s.dev.allowed h.src.toNat = false → Completes (.hostRequestDenied p h magic version op) s fun d =>
      d.get (Reg.HST_STAT_DENIED p.val) = min (s.dev.get (Reg.HST_STAT_DENIED p.val) + 1) 255 ∧
      .udp p.val (d.replyBytes p.val (op.toNat % 128) h.tag.toNat { status := 4, count := 0, data := [] }) ∈ d.emitted ∧ d.kept = s.dev.kept) ∧
    (s.dev.allowed h.src.toNat = true → magic.toNat = 0x4658 → version.toNat = 1 → 1 ≤ op.toNat → op.toNat ≤ 4 →
      Completes (.hostRequestDenied p h magic version op) s fun d => Dev.OnlyRegs [] s.dev d) ∧
    (s.dev.allowed h.src.toNat = true → (magic.toNat ≠ 0x4658 ∨ version.toNat ≠ 1 ∨ op.toNat = 0 ∨ 4 < op.toNat) →
      s.dev.keptFor p.val h = none → h.busy ≤ 8 → Completes (.hostRequestDenied p h magic version op) s fun d =>
        d.get (Reg.HST_STAT_FORMAT p.val) = min (s.dev.get (Reg.HST_STAT_FORMAT p.val) + 1) 255 ∧
        .udp p.val (d.replyBytes p.val (op.toNat % 128) h.tag.toNat { status := 3, count := 0, data := [] }) ∈ d.emitted)) ∧
  (∀ (s : State) (p : Fin 2), s.serves →
    ((s.dev.ethUp p.val = false ∨ s.dev.get (Reg.HST_NOTIFY_ADDR p.val) = 0 ∨ s.dev.notifyDue.testBit p.val = false) →
      Completes (.hostNotify p) s fun d => Dev.OnlyRegs [] s.dev d ∧ d.emitted = []) ∧
    (s.dev.ethUp p.val = true → s.dev.get (Reg.HST_NOTIFY_ADDR p.val) ≠ 0 → s.dev.notifyDue.testBit p.val = true →
      (∀ t, tget none s.dev.lastNotify p.val = some t → t + 10000000 ≤ s.dev.now) → Completes (.hostNotify p) s fun d =>
        d.notifyDue.testBit p.val = false ∧ tget none d.lastNotify p.val = some s.dev.now ∧
        d.emitted = [.udp p.val (udpBytes 5 (Config.notifyField 0) (Config.notifyField 1) (Config.notifyField 2) (Config.notifyField 3)
          (s.dev.get (Reg.HST_EPOCH_EPOCH p.val)) ((List.range 4).map fun k => s.dev.get (Reg.EVT_RAW_BITS k)))] ∧
        Dev.OnlyRegs [] { s.dev with notifyDue := d.notifyDue, lastNotify := d.lastNotify } d)) ∧
  (∀ (s : State) (p : Fin 2) (mac : List Byte) (src target : BitVec 32) (payload : List Byte), s.serves →
    ((s.dev.ethUp p.val = false ∨ target.toNat ≠ s.dev.get (Reg.HST_IP_ADDR p.val)) →
      (Completes (.arpRequest p mac src target) s fun d => Dev.OnlyRegs [] s.dev d ∧ d.emitted = []) ∧
      (Completes (.icmpEchoRequest p mac src target payload) s fun d => Dev.OnlyRegs [] s.dev d ∧ d.emitted = [])) ∧
    (s.dev.ethUp p.val = true → target.toNat = s.dev.get (Reg.HST_IP_ADDR p.val) → s.dev.allowed src.toNat = false →
      (Completes (.arpRequest p mac src target) s fun d => Dev.OnlyRegs [(Reg.HST_STAT_DENIED p.val).key] s.dev d ∧ d.emitted = []) ∧
      (Completes (.icmpEchoRequest p mac src target payload) s fun d =>
        Dev.OnlyRegs [(Reg.HST_STAT_DENIED p.val).key] s.dev d ∧ d.emitted = [])) ∧
    (s.dev.ethUp p.val = true → target.toNat = s.dev.get (Reg.HST_IP_ADDR p.val) → s.dev.allowed src.toNat = true →
      (Completes (.arpRequest p mac src target) s fun d => Dev.OnlyRegs [] s.dev d ∧
        d.emitted = [.ether p.val 0 (s.dev.mac p.val ++ beBytes 4 target.toNat ++ mac ++ beBytes 4 src.toNat)]) ∧
      (Completes (.icmpEchoRequest p mac src target payload) s fun d => Dev.OnlyRegs [] s.dev d ∧
        d.emitted = [.ether p.val 1 (mac ++ s.dev.mac p.val ++ beBytes 4 target.toNat ++ beBytes 4 src.toNat ++ payload)]))) ∧
  (∀ (s : State) (p : Fin 2) (up : Bool) (speed : Fin 2), s.serves →
    (s.dev.get (Reg.HST_STAT_LINK p.val) = flag up → (up = false ∨ s.dev.get (Reg.HST_STAT_SPEED p.val) = speed.val) →
      Completes (.ethernetLinkChange p up speed) s fun d => Dev.OnlyRegs [] s.dev d) ∧
    ((s.dev.get (Reg.HST_STAT_LINK p.val) ≠ flag up ∨ up = true ∧ s.dev.get (Reg.HST_STAT_SPEED p.val) ≠ speed.val) → Completes (.ethernetLinkChange p up speed) s fun d =>
      Dev.OnlyRegsAndEvents [(Reg.HST_STAT_LINK p.val).key, (Reg.HST_STAT_SPEED p.val).key, Reg.TB_STATUS_RUN.key] s.dev d ∧
      d.get (Reg.HST_STAT_LINK p.val) = flag up ∧ (up = true → d.get (Reg.HST_STAT_SPEED p.val) = speed.val) ∧ d.raw (108 + p.val) = true))

/-! ### Supply, auxiliary switches, CAN -/

/-- VSUP_RANGE_CHANGE, RAIL_FAULT, OUTPUT_SHORT, AUX_CURRENT_LIMIT, AUX_SHORT_TO_VSUP, AUX_AGGREGATE_LIMIT, AUX_DUTY_WRITE,
AUX_FAULT_CLEAR, LAMP_DUTY_UPDATE (R589, R593, R595, R602 to R607): the range flag follows VSUP with EV112 at each change; a rail
out of its limits is a device-wide demand, the core rail only read here; a channel's fault switches it off until the host clears
it with the condition absent, a fault of the same period prevailing; the aggregate limit spares ties and locks. -/
def Obligations.supplyAndSwitchesAct : Prop :=
  (∀ (s : State) (mv : Int) (out : Bool), beyondAbsMax mv = false → out = decide (mv < 16000 ∨ 32000 < mv) →
    (s.dev.get Reg.PWR_STATUS_RANGE = flag out → Completes (.vsupRangeChange mv) s fun d =>
      Dev.OnlyRegs [Reg.PWR_VSUP_VSUP.key, Reg.PWR_VSUP_MIN.key] s.dev d ∧ d.get Reg.PWR_VSUP_VSUP = min (mv.toNat / 10) 65535) ∧
    (s.dev.get Reg.PWR_STATUS_RANGE ≠ flag out → Completes (.vsupRangeChange mv) s fun d =>
      Dev.OnlyRegsAndEvents [Reg.PWR_VSUP_VSUP.key, Reg.PWR_VSUP_MIN.key, Reg.PWR_STATUS_RANGE.key] s.dev d ∧
      d.get Reg.PWR_STATUS_RANGE = flag out ∧ d.get Reg.PWR_VSUP_VSUP = min (mv.toNat / 10) 65535 ∧ d.raw 112 = true)) ∧
  (∀ (s : State) (mv : Nat) (out : Bool), s.dev.mode ≠ .off → Completes (.railFault 3 mv out) s fun d =>
    Dev.OnlyRegs [Reg.PWR_RAIL_VCORE.key]
      (if 470 ≤ mv then s.dev.modSaf fun x => { x with active := withBit x.active 2 false } else s.dev) d ∧
    d.get Reg.PWR_RAIL_VCORE = min (mv / 5) 255) ∧
  (∀ (s : State) (r : Fin 4) (mv : Nat), s.dev.mode ≠ .off → r.val < 3 →
    (Completes (.railFault r mv false) s fun d =>
      Dev.OnlyRegs [(railField r.val).1.key, Reg.PWR_STATUS_RAILFLT.key] s.dev d ∧ d.bit Reg.PWR_STATUS_RAILFLT r.val = false) ∧
    (s.dev.bit Reg.PWR_STATUS_RAILFLT r.val = true → Completes (.railFault r mv true) s fun d =>
      Dev.OnlyRegs [(railField r.val).1.key] s.dev d) ∧
    (s.dev.bit Reg.PWR_STATUS_RAILFLT r.val = false → Completes (.railFault r mv true) s fun d =>
      d.raw 113 = true ∧ d.bit Reg.SAF_STATUS_DEVCAUSE 2 = true ∧ d.saf.trig.testBit 2 = true)) ∧
  (∀ (s : State) (ch : Fin 48), s.runs →
    (Completes .outputShort s fun d => Dev.OnlyRegsAndEvents [] s.dev d ∧ d.raw 119 = true) ∧
    (s.dev.get (Reg.AUX_CHOUT_FAULT ch.val) ≠ 0 →
      (Completes (.auxCurrentLimit ch) s fun d =>
        Dev.OnlyRegs [] { s.dev with auxFaultAt := tput 0 s.dev.auxFaultAt ch.val (s.dev.period + 1) } d) ∧
      (Completes (.auxShortToVsup ch) s fun d => Dev.OnlyRegs [] s.dev d)) ∧
    (s.dev.get (Reg.AUX_CHOUT_FAULT ch.val) = 0 →
      (Completes (.auxCurrentLimit ch) s fun d =>
        Dev.OnlyRegsAndEvents [(Reg.AUX_CHOUT_FAULT ch.val).key, Reg.AUX_FLT_LO_BITS.key, Reg.AUX_FLT_HI_BITS.key,
          Reg.AUX_ON_LO_BITS.key, Reg.AUX_ON_HI_BITS.key]
          { s.dev with auxFaultAt := tput 0 s.dev.auxFaultAt ch.val (s.dev.period + 1) } d ∧
        d.get (Reg.AUX_CHOUT_FAULT ch.val) = 1 ∧ d.bit2 Reg.AUX_FLT_LO_BITS Reg.AUX_FLT_HI_BITS ch.val = true ∧
        d.bit2 Reg.AUX_ON_LO_BITS Reg.AUX_ON_HI_BITS ch.val = false ∧ d.raw 114 = true) ∧
      (s.dev.get (Reg.AUX_CHCFG_MODE ch.val) = 0 → s.dev.get (Reg.AUX_CHOUT_DUTY ch.val) = 0 →
        (s.dev.auxShared ch.val = false ∨ s.dev.drives = true) → Completes (.auxShortToVsup ch) s fun d =>
          Dev.OnlyRegsAndEvents [(Reg.AUX_CHOUT_FAULT ch.val).key, Reg.AUX_FLT_LO_BITS.key, Reg.AUX_FLT_HI_BITS.key,
            Reg.AUX_ON_LO_BITS.key, Reg.AUX_ON_HI_BITS.key]
            { s.dev with auxFaultAt := tput 0 s.dev.auxFaultAt ch.val (s.dev.period + 1) } d ∧
          d.get (Reg.AUX_CHOUT_FAULT ch.val) = 2 ∧ d.bit2 Reg.AUX_FLT_LO_BITS Reg.AUX_FLT_HI_BITS ch.val = true ∧ d.raw 114 = true) ∧
      ((s.dev.get (Reg.AUX_CHCFG_MODE ch.val) ≠ 0 ∨ s.dev.get (Reg.AUX_CHOUT_DUTY ch.val) ≠ 0 ∨
          (s.dev.auxShared ch.val = true ∧ s.dev.drives = false)) →
        Completes (.auxShortToVsup ch) s fun d => Dev.OnlyRegs [] s.dev d))) ∧
  (∀ (s : State) (currents : List Nat) (total : Nat), s.runs → total = (currents.take 48).foldl (· + ·) 0 →
    (total ≤ 1600 → Completes (.auxAggregateLimit currents) s fun d =>
      Dev.OnlyRegs ([Reg.AUX_TOTAL_NOW.key, Reg.AUX_TOTAL_PEAK.key] ++ (List.range 48).map fun ch => (Reg.AUX_CHOUT_CURRENT ch).key) s.dev d ∧
      d.get Reg.AUX_TOTAL_NOW = total) ∧
    (1600 < total → Completes (.auxAggregateLimit currents) s fun d =>
      d.get Reg.AUX_TOTAL_NOW = min total 65535 ∧ d.raw 115 = true ∧
      ∀ ch < 48, (s.dev.get (Reg.AUX_CHCFG_USER ch) = 1 ∨ s.dev.get (Reg.AUX_CHCFG_USER ch) = 2) →
        d.get (Reg.AUX_CHOUT_FAULT ch) = s.dev.get (Reg.AUX_CHOUT_FAULT ch))) ∧
  (∀ (s : State) (ch : Fin 48) (duty : BitVec 14), s.serves →
    (10000 < duty.toNat → Completes (.auxDutyWrite ch duty) s fun d =>
      Dev.OnlyRegs [Reg.SYS_REFUSE_CODE.key, Reg.SYS_REFUSE_ADDR.key] s.dev d ∧ d.get Reg.SYS_REFUSE_CODE = 5 ∧
      d.emitted = [.answer 2 5 []]) ∧
    (duty.toNat ≤ 10000 → (s.dev.get (Reg.AUX_CHCFG_USER ch.val) ≠ 0 ∨ s.dev.drives = false) →
      Completes (.auxDutyWrite ch duty) s fun d => Dev.OnlyRegs [Reg.SYS_REFUSE_CODE.key] s.dev d ∧ d.emitted = [.answer 0 0 []]) ∧
    (duty.toNat ≤ 10000 → s.dev.get (Reg.AUX_CHCFG_USER ch.val) = 0 → s.dev.drives = true →
      Completes (.auxDutyWrite ch duty) s fun d =>
        Dev.OnlyRegs [Reg.SYS_REFUSE_CODE.key] { s.dev with auxNext := tput none s.dev.auxNext ch.val (some duty.toNat) } d ∧
        d.emitted = (if s.dev.duplex then [.twin 5 [ch.val, duty.toNat]] else []) ++ [.answer 0 0 []])) ∧
  (∀ (s : State) (ch : Fin 48), s.serves →
    (Completes (.auxFaultClear ch false) s fun d => Dev.OnlyRegs [Reg.SYS_REFUSE_CODE.key] s.dev d) ∧
    (tget 0 s.dev.auxFaultAt ch.val = s.dev.period + 1 → Completes (.auxFaultClear ch true) s fun d =>
      Dev.OnlyRegs [Reg.SYS_REFUSE_CODE.key] s.dev d) ∧
    (tget 0 s.dev.auxFaultAt ch.val ≠ s.dev.period + 1 → Completes (.auxFaultClear ch true) s fun d =>
      Dev.OnlyRegs [Reg.SYS_REFUSE_CODE.key, (Reg.AUX_CHOUT_FAULT ch.val).key, Reg.AUX_FLT_LO_BITS.key, Reg.AUX_FLT_HI_BITS.key,
        Reg.AUX_ON_LO_BITS.key, Reg.AUX_ON_HI_BITS.key] s.dev d ∧
      d.get (Reg.AUX_CHOUT_FAULT ch.val) = 0 ∧ d.bit2 Reg.AUX_FLT_LO_BITS Reg.AUX_FLT_HI_BITS ch.val = false ∧
      ((s.dev.auxShared ch.val = false ∨ s.dev.drives = true) → d.bit2 Reg.AUX_ON_LO_BITS Reg.AUX_ON_HI_BITS ch.val =
        decide (s.dev.get (Reg.AUX_CHOUT_DUTY ch.val) ≠ 0)))) ∧
  (∀ (s : State) (v : Nat), s.runs →
    Completes (.lampDutyUpdate v) s fun d =>
      Dev.OnlyRegs [Reg.PWR_VSUP_VSUP.key, Reg.PWR_VSUP_MIN.key] { s.dev with auxApplied := d.auxApplied } d ∧
      ∀ ch < 48, tget 0 d.auxApplied ch = if s.dev.get (Reg.AUX_CHCFG_MODE ch) = 2
        then lampDuty (s.dev.get (Reg.AUX_CHOUT_DUTY ch)) (s.dev.get Reg.AUX_CFG_VNOM) v else 0)

/-- CAN_FRAME_RECEIVED, CAN_FRAME_SENT, CAN_TXCMD_SEND, CAN_RXSTAT_POP, CAN_BUS_OFF, CAN_BUS_OFF_RECOVERY, CAN_ERROR_PASSIVE (R614
to R618): a frame that a filter takes is stamped and queued, at most 64; the port sends the pending frame of lowest identifier; a
port in bus-off neither receives nor sends until it recovers. The limits of error passive and the counters after recovery are the
model's (log 26, PRESUMED: ISO 11898-1). -/
def Obligations.canPortsQueueAndSend : Prop :=
  (∀ (s : State) (k : Fin 4) (f : CanFrame), s.hears →
    ((2 ≤ s.dev.get (Reg.CAN_PSTAT_STATE k.val) ∨ s.dev.get (Reg.CAN_CFG_EN k.val) = 0) →
      Completes (.canFrameReceived k f) s fun d => Dev.OnlyRegs [] s.dev d) ∧
    (s.dev.get (Reg.CAN_PSTAT_STATE k.val) < 2 → s.dev.get (Reg.CAN_CFG_EN k.val) ≠ 0 →
      (f.rtr = true ∨ s.dev.tab.ties = [] ∧ s.dev.tab.conns = [] ∧ s.dev.tab.canMap = []) →
      (s.dev.filterHit k.val f = false → Completes (.canFrameReceived k f) s fun d =>
        Dev.OnlyRegs [Reg.TB_STATUS_RUN.key] s.dev d) ∧
      (s.dev.filterHit k.val f = true → (s.dev.canPort k.val).fifo.length < 64 → Completes (.canFrameReceived k f) s fun d =>
        (d.canPort k.val).fifo = (s.dev.canPort k.val).fifo ++ [{ f with stamp := s.dev.time / 1000 % 2 ^ 32 }] ∧
        d.get (Reg.CAN_RXSTAT_COUNT k.val) = (s.dev.canPort k.val).fifo.length + 1 ∧
        (∀ j, j ≠ k.val → d.canPort j = s.dev.canPort j) ∧
        Dev.OnlyRegs ([Reg.TB_STATUS_RUN.key, (Reg.CAN_RXSTAT_COUNT k.val).key] ++
          (List.range 19).map fun w => (Reg.CAN_RXDATA_DATA k.val w).key) (s.dev.modCan k.val fun c => { c with fifo := (d.canPort k.val).fifo }) d) ∧
      (s.dev.filterHit k.val f = true → 64 ≤ (s.dev.canPort k.val).fifo.length → Completes (.canFrameReceived k f) s fun d =>
        Dev.OnlyRegsAndEvents [Reg.TB_STATUS_RUN.key, (Reg.CAN_RXSTAT_OVF k.val).key, (Reg.CAN_PSTAT_EVCAUSE k.val).key] s.dev d ∧
        d.get (Reg.CAN_RXSTAT_OVF k.val) = min (s.dev.get (Reg.CAN_RXSTAT_OVF k.val) + 1) 255 ∧
        d.bit (Reg.CAN_PSTAT_EVCAUSE k.val) 2 = true ∧ d.raw (104 + k.val) = true))) ∧
  (∀ (s : State) (k : Fin 4) (ok : Bool), s.runs →
    ((s.dev.canMaySend k.val = false ∨ (s.dev.canPort k.val).offer = none) →
      Completes (.canFrameSent k ok) s fun d => Dev.OnlyRegs [] s.dev d ∧ d.emitted = []) ∧
    (∀ host f, s.dev.canMaySend k.val = true → (s.dev.canPort k.val).offer = some (host, f) →
      (Completes (.canFrameSent k true) s fun d =>
        d.emitted = [.can k.val { f with stamp := s.dev.time / 1000 % 2 ^ 32 }] ∧
        (host = true → (d.canPort k.val).host = none ∧ d.get (Reg.CAN_TXCMD_STATE k.val) = 2 ∧
          d.get (Reg.CAN_TXDATA_DATA k.val 2) = s.dev.time / 1000 % 2 ^ 32) ∧
        (host = false → (d.canPort k.val).host = (s.dev.canPort k.val).host ∧ ∀ x ∈ (d.canPort k.val).own, x.rank ≠ f.rank)) ∧
      (Completes (.canFrameSent k false) s fun d =>
        d.get (Reg.CAN_PSTAT_DROPPED k.val) = min (s.dev.get (Reg.CAN_PSTAT_DROPPED k.val) + 1) 15 ∧
        (host = true → (d.canPort k.val).host = none ∧ d.get (Reg.CAN_TXCMD_STATE k.val) = 3) ∧
        d.bit (Reg.CAN_PSTAT_EVCAUSE k.val) 3 = true ∧ d.raw (104 + k.val) = true))) ∧
  (∀ (s : State) (k : Fin 4), s.serves →
    (s.dev.get (Reg.CAN_TXCMD_STATE k.val) = 1 → Completes (.canTxcmdSend k) s fun d =>
      Dev.OnlyRegs [Reg.SYS_REFUSE_CODE.key, Reg.SYS_REFUSE_ADDR.key] s.dev d ∧ d.emitted = [.answer 2 1 []]) ∧
    (s.dev.get (Reg.CAN_TXCMD_STATE k.val) ≠ 1 → Completes (.canTxcmdSend k) s fun d =>
      d.get (Reg.CAN_TXCMD_STATE k.val) = 1 ∧ d.emitted = [.answer 0 0 []] ∧
      (d.canPort k.val).host = some (CanFrame.ofWords ((List.range 19).map fun w => s.dev.get (Reg.CAN_TXDATA_DATA k.val w))) ∧
      Dev.OnlyRegs [Reg.SYS_REFUSE_CODE.key, (Reg.CAN_TXCMD_STATE k.val).key]
        (s.dev.modCan k.val fun c => { c with host := (d.canPort k.val).host }) d) ∧
    (Completes (.canRxstatPop k) s fun d =>
      (d.canPort k.val).fifo = (s.dev.canPort k.val).fifo.drop 1 ∧ d.emitted = [.answer 0 0 []] ∧
      d.get (Reg.CAN_RXSTAT_COUNT k.val) = ((s.dev.canPort k.val).fifo.length - 1) % 128 ∧
      (∀ g, (s.dev.canPort k.val).fifo.drop 1 = g → ∀ w < 19, d.get (Reg.CAN_RXDATA_DATA k.val w) =
        match g with
        | x :: _ => x.words.getD w 0 % 2 ^ 32
        | [] => 0))) ∧
  (∀ (s : State) (k : Fin 4) (tec rec : Nat), s.runs →
    (2 ≤ s.dev.get (Reg.CAN_PSTAT_STATE k.val) →
      (Completes (.canBusOff k) s fun d => Dev.OnlyRegs [] s.dev d) ∧
      (Completes (.canErrorPassive k tec rec) s fun d => Dev.OnlyRegs [] s.dev d)) ∧
    (s.dev.get (Reg.CAN_PSTAT_STATE k.val) < 2 →
      (Completes (.canBusOff k) s fun d =>
        Dev.OnlyRegsAndEvents [(Reg.CAN_PSTAT_STATE k.val).key, (Reg.CAN_PSTAT_TEC k.val).key, (Reg.CAN_PSTAT_EVCAUSE k.val).key] s.dev d ∧
        d.get (Reg.CAN_PSTAT_STATE k.val) = 2 ∧ d.bit (Reg.CAN_PSTAT_EVCAUSE k.val) 0 = true ∧ d.raw (104 + k.val) = true) ∧
      (Completes (.canErrorPassive k tec rec) s fun d =>
        d.get (Reg.CAN_PSTAT_STATE k.val) = (if 127 < tec ∨ 127 < rec then 1 else 0) ∧
        d.get (Reg.CAN_PSTAT_TEC k.val) = min tec 255 ∧ d.get (Reg.CAN_PSTAT_REC k.val) = min rec 255 ∧
        (s.dev.get (Reg.CAN_PSTAT_STATE k.val) = 0 → 127 < tec ∨ 127 < rec → d.bit (Reg.CAN_PSTAT_EVCAUSE k.val) 1 = true ∧ d.raw (104 + k.val) = true))) ∧
    (s.dev.get (Reg.CAN_PSTAT_STATE k.val) ≠ 2 → Completes (.canBusOffRecovery k) s fun d => Dev.OnlyRegs [] s.dev d) ∧
    (s.dev.get (Reg.CAN_PSTAT_STATE k.val) = 2 → Completes (.canBusOffRecovery k) s fun d =>
      Dev.OnlyRegs [(Reg.CAN_PSTAT_STATE k.val).key, (Reg.CAN_PSTAT_TEC k.val).key, (Reg.CAN_PSTAT_REC k.val).key] s.dev d ∧
      d.get (Reg.CAN_PSTAT_STATE k.val) = 0 ∧ d.get (Reg.CAN_PSTAT_TEC k.val) = 0 ∧ d.get (Reg.CAN_PSTAT_REC k.val) = 0))
end

