-- ==== Sys2Proof/Laws/Cells.lean ====
section
/-! SUPPORT. The laws of sparse tables: a read after a write, and the canonical form every write keeps. -/

namespace Sys2Proof.Laws

open Sys2Proof.Machine

variable {α : Type}

@[simp] theorem tget_nil (d : α) (k : Nat) : tget d [] k = d := rfl

theorem tget_tdrop_same (d : α) (m : List (Nat × α)) (k : Nat) : tget d (tdrop m k) k = d := by
  induction m with
  | nil => rfl
  | cons e rest ih =>
    obtain ⟨k', v⟩ := e
    by_cases h : k' = k <;> simp [tdrop, tget, h, ih]

theorem tget_tdrop_other (d : α) (m : List (Nat × α)) {k j : Nat} (h : j ≠ k) :
    tget d (tdrop m k) j = tget d m j := by
  induction m with
  | nil => rfl
  | cons e rest ih =>
    obtain ⟨k', v⟩ := e
    by_cases hk : k' = k
    · have : k' ≠ j := by omega
      simp [tdrop, tget, hk, ih]
      intro hkj; omega
    · by_cases hj : k' = j <;> simp [tdrop, tget, hk, hj, ih]
      simp [← hj, hk, tget]

theorem tget_tinsert_same (d : α) (m : List (Nat × α)) (k : Nat) (v : α) (h : tget d m k = d)
    (hk : ∀ e ∈ m, e.1 ≠ k) : tget d (tinsert m k v) k = v := by
  induction m with
  | nil => simp [tinsert, tget]
  | cons e rest ih =>
    obtain ⟨k', v'⟩ := e
    have hne : k' ≠ k := hk (k', v') (by simp)
    by_cases hlt : k < k'
    · simp [tinsert, hlt, tget]
    · simp only [tinsert, hlt, if_false, tget, hne]
      exact ih (by simpa [tget, hne] using h) (fun e he => hk e (by simp [he]))

theorem tdrop_no_key (m : List (Nat × α)) (k : Nat) : ∀ e ∈ tdrop m k, e.1 ≠ k := by
  induction m with
  | nil => simp [tdrop]
  | cons e rest ih =>
    obtain ⟨k', v⟩ := e
    by_cases h : k' = k
    · simpa [tdrop, h] using ih
    · intro e he
      simp only [tdrop, h, if_false, List.mem_cons] at he
      rcases he with rfl | he
      · exact h
      · exact ih e he

theorem tget_tinsert_other (d : α) (m : List (Nat × α)) {k j : Nat} (v : α) (h : j ≠ k) :
    tget d (tinsert m k v) j = tget d m j := by
  induction m with
  | nil => simp [tinsert, tget, Ne.symm h]
  | cons e rest ih =>
    obtain ⟨k', v'⟩ := e
    by_cases hlt : k < k'
    · simp [tinsert, hlt, tget, Ne.symm h]
    · by_cases hj : k' = j
      · subst hj; simp [tinsert, hlt, tget]
      · simp [tinsert, hlt, tget, hj, ih]

/-- A read after a write to the same key gives the value written. -/
@[simp] theorem tget_tput_same [DecidableEq α] (d : α) (m : List (Nat × α)) (k : Nat) (v : α) :
    tget d (tput d m k v) k = v := by
  unfold tput
  split
  · next h => rw [tget_tdrop_same, h]
  · exact tget_tinsert_same d _ k v (tget_tdrop_same d m k) (tdrop_no_key m k)

/-- A write leaves every other key alone. -/
theorem tget_tput_other [DecidableEq α] (d : α) (m : List (Nat × α)) {k j : Nat} (v : α) (h : j ≠ k) :
    tget d (tput d m k v) j = tget d m j := by
  unfold tput
  split
  · exact tget_tdrop_other d m h
  · rw [tget_tinsert_other d _ v h, tget_tdrop_other d m h]

theorem tget_tput [DecidableEq α] (d : α) (m : List (Nat × α)) (k j : Nat) (v : α) :
    tget d (tput d m k v) j = if j = k then v else tget d m j := by
  by_cases h : j = k
  · simp [h]
  · simp [h, tget_tput_other d m v h]

theorem all_tdrop {m : List (Nat × α)} {k : Nat} {p : Nat × α → Bool} (h : m.all p = true) :
    (tdrop m k).all p = true := by
  induction m with
  | nil => rfl
  | cons e rest ih =>
    obtain ⟨k', v⟩ := e
    simp only [List.all_cons, Bool.and_eq_true] at h
    by_cases hk : k' = k
    · simpa [tdrop, hk] using ih h.2
    · simp only [tdrop, hk, if_false, List.all_cons, Bool.and_eq_true]
      exact ⟨h.1, ih h.2⟩

theorem tableWf_tdrop [DecidableEq α] (d : α) {m : List (Nat × α)} (k : Nat) (h : tableWf d m = true) :
    tableWf d (tdrop m k) = true := by
  induction m with
  | nil => rfl
  | cons e rest ih =>
    obtain ⟨k', v⟩ := e
    simp only [tableWf, Bool.and_eq_true] at h
    by_cases hk : k' = k
    · simpa [tdrop, hk] using ih h.2
    · simp only [tdrop, hk, if_false, tableWf, Bool.and_eq_true]
      exact ⟨⟨h.1.1, all_tdrop h.1.2⟩, ih h.2⟩

theorem all_tinsert {m : List (Nat × α)} {k : Nat} {v : α} {p : Nat × α → Bool} (h : m.all p = true)
    (hp : p (k, v) = true) : (tinsert m k v).all p = true := by
  induction m with
  | nil => simpa [tinsert] using hp
  | cons e rest ih =>
    obtain ⟨k', v'⟩ := e
    simp only [List.all_cons, Bool.and_eq_true] at h
    by_cases hk : k < k'
    · simp only [tinsert, hk, if_true, List.all_cons, Bool.and_eq_true]
      exact ⟨hp, h.1, h.2⟩
    · simp only [tinsert, hk, if_false, List.all_cons, Bool.and_eq_true]
      exact ⟨h.1, ih h.2⟩

theorem tableWf_tinsert [DecidableEq α] (d : α) {m : List (Nat × α)} (k : Nat) (v : α) (h : tableWf d m = true)
    (hv : v ≠ d) (hk : ∀ e ∈ m, e.1 ≠ k) : tableWf d (tinsert m k v) = true := by
  induction m with
  | nil => simp [tinsert, tableWf, hv]
  | cons e rest ih =>
    obtain ⟨k', v'⟩ := e
    have hw := h
    simp only [tableWf, Bool.and_eq_true] at h
    by_cases hlt : k < k'
    · simp only [tinsert, hlt, if_true]
      unfold tableWf
      rw [hw]
      simp only [bne_iff_ne, ne_eq, hv, not_false_eq_true, List.all_cons, Bool.and_eq_true, decide_eq_true_eq,
        true_and, and_true]
      refine ⟨hlt, ?_⟩
      rw [List.all_eq_true]
      intro e he
      have := List.all_eq_true.1 h.1.2 e he
      simp only [decide_eq_true_eq] at this ⊢
      omega
    · have hne : k' ≠ k := hk (k', v') (by simp)
      simp only [tinsert, hlt, if_false, tableWf, Bool.and_eq_true]
      exact ⟨⟨h.1.1, all_tinsert h.1.2 (by simp; omega)⟩, ih h.2 (fun e he => hk e (by simp [he]))⟩

/-- Every write keeps the canonical form. -/
theorem tableWf_tput [DecidableEq α] (d : α) {m : List (Nat × α)} (k : Nat) (v : α) (h : tableWf d m = true) :
    tableWf d (tput d m k v) = true := by
  unfold tput
  split
  · exact tableWf_tdrop d k h
  · next hv => exact tableWf_tinsert d k v (tableWf_tdrop d k h) hv (tdrop_no_key m k)

/-- Two tables in canonical form that read the same everywhere are the same list. -/
theorem tableWf_first [DecidableEq α] (d : α) {k : Nat} {v : α} {rest : List (Nat × α)}
    (h : tableWf d ((k, v) :: rest) = true) : v ≠ d ∧ (∀ e ∈ rest, k < e.1) ∧ tableWf d rest = true := by
  simp only [tableWf, Bool.and_eq_true, bne_iff_ne, List.all_eq_true, decide_eq_true_eq] at h
  exact ⟨h.1.1, h.1.2, h.2⟩

end Sys2Proof.Laws
end

