-- ==== Sys2Proof/Laws/State.lean ====
section
/-! SUPPORT. What each named update of the device leaves alone, field by field. -/

namespace Sys2Proof.Laws

open Sys2Proof.Machine

variable (d : Dev)

@[simp] theorem set_sram (f : Fld) (v : Nat) : (d.set f v).sram = d.sram := rfl
@[simp] theorem set_flash (f : Fld) (v : Nat) : (d.set f v).flash = d.flash := rfl
@[simp] theorem set_running (f : Fld) (v : Nat) : (d.set f v).running = d.running := rfl
@[simp] theorem set_sealed (f : Fld) (v : Nat) : (d.set f v).sealed = d.sealed := rfl
@[simp] theorem set_now (f : Fld) (v : Nat) : (d.set f v).now = d.now := rfl
@[simp] theorem set_freeCtr (f : Fld) (v : Nat) : (d.set f v).freeCtr = d.freeCtr := rfl
@[simp] theorem set_emitted (f : Fld) (v : Nat) : (d.set f v).emitted = d.emitted := rfl
@[simp] theorem set_hiLatch (f : Fld) (v : Nat) : (d.set f v).hiLatch = d.hiLatch := rfl
@[simp] theorem set_bootsel (f : Fld) (v : Nat) : (d.set f v).bootsel = d.bootsel := rfl
@[simp] theorem set_testN (f : Fld) (v : Nat) : (d.set f v).testN = d.testN := rfl
@[simp] theorem set_resetLow (f : Fld) (v : Nat) : (d.set f v).resetLow = d.resetLow := rfl
@[simp] theorem set_internalCold (f : Fld) (v : Nat) : (d.set f v).internalCold = d.internalCold := rfl
@[simp] theorem set_warming (f : Fld) (v : Nat) : (d.set f v).warming = d.warming := rfl
@[simp] theorem set_safeFrom (f : Fld) (v : Nat) : (d.set f v).safeFrom = d.safeFrom := rfl
@[simp] theorem set_identDone (f : Fld) (v : Nat) : (d.set f v).identDone = d.identDone := rfl
@[simp] theorem set_recoveryDwell (f : Fld) (v : Nat) : (d.set f v).recoveryDwell = d.recoveryDwell := rfl
@[simp] theorem set_coldHold (f : Fld) (v : Nat) : (d.set f v).coldHold = d.coldHold := rfl
@[simp] theorem set_islandWanted (f : Fld) (v : Nat) : (d.set f v).islandWanted = d.islandWanted := rfl
@[simp] theorem set_txn (f : Fld) (v : Nat) : (d.set f v).txn = d.txn := rfl
@[simp] theorem set_nextHandle (f : Fld) (v : Nat) : (d.set f v).nextHandle = d.nextHandle := rfl
@[simp] theorem set_scheds (f : Fld) (v : Nat) : (d.set f v).scheds = d.scheds := rfl
@[simp] theorem set_locked (f : Fld) (v : Nat) : (d.set f v).locked = d.locked := rfl
@[simp] theorem set_sentUp (f : Fld) (v : Nat) : (d.set f v).sentUp = d.sentUp := rfl
@[simp] theorem set_preparing (f : Fld) (v : Nat) : (d.set f v).preparing = d.preparing := rfl
@[simp] theorem set_holding (f : Fld) (v : Nat) : (d.set f v).holding = d.holding := rfl
@[simp] theorem set_persistDue (f : Fld) (v : Nat) : (d.set f v).persistDue = d.persistDue := rfl
@[simp] theorem set_persisting (f : Fld) (v : Nat) : (d.set f v).persisting = d.persisting := rfl
@[simp] theorem set_pinned (f : Fld) (v : Nat) : (d.set f v).pinned = d.pinned := rfl
@[simp] theorem set_gb (f : Fld) (v : Nat) : (d.set f v).gb = d.gb := rfl
@[simp] theorem set_gbWait (f : Fld) (v : Nat) : (d.set f v).gbWait = d.gbWait := rfl
@[simp] theorem set_gbNext (f : Fld) (v : Nat) : (d.set f v).gbNext = d.gbNext := rfl
@[simp] theorem set_gbLast (f : Fld) (v : Nat) : (d.set f v).gbLast = d.gbLast := rfl
@[simp] theorem set_notifyDue (f : Fld) (v : Nat) : (d.set f v).notifyDue = d.notifyDue := rfl
@[simp] theorem set_lastNotify (f : Fld) (v : Nat) : (d.set f v).lastNotify = d.lastNotify := rfl
@[simp] theorem set_lastEv111 (f : Fld) (v : Nat) : (d.set f v).lastEv111 = d.lastEv111 := rfl
@[simp] theorem set_stage (f : Fld) (v : Nat) : (d.set f v).stage = d.stage := rfl
@[simp] theorem set_pghResult (f : Fld) (v : Nat) : (d.set f v).pghResult = d.pghResult := rfl
@[simp] theorem set_epochs (f : Fld) (v : Nat) : (d.set f v).epochs = d.epochs := rfl
@[simp] theorem set_kept (f : Fld) (v : Nat) : (d.set f v).kept = d.kept := rfl
@[simp] theorem set_spiFail (f : Fld) (v : Nat) : (d.set f v).spiFail = d.spiFail := rfl
@[simp] theorem set_nvm (f : Fld) (v : Nat) : (d.set f v).nvm = d.nvm := rfl
@[simp] theorem set_strs (f : Fld) (v : Nat) : (d.set f v).strs = d.strs := rfl
@[simp] theorem set_slots (f : Fld) (v : Nat) : (d.set f v).slots = d.slots := rfl
@[simp] theorem set_outs (f : Fld) (v : Nat) : (d.set f v).outs = d.outs := rfl
@[simp] theorem set_courses (f : Fld) (v : Nat) : (d.set f v).courses = d.courses := rfl
@[simp] theorem set_tieCmd (f : Fld) (v : Nat) : (d.set f v).tieCmd = d.tieCmd := rfl
@[simp] theorem set_round (f : Fld) (v : Nat) : (d.set f v).round = d.round := rfl
@[simp] theorem set_result (f : Fld) (v : Nat) : (d.set f v).result = d.result := rfl
@[simp] theorem set_purse (f : Fld) (v : Nat) : (d.set f v).purse = d.purse := rfl
@[simp] theorem set_cans (f : Fld) (v : Nat) : (d.set f v).cans = d.cans := rfl
@[simp] theorem set_auxApplied (f : Fld) (v : Nat) : (d.set f v).auxApplied = d.auxApplied := rfl
@[simp] theorem set_outTels (f : Fld) (v : Nat) : (d.set f v).outTels = d.outTels := rfl
@[simp] theorem set_telWin (f : Fld) (v : Nat) : (d.set f v).telWin = d.telWin := rfl
@[simp] theorem set_arcDirty (f : Fld) (v : Nat) : (d.set f v).arcDirty = d.arcDirty := rfl
@[simp] theorem set_syncGood (f : Fld) (v : Nat) : (d.set f v).syncGood = d.syncGood := rfl
@[simp] theorem set_syncNear (f : Fld) (v : Nat) : (d.set f v).syncNear = d.syncNear := rfl
@[simp] theorem set_bow (f : Fld) (v : Nat) : (d.set f v).bow = d.bow := rfl
@[simp] theorem set_pluck (f : Fld) (v : Nat) : (d.set f v).pluck = d.pluck := rfl
@[simp] theorem set_shedAbort (f : Fld) (v : Nat) : (d.set f v).shedAbort = d.shedAbort := rfl
@[simp] theorem set_rejoin (f : Fld) (v : Nat) : (d.set f v).rejoin = d.rejoin := rfl
@[simp] theorem set_tally (f : Fld) (v : Nat) : (d.set f v).tally = d.tally := rfl
@[simp] theorem set_box (f : Fld) (v : Nat) : (d.set f v).box = d.box := rfl
@[simp] theorem set_links (f : Fld) (v : Nat) : (d.set f v).links = d.links := rfl
@[simp] theorem set_macs (f : Fld) (v : Nat) : (d.set f v).macs = d.macs := rfl
@[simp] theorem set_ckpts (f : Fld) (v : Nat) : (d.set f v).ckpts = d.ckpts := rfl
@[simp] theorem set_roots (f : Fld) (v : Nat) : (d.set f v).roots = d.roots := rfl
@[simp] theorem set_therm (f : Fld) (v : Nat) : (d.set f v).therm = d.therm := rfl
@[simp] theorem set_saf (f : Fld) (v : Nat) : (d.set f v).saf = d.saf := rfl
@[simp] theorem set_tab (f : Fld) (v : Nat) : (d.set f v).tab = d.tab := rfl
@[simp] theorem set_mem (f : Fld) (v : Nat) : (d.set f v).mem = d.mem := rfl
@[simp] theorem set_dup (f : Fld) (v : Nat) : (d.set f v).dup = d.dup := rfl
@[simp] theorem set_fab (f : Fld) (v : Nat) : (d.set f v).fab = d.fab := rfl
@[simp] theorem set_auxNext (f : Fld) (v : Nat) : (d.set f v).auxNext = d.auxNext := rfl
@[simp] theorem set_auxFaultAt (f : Fld) (v : Nat) : (d.set f v).auxFaultAt = d.auxFaultAt := rfl
@[simp] theorem set_hostNext (f : Fld) (v : Nat) : (d.set f v).hostNext = d.hostNext := rfl
@[simp] theorem set_jtag (f : Fld) (v : Nat) : (d.set f v).jtag = d.jtag := rfl

@[simp] theorem setStr_regs (s : Nat) (x : StrCtx) : (d.setStr s x).regs = d.regs := rfl
@[simp] theorem setStr_sram (s : Nat) (x : StrCtx) : (d.setStr s x).sram = d.sram := rfl
@[simp] theorem setStr_flash (s : Nat) (x : StrCtx) : (d.setStr s x).flash = d.flash := rfl
@[simp] theorem setStr_running (s : Nat) (x : StrCtx) : (d.setStr s x).running = d.running := rfl
@[simp] theorem setStr_sealed (s : Nat) (x : StrCtx) : (d.setStr s x).sealed = d.sealed := rfl
@[simp] theorem setStr_now (s : Nat) (x : StrCtx) : (d.setStr s x).now = d.now := rfl
@[simp] theorem setStr_freeCtr (s : Nat) (x : StrCtx) : (d.setStr s x).freeCtr = d.freeCtr := rfl
@[simp] theorem setStr_emitted (s : Nat) (x : StrCtx) : (d.setStr s x).emitted = d.emitted := rfl
@[simp] theorem setStr_hiLatch (s : Nat) (x : StrCtx) : (d.setStr s x).hiLatch = d.hiLatch := rfl
@[simp] theorem setStr_bootsel (s : Nat) (x : StrCtx) : (d.setStr s x).bootsel = d.bootsel := rfl
@[simp] theorem setStr_testN (s : Nat) (x : StrCtx) : (d.setStr s x).testN = d.testN := rfl
@[simp] theorem setStr_resetLow (s : Nat) (x : StrCtx) : (d.setStr s x).resetLow = d.resetLow := rfl
@[simp] theorem setStr_internalCold (s : Nat) (x : StrCtx) : (d.setStr s x).internalCold = d.internalCold := rfl
@[simp] theorem setStr_warming (s : Nat) (x : StrCtx) : (d.setStr s x).warming = d.warming := rfl
@[simp] theorem setStr_safeFrom (s : Nat) (x : StrCtx) : (d.setStr s x).safeFrom = d.safeFrom := rfl
@[simp] theorem setStr_identDone (s : Nat) (x : StrCtx) : (d.setStr s x).identDone = d.identDone := rfl
@[simp] theorem setStr_recoveryDwell (s : Nat) (x : StrCtx) : (d.setStr s x).recoveryDwell = d.recoveryDwell := rfl
@[simp] theorem setStr_coldHold (s : Nat) (x : StrCtx) : (d.setStr s x).coldHold = d.coldHold := rfl
@[simp] theorem setStr_islandWanted (s : Nat) (x : StrCtx) : (d.setStr s x).islandWanted = d.islandWanted := rfl
@[simp] theorem setStr_txn (s : Nat) (x : StrCtx) : (d.setStr s x).txn = d.txn := rfl
@[simp] theorem setStr_nextHandle (s : Nat) (x : StrCtx) : (d.setStr s x).nextHandle = d.nextHandle := rfl
@[simp] theorem setStr_scheds (s : Nat) (x : StrCtx) : (d.setStr s x).scheds = d.scheds := rfl
@[simp] theorem setStr_locked (s : Nat) (x : StrCtx) : (d.setStr s x).locked = d.locked := rfl
@[simp] theorem setStr_sentUp (s : Nat) (x : StrCtx) : (d.setStr s x).sentUp = d.sentUp := rfl
@[simp] theorem setStr_preparing (s : Nat) (x : StrCtx) : (d.setStr s x).preparing = d.preparing := rfl
@[simp] theorem setStr_holding (s : Nat) (x : StrCtx) : (d.setStr s x).holding = d.holding := rfl
@[simp] theorem setStr_persistDue (s : Nat) (x : StrCtx) : (d.setStr s x).persistDue = d.persistDue := rfl
@[simp] theorem setStr_persisting (s : Nat) (x : StrCtx) : (d.setStr s x).persisting = d.persisting := rfl
@[simp] theorem setStr_pinned (s : Nat) (x : StrCtx) : (d.setStr s x).pinned = d.pinned := rfl
@[simp] theorem setStr_gb (s : Nat) (x : StrCtx) : (d.setStr s x).gb = d.gb := rfl
@[simp] theorem setStr_gbWait (s : Nat) (x : StrCtx) : (d.setStr s x).gbWait = d.gbWait := rfl
@[simp] theorem setStr_gbNext (s : Nat) (x : StrCtx) : (d.setStr s x).gbNext = d.gbNext := rfl
@[simp] theorem setStr_gbLast (s : Nat) (x : StrCtx) : (d.setStr s x).gbLast = d.gbLast := rfl
@[simp] theorem setStr_notifyDue (s : Nat) (x : StrCtx) : (d.setStr s x).notifyDue = d.notifyDue := rfl
@[simp] theorem setStr_lastNotify (s : Nat) (x : StrCtx) : (d.setStr s x).lastNotify = d.lastNotify := rfl
@[simp] theorem setStr_lastEv111 (s : Nat) (x : StrCtx) : (d.setStr s x).lastEv111 = d.lastEv111 := rfl
@[simp] theorem setStr_stage (s : Nat) (x : StrCtx) : (d.setStr s x).stage = d.stage := rfl
@[simp] theorem setStr_pghResult (s : Nat) (x : StrCtx) : (d.setStr s x).pghResult = d.pghResult := rfl
@[simp] theorem setStr_epochs (s : Nat) (x : StrCtx) : (d.setStr s x).epochs = d.epochs := rfl
@[simp] theorem setStr_kept (s : Nat) (x : StrCtx) : (d.setStr s x).kept = d.kept := rfl
@[simp] theorem setStr_spiFail (s : Nat) (x : StrCtx) : (d.setStr s x).spiFail = d.spiFail := rfl
@[simp] theorem setStr_nvm (s : Nat) (x : StrCtx) : (d.setStr s x).nvm = d.nvm := rfl
@[simp] theorem setStr_slots (s : Nat) (x : StrCtx) : (d.setStr s x).slots = d.slots := rfl
@[simp] theorem setStr_outs (s : Nat) (x : StrCtx) : (d.setStr s x).outs = d.outs := rfl
@[simp] theorem setStr_courses (s : Nat) (x : StrCtx) : (d.setStr s x).courses = d.courses := rfl
@[simp] theorem setStr_tieCmd (s : Nat) (x : StrCtx) : (d.setStr s x).tieCmd = d.tieCmd := rfl
@[simp] theorem setStr_round (s : Nat) (x : StrCtx) : (d.setStr s x).round = d.round := rfl
@[simp] theorem setStr_result (s : Nat) (x : StrCtx) : (d.setStr s x).result = d.result := rfl
@[simp] theorem setStr_purse (s : Nat) (x : StrCtx) : (d.setStr s x).purse = d.purse := rfl
@[simp] theorem setStr_cans (s : Nat) (x : StrCtx) : (d.setStr s x).cans = d.cans := rfl
@[simp] theorem setStr_auxApplied (s : Nat) (x : StrCtx) : (d.setStr s x).auxApplied = d.auxApplied := rfl
@[simp] theorem setStr_outTels (s : Nat) (x : StrCtx) : (d.setStr s x).outTels = d.outTels := rfl
@[simp] theorem setStr_telWin (s : Nat) (x : StrCtx) : (d.setStr s x).telWin = d.telWin := rfl
@[simp] theorem setStr_arcDirty (s : Nat) (x : StrCtx) : (d.setStr s x).arcDirty = d.arcDirty := rfl
@[simp] theorem setStr_syncGood (s : Nat) (x : StrCtx) : (d.setStr s x).syncGood = d.syncGood := rfl
@[simp] theorem setStr_syncNear (s : Nat) (x : StrCtx) : (d.setStr s x).syncNear = d.syncNear := rfl
@[simp] theorem setStr_bow (s : Nat) (x : StrCtx) : (d.setStr s x).bow = d.bow := rfl
@[simp] theorem setStr_pluck (s : Nat) (x : StrCtx) : (d.setStr s x).pluck = d.pluck := rfl
@[simp] theorem setStr_shedAbort (s : Nat) (x : StrCtx) : (d.setStr s x).shedAbort = d.shedAbort := rfl
@[simp] theorem setStr_rejoin (s : Nat) (x : StrCtx) : (d.setStr s x).rejoin = d.rejoin := rfl
@[simp] theorem setStr_tally (s : Nat) (x : StrCtx) : (d.setStr s x).tally = d.tally := rfl
@[simp] theorem setStr_box (s : Nat) (x : StrCtx) : (d.setStr s x).box = d.box := rfl
@[simp] theorem setStr_links (s : Nat) (x : StrCtx) : (d.setStr s x).links = d.links := rfl
@[simp] theorem setStr_macs (s : Nat) (x : StrCtx) : (d.setStr s x).macs = d.macs := rfl
@[simp] theorem setStr_ckpts (s : Nat) (x : StrCtx) : (d.setStr s x).ckpts = d.ckpts := rfl
@[simp] theorem setStr_roots (s : Nat) (x : StrCtx) : (d.setStr s x).roots = d.roots := rfl
@[simp] theorem setStr_therm (s : Nat) (x : StrCtx) : (d.setStr s x).therm = d.therm := rfl
@[simp] theorem setStr_saf (s : Nat) (x : StrCtx) : (d.setStr s x).saf = d.saf := rfl
@[simp] theorem setStr_tab (s : Nat) (x : StrCtx) : (d.setStr s x).tab = d.tab := rfl
@[simp] theorem setStr_mem (s : Nat) (x : StrCtx) : (d.setStr s x).mem = d.mem := rfl
@[simp] theorem setStr_dup (s : Nat) (x : StrCtx) : (d.setStr s x).dup = d.dup := rfl
@[simp] theorem setStr_fab (s : Nat) (x : StrCtx) : (d.setStr s x).fab = d.fab := rfl
@[simp] theorem setStr_auxNext (s : Nat) (x : StrCtx) : (d.setStr s x).auxNext = d.auxNext := rfl
@[simp] theorem setStr_auxFaultAt (s : Nat) (x : StrCtx) : (d.setStr s x).auxFaultAt = d.auxFaultAt := rfl
@[simp] theorem setStr_hostNext (s : Nat) (x : StrCtx) : (d.setStr s x).hostNext = d.hostNext := rfl
@[simp] theorem setStr_jtag (s : Nat) (x : StrCtx) : (d.setStr s x).jtag = d.jtag := rfl

@[simp] theorem setSlot_regs (i : Nat) (x : SlotCtx) : (d.setSlot i x).regs = d.regs := rfl
@[simp] theorem setSlot_sram (i : Nat) (x : SlotCtx) : (d.setSlot i x).sram = d.sram := rfl
@[simp] theorem setSlot_flash (i : Nat) (x : SlotCtx) : (d.setSlot i x).flash = d.flash := rfl
@[simp] theorem setSlot_running (i : Nat) (x : SlotCtx) : (d.setSlot i x).running = d.running := rfl
@[simp] theorem setSlot_sealed (i : Nat) (x : SlotCtx) : (d.setSlot i x).sealed = d.sealed := rfl
@[simp] theorem setSlot_now (i : Nat) (x : SlotCtx) : (d.setSlot i x).now = d.now := rfl
@[simp] theorem setSlot_freeCtr (i : Nat) (x : SlotCtx) : (d.setSlot i x).freeCtr = d.freeCtr := rfl
@[simp] theorem setSlot_emitted (i : Nat) (x : SlotCtx) : (d.setSlot i x).emitted = d.emitted := rfl
@[simp] theorem setSlot_hiLatch (i : Nat) (x : SlotCtx) : (d.setSlot i x).hiLatch = d.hiLatch := rfl
@[simp] theorem setSlot_bootsel (i : Nat) (x : SlotCtx) : (d.setSlot i x).bootsel = d.bootsel := rfl
@[simp] theorem setSlot_testN (i : Nat) (x : SlotCtx) : (d.setSlot i x).testN = d.testN := rfl
@[simp] theorem setSlot_resetLow (i : Nat) (x : SlotCtx) : (d.setSlot i x).resetLow = d.resetLow := rfl
@[simp] theorem setSlot_internalCold (i : Nat) (x : SlotCtx) : (d.setSlot i x).internalCold = d.internalCold := rfl
@[simp] theorem setSlot_warming (i : Nat) (x : SlotCtx) : (d.setSlot i x).warming = d.warming := rfl
@[simp] theorem setSlot_safeFrom (i : Nat) (x : SlotCtx) : (d.setSlot i x).safeFrom = d.safeFrom := rfl
@[simp] theorem setSlot_identDone (i : Nat) (x : SlotCtx) : (d.setSlot i x).identDone = d.identDone := rfl
@[simp] theorem setSlot_recoveryDwell (i : Nat) (x : SlotCtx) : (d.setSlot i x).recoveryDwell = d.recoveryDwell := rfl
@[simp] theorem setSlot_coldHold (i : Nat) (x : SlotCtx) : (d.setSlot i x).coldHold = d.coldHold := rfl
@[simp] theorem setSlot_islandWanted (i : Nat) (x : SlotCtx) : (d.setSlot i x).islandWanted = d.islandWanted := rfl
@[simp] theorem setSlot_txn (i : Nat) (x : SlotCtx) : (d.setSlot i x).txn = d.txn := rfl
@[simp] theorem setSlot_nextHandle (i : Nat) (x : SlotCtx) : (d.setSlot i x).nextHandle = d.nextHandle := rfl
@[simp] theorem setSlot_scheds (i : Nat) (x : SlotCtx) : (d.setSlot i x).scheds = d.scheds := rfl
@[simp] theorem setSlot_locked (i : Nat) (x : SlotCtx) : (d.setSlot i x).locked = d.locked := rfl
@[simp] theorem setSlot_sentUp (i : Nat) (x : SlotCtx) : (d.setSlot i x).sentUp = d.sentUp := rfl
@[simp] theorem setSlot_preparing (i : Nat) (x : SlotCtx) : (d.setSlot i x).preparing = d.preparing := rfl
@[simp] theorem setSlot_holding (i : Nat) (x : SlotCtx) : (d.setSlot i x).holding = d.holding := rfl
@[simp] theorem setSlot_persistDue (i : Nat) (x : SlotCtx) : (d.setSlot i x).persistDue = d.persistDue := rfl
@[simp] theorem setSlot_persisting (i : Nat) (x : SlotCtx) : (d.setSlot i x).persisting = d.persisting := rfl
@[simp] theorem setSlot_pinned (i : Nat) (x : SlotCtx) : (d.setSlot i x).pinned = d.pinned := rfl
@[simp] theorem setSlot_gb (i : Nat) (x : SlotCtx) : (d.setSlot i x).gb = d.gb := rfl
@[simp] theorem setSlot_gbWait (i : Nat) (x : SlotCtx) : (d.setSlot i x).gbWait = d.gbWait := rfl
@[simp] theorem setSlot_gbNext (i : Nat) (x : SlotCtx) : (d.setSlot i x).gbNext = d.gbNext := rfl
@[simp] theorem setSlot_gbLast (i : Nat) (x : SlotCtx) : (d.setSlot i x).gbLast = d.gbLast := rfl
@[simp] theorem setSlot_notifyDue (i : Nat) (x : SlotCtx) : (d.setSlot i x).notifyDue = d.notifyDue := rfl
@[simp] theorem setSlot_lastNotify (i : Nat) (x : SlotCtx) : (d.setSlot i x).lastNotify = d.lastNotify := rfl
@[simp] theorem setSlot_lastEv111 (i : Nat) (x : SlotCtx) : (d.setSlot i x).lastEv111 = d.lastEv111 := rfl
@[simp] theorem setSlot_stage (i : Nat) (x : SlotCtx) : (d.setSlot i x).stage = d.stage := rfl
@[simp] theorem setSlot_pghResult (i : Nat) (x : SlotCtx) : (d.setSlot i x).pghResult = d.pghResult := rfl
@[simp] theorem setSlot_epochs (i : Nat) (x : SlotCtx) : (d.setSlot i x).epochs = d.epochs := rfl
@[simp] theorem setSlot_kept (i : Nat) (x : SlotCtx) : (d.setSlot i x).kept = d.kept := rfl
@[simp] theorem setSlot_spiFail (i : Nat) (x : SlotCtx) : (d.setSlot i x).spiFail = d.spiFail := rfl
@[simp] theorem setSlot_nvm (i : Nat) (x : SlotCtx) : (d.setSlot i x).nvm = d.nvm := rfl
@[simp] theorem setSlot_strs (i : Nat) (x : SlotCtx) : (d.setSlot i x).strs = d.strs := rfl
@[simp] theorem setSlot_outs (i : Nat) (x : SlotCtx) : (d.setSlot i x).outs = d.outs := rfl
@[simp] theorem setSlot_courses (i : Nat) (x : SlotCtx) : (d.setSlot i x).courses = d.courses := rfl
@[simp] theorem setSlot_tieCmd (i : Nat) (x : SlotCtx) : (d.setSlot i x).tieCmd = d.tieCmd := rfl
@[simp] theorem setSlot_round (i : Nat) (x : SlotCtx) : (d.setSlot i x).round = d.round := rfl
@[simp] theorem setSlot_result (i : Nat) (x : SlotCtx) : (d.setSlot i x).result = d.result := rfl
@[simp] theorem setSlot_purse (i : Nat) (x : SlotCtx) : (d.setSlot i x).purse = d.purse := rfl
@[simp] theorem setSlot_cans (i : Nat) (x : SlotCtx) : (d.setSlot i x).cans = d.cans := rfl
@[simp] theorem setSlot_auxApplied (i : Nat) (x : SlotCtx) : (d.setSlot i x).auxApplied = d.auxApplied := rfl
@[simp] theorem setSlot_outTels (i : Nat) (x : SlotCtx) : (d.setSlot i x).outTels = d.outTels := rfl
@[simp] theorem setSlot_telWin (i : Nat) (x : SlotCtx) : (d.setSlot i x).telWin = d.telWin := rfl
@[simp] theorem setSlot_arcDirty (i : Nat) (x : SlotCtx) : (d.setSlot i x).arcDirty = d.arcDirty := rfl
@[simp] theorem setSlot_syncGood (i : Nat) (x : SlotCtx) : (d.setSlot i x).syncGood = d.syncGood := rfl
@[simp] theorem setSlot_syncNear (i : Nat) (x : SlotCtx) : (d.setSlot i x).syncNear = d.syncNear := rfl
@[simp] theorem setSlot_bow (i : Nat) (x : SlotCtx) : (d.setSlot i x).bow = d.bow := rfl
@[simp] theorem setSlot_pluck (i : Nat) (x : SlotCtx) : (d.setSlot i x).pluck = d.pluck := rfl
@[simp] theorem setSlot_shedAbort (i : Nat) (x : SlotCtx) : (d.setSlot i x).shedAbort = d.shedAbort := rfl
@[simp] theorem setSlot_rejoin (i : Nat) (x : SlotCtx) : (d.setSlot i x).rejoin = d.rejoin := rfl
@[simp] theorem setSlot_tally (i : Nat) (x : SlotCtx) : (d.setSlot i x).tally = d.tally := rfl
@[simp] theorem setSlot_box (i : Nat) (x : SlotCtx) : (d.setSlot i x).box = d.box := rfl
@[simp] theorem setSlot_links (i : Nat) (x : SlotCtx) : (d.setSlot i x).links = d.links := rfl
@[simp] theorem setSlot_macs (i : Nat) (x : SlotCtx) : (d.setSlot i x).macs = d.macs := rfl
@[simp] theorem setSlot_ckpts (i : Nat) (x : SlotCtx) : (d.setSlot i x).ckpts = d.ckpts := rfl
@[simp] theorem setSlot_roots (i : Nat) (x : SlotCtx) : (d.setSlot i x).roots = d.roots := rfl
@[simp] theorem setSlot_therm (i : Nat) (x : SlotCtx) : (d.setSlot i x).therm = d.therm := rfl
@[simp] theorem setSlot_saf (i : Nat) (x : SlotCtx) : (d.setSlot i x).saf = d.saf := rfl
@[simp] theorem setSlot_tab (i : Nat) (x : SlotCtx) : (d.setSlot i x).tab = d.tab := rfl
@[simp] theorem setSlot_mem (i : Nat) (x : SlotCtx) : (d.setSlot i x).mem = d.mem := rfl
@[simp] theorem setSlot_dup (i : Nat) (x : SlotCtx) : (d.setSlot i x).dup = d.dup := rfl
@[simp] theorem setSlot_fab (i : Nat) (x : SlotCtx) : (d.setSlot i x).fab = d.fab := rfl
@[simp] theorem setSlot_auxNext (i : Nat) (x : SlotCtx) : (d.setSlot i x).auxNext = d.auxNext := rfl
@[simp] theorem setSlot_auxFaultAt (i : Nat) (x : SlotCtx) : (d.setSlot i x).auxFaultAt = d.auxFaultAt := rfl
@[simp] theorem setSlot_hostNext (i : Nat) (x : SlotCtx) : (d.setSlot i x).hostNext = d.hostNext := rfl
@[simp] theorem setSlot_jtag (i : Nat) (x : SlotCtx) : (d.setSlot i x).jtag = d.jtag := rfl

@[simp] theorem setOut_regs (n : Nat) (x : OutCtx) : (d.setOut n x).regs = d.regs := rfl
@[simp] theorem setOut_sram (n : Nat) (x : OutCtx) : (d.setOut n x).sram = d.sram := rfl
@[simp] theorem setOut_flash (n : Nat) (x : OutCtx) : (d.setOut n x).flash = d.flash := rfl
@[simp] theorem setOut_running (n : Nat) (x : OutCtx) : (d.setOut n x).running = d.running := rfl
@[simp] theorem setOut_sealed (n : Nat) (x : OutCtx) : (d.setOut n x).sealed = d.sealed := rfl
@[simp] theorem setOut_now (n : Nat) (x : OutCtx) : (d.setOut n x).now = d.now := rfl
@[simp] theorem setOut_freeCtr (n : Nat) (x : OutCtx) : (d.setOut n x).freeCtr = d.freeCtr := rfl
@[simp] theorem setOut_emitted (n : Nat) (x : OutCtx) : (d.setOut n x).emitted = d.emitted := rfl
@[simp] theorem setOut_hiLatch (n : Nat) (x : OutCtx) : (d.setOut n x).hiLatch = d.hiLatch := rfl
@[simp] theorem setOut_bootsel (n : Nat) (x : OutCtx) : (d.setOut n x).bootsel = d.bootsel := rfl
@[simp] theorem setOut_testN (n : Nat) (x : OutCtx) : (d.setOut n x).testN = d.testN := rfl
@[simp] theorem setOut_resetLow (n : Nat) (x : OutCtx) : (d.setOut n x).resetLow = d.resetLow := rfl
@[simp] theorem setOut_internalCold (n : Nat) (x : OutCtx) : (d.setOut n x).internalCold = d.internalCold := rfl
@[simp] theorem setOut_warming (n : Nat) (x : OutCtx) : (d.setOut n x).warming = d.warming := rfl
@[simp] theorem setOut_safeFrom (n : Nat) (x : OutCtx) : (d.setOut n x).safeFrom = d.safeFrom := rfl
@[simp] theorem setOut_identDone (n : Nat) (x : OutCtx) : (d.setOut n x).identDone = d.identDone := rfl
@[simp] theorem setOut_recoveryDwell (n : Nat) (x : OutCtx) : (d.setOut n x).recoveryDwell = d.recoveryDwell := rfl
@[simp] theorem setOut_coldHold (n : Nat) (x : OutCtx) : (d.setOut n x).coldHold = d.coldHold := rfl
@[simp] theorem setOut_islandWanted (n : Nat) (x : OutCtx) : (d.setOut n x).islandWanted = d.islandWanted := rfl
@[simp] theorem setOut_txn (n : Nat) (x : OutCtx) : (d.setOut n x).txn = d.txn := rfl
@[simp] theorem setOut_nextHandle (n : Nat) (x : OutCtx) : (d.setOut n x).nextHandle = d.nextHandle := rfl
@[simp] theorem setOut_scheds (n : Nat) (x : OutCtx) : (d.setOut n x).scheds = d.scheds := rfl
@[simp] theorem setOut_locked (n : Nat) (x : OutCtx) : (d.setOut n x).locked = d.locked := rfl
@[simp] theorem setOut_sentUp (n : Nat) (x : OutCtx) : (d.setOut n x).sentUp = d.sentUp := rfl
@[simp] theorem setOut_preparing (n : Nat) (x : OutCtx) : (d.setOut n x).preparing = d.preparing := rfl
@[simp] theorem setOut_holding (n : Nat) (x : OutCtx) : (d.setOut n x).holding = d.holding := rfl
@[simp] theorem setOut_persistDue (n : Nat) (x : OutCtx) : (d.setOut n x).persistDue = d.persistDue := rfl
@[simp] theorem setOut_persisting (n : Nat) (x : OutCtx) : (d.setOut n x).persisting = d.persisting := rfl
@[simp] theorem setOut_pinned (n : Nat) (x : OutCtx) : (d.setOut n x).pinned = d.pinned := rfl
@[simp] theorem setOut_gb (n : Nat) (x : OutCtx) : (d.setOut n x).gb = d.gb := rfl
@[simp] theorem setOut_gbWait (n : Nat) (x : OutCtx) : (d.setOut n x).gbWait = d.gbWait := rfl
@[simp] theorem setOut_gbNext (n : Nat) (x : OutCtx) : (d.setOut n x).gbNext = d.gbNext := rfl
@[simp] theorem setOut_gbLast (n : Nat) (x : OutCtx) : (d.setOut n x).gbLast = d.gbLast := rfl
@[simp] theorem setOut_notifyDue (n : Nat) (x : OutCtx) : (d.setOut n x).notifyDue = d.notifyDue := rfl
@[simp] theorem setOut_lastNotify (n : Nat) (x : OutCtx) : (d.setOut n x).lastNotify = d.lastNotify := rfl
@[simp] theorem setOut_lastEv111 (n : Nat) (x : OutCtx) : (d.setOut n x).lastEv111 = d.lastEv111 := rfl
@[simp] theorem setOut_stage (n : Nat) (x : OutCtx) : (d.setOut n x).stage = d.stage := rfl
@[simp] theorem setOut_pghResult (n : Nat) (x : OutCtx) : (d.setOut n x).pghResult = d.pghResult := rfl
@[simp] theorem setOut_epochs (n : Nat) (x : OutCtx) : (d.setOut n x).epochs = d.epochs := rfl
@[simp] theorem setOut_kept (n : Nat) (x : OutCtx) : (d.setOut n x).kept = d.kept := rfl
@[simp] theorem setOut_spiFail (n : Nat) (x : OutCtx) : (d.setOut n x).spiFail = d.spiFail := rfl
@[simp] theorem setOut_nvm (n : Nat) (x : OutCtx) : (d.setOut n x).nvm = d.nvm := rfl
@[simp] theorem setOut_strs (n : Nat) (x : OutCtx) : (d.setOut n x).strs = d.strs := rfl
@[simp] theorem setOut_slots (n : Nat) (x : OutCtx) : (d.setOut n x).slots = d.slots := rfl
@[simp] theorem setOut_courses (n : Nat) (x : OutCtx) : (d.setOut n x).courses = d.courses := rfl
@[simp] theorem setOut_tieCmd (n : Nat) (x : OutCtx) : (d.setOut n x).tieCmd = d.tieCmd := rfl
@[simp] theorem setOut_round (n : Nat) (x : OutCtx) : (d.setOut n x).round = d.round := rfl
@[simp] theorem setOut_result (n : Nat) (x : OutCtx) : (d.setOut n x).result = d.result := rfl
@[simp] theorem setOut_purse (n : Nat) (x : OutCtx) : (d.setOut n x).purse = d.purse := rfl
@[simp] theorem setOut_cans (n : Nat) (x : OutCtx) : (d.setOut n x).cans = d.cans := rfl
@[simp] theorem setOut_auxApplied (n : Nat) (x : OutCtx) : (d.setOut n x).auxApplied = d.auxApplied := rfl
@[simp] theorem setOut_outTels (n : Nat) (x : OutCtx) : (d.setOut n x).outTels = d.outTels := rfl
@[simp] theorem setOut_telWin (n : Nat) (x : OutCtx) : (d.setOut n x).telWin = d.telWin := rfl
@[simp] theorem setOut_arcDirty (n : Nat) (x : OutCtx) : (d.setOut n x).arcDirty = d.arcDirty := rfl
@[simp] theorem setOut_syncGood (n : Nat) (x : OutCtx) : (d.setOut n x).syncGood = d.syncGood := rfl
@[simp] theorem setOut_syncNear (n : Nat) (x : OutCtx) : (d.setOut n x).syncNear = d.syncNear := rfl
@[simp] theorem setOut_bow (n : Nat) (x : OutCtx) : (d.setOut n x).bow = d.bow := rfl
@[simp] theorem setOut_pluck (n : Nat) (x : OutCtx) : (d.setOut n x).pluck = d.pluck := rfl
@[simp] theorem setOut_shedAbort (n : Nat) (x : OutCtx) : (d.setOut n x).shedAbort = d.shedAbort := rfl
@[simp] theorem setOut_rejoin (n : Nat) (x : OutCtx) : (d.setOut n x).rejoin = d.rejoin := rfl
@[simp] theorem setOut_tally (n : Nat) (x : OutCtx) : (d.setOut n x).tally = d.tally := rfl
@[simp] theorem setOut_box (n : Nat) (x : OutCtx) : (d.setOut n x).box = d.box := rfl
@[simp] theorem setOut_links (n : Nat) (x : OutCtx) : (d.setOut n x).links = d.links := rfl
@[simp] theorem setOut_macs (n : Nat) (x : OutCtx) : (d.setOut n x).macs = d.macs := rfl
@[simp] theorem setOut_ckpts (n : Nat) (x : OutCtx) : (d.setOut n x).ckpts = d.ckpts := rfl
@[simp] theorem setOut_roots (n : Nat) (x : OutCtx) : (d.setOut n x).roots = d.roots := rfl
@[simp] theorem setOut_therm (n : Nat) (x : OutCtx) : (d.setOut n x).therm = d.therm := rfl
@[simp] theorem setOut_saf (n : Nat) (x : OutCtx) : (d.setOut n x).saf = d.saf := rfl
@[simp] theorem setOut_tab (n : Nat) (x : OutCtx) : (d.setOut n x).tab = d.tab := rfl
@[simp] theorem setOut_mem (n : Nat) (x : OutCtx) : (d.setOut n x).mem = d.mem := rfl
@[simp] theorem setOut_dup (n : Nat) (x : OutCtx) : (d.setOut n x).dup = d.dup := rfl
@[simp] theorem setOut_fab (n : Nat) (x : OutCtx) : (d.setOut n x).fab = d.fab := rfl
@[simp] theorem setOut_auxNext (n : Nat) (x : OutCtx) : (d.setOut n x).auxNext = d.auxNext := rfl
@[simp] theorem setOut_auxFaultAt (n : Nat) (x : OutCtx) : (d.setOut n x).auxFaultAt = d.auxFaultAt := rfl
@[simp] theorem setOut_hostNext (n : Nat) (x : OutCtx) : (d.setOut n x).hostNext = d.hostNext := rfl
@[simp] theorem setOut_jtag (n : Nat) (x : OutCtx) : (d.setOut n x).jtag = d.jtag := rfl

@[simp] theorem setCourse_regs (c : Nat) (x : CourseCtx) : (d.setCourse c x).regs = d.regs := rfl
@[simp] theorem setCourse_sram (c : Nat) (x : CourseCtx) : (d.setCourse c x).sram = d.sram := rfl
@[simp] theorem setCourse_flash (c : Nat) (x : CourseCtx) : (d.setCourse c x).flash = d.flash := rfl
@[simp] theorem setCourse_running (c : Nat) (x : CourseCtx) : (d.setCourse c x).running = d.running := rfl
@[simp] theorem setCourse_sealed (c : Nat) (x : CourseCtx) : (d.setCourse c x).sealed = d.sealed := rfl
@[simp] theorem setCourse_now (c : Nat) (x : CourseCtx) : (d.setCourse c x).now = d.now := rfl
@[simp] theorem setCourse_freeCtr (c : Nat) (x : CourseCtx) : (d.setCourse c x).freeCtr = d.freeCtr := rfl
@[simp] theorem setCourse_emitted (c : Nat) (x : CourseCtx) : (d.setCourse c x).emitted = d.emitted := rfl
@[simp] theorem setCourse_hiLatch (c : Nat) (x : CourseCtx) : (d.setCourse c x).hiLatch = d.hiLatch := rfl
@[simp] theorem setCourse_bootsel (c : Nat) (x : CourseCtx) : (d.setCourse c x).bootsel = d.bootsel := rfl
@[simp] theorem setCourse_testN (c : Nat) (x : CourseCtx) : (d.setCourse c x).testN = d.testN := rfl
@[simp] theorem setCourse_resetLow (c : Nat) (x : CourseCtx) : (d.setCourse c x).resetLow = d.resetLow := rfl
@[simp] theorem setCourse_internalCold (c : Nat) (x : CourseCtx) : (d.setCourse c x).internalCold = d.internalCold := rfl
@[simp] theorem setCourse_warming (c : Nat) (x : CourseCtx) : (d.setCourse c x).warming = d.warming := rfl
@[simp] theorem setCourse_safeFrom (c : Nat) (x : CourseCtx) : (d.setCourse c x).safeFrom = d.safeFrom := rfl
@[simp] theorem setCourse_identDone (c : Nat) (x : CourseCtx) : (d.setCourse c x).identDone = d.identDone := rfl
@[simp] theorem setCourse_recoveryDwell (c : Nat) (x : CourseCtx) : (d.setCourse c x).recoveryDwell = d.recoveryDwell := rfl
@[simp] theorem setCourse_coldHold (c : Nat) (x : CourseCtx) : (d.setCourse c x).coldHold = d.coldHold := rfl
@[simp] theorem setCourse_islandWanted (c : Nat) (x : CourseCtx) : (d.setCourse c x).islandWanted = d.islandWanted := rfl
@[simp] theorem setCourse_txn (c : Nat) (x : CourseCtx) : (d.setCourse c x).txn = d.txn := rfl
@[simp] theorem setCourse_nextHandle (c : Nat) (x : CourseCtx) : (d.setCourse c x).nextHandle = d.nextHandle := rfl
@[simp] theorem setCourse_scheds (c : Nat) (x : CourseCtx) : (d.setCourse c x).scheds = d.scheds := rfl
@[simp] theorem setCourse_locked (c : Nat) (x : CourseCtx) : (d.setCourse c x).locked = d.locked := rfl
@[simp] theorem setCourse_sentUp (c : Nat) (x : CourseCtx) : (d.setCourse c x).sentUp = d.sentUp := rfl
@[simp] theorem setCourse_preparing (c : Nat) (x : CourseCtx) : (d.setCourse c x).preparing = d.preparing := rfl
@[simp] theorem setCourse_holding (c : Nat) (x : CourseCtx) : (d.setCourse c x).holding = d.holding := rfl
@[simp] theorem setCourse_persistDue (c : Nat) (x : CourseCtx) : (d.setCourse c x).persistDue = d.persistDue := rfl
@[simp] theorem setCourse_persisting (c : Nat) (x : CourseCtx) : (d.setCourse c x).persisting = d.persisting := rfl
@[simp] theorem setCourse_pinned (c : Nat) (x : CourseCtx) : (d.setCourse c x).pinned = d.pinned := rfl
@[simp] theorem setCourse_gb (c : Nat) (x : CourseCtx) : (d.setCourse c x).gb = d.gb := rfl
@[simp] theorem setCourse_gbWait (c : Nat) (x : CourseCtx) : (d.setCourse c x).gbWait = d.gbWait := rfl
@[simp] theorem setCourse_gbNext (c : Nat) (x : CourseCtx) : (d.setCourse c x).gbNext = d.gbNext := rfl
@[simp] theorem setCourse_gbLast (c : Nat) (x : CourseCtx) : (d.setCourse c x).gbLast = d.gbLast := rfl
@[simp] theorem setCourse_notifyDue (c : Nat) (x : CourseCtx) : (d.setCourse c x).notifyDue = d.notifyDue := rfl
@[simp] theorem setCourse_lastNotify (c : Nat) (x : CourseCtx) : (d.setCourse c x).lastNotify = d.lastNotify := rfl
@[simp] theorem setCourse_lastEv111 (c : Nat) (x : CourseCtx) : (d.setCourse c x).lastEv111 = d.lastEv111 := rfl
@[simp] theorem setCourse_stage (c : Nat) (x : CourseCtx) : (d.setCourse c x).stage = d.stage := rfl
@[simp] theorem setCourse_pghResult (c : Nat) (x : CourseCtx) : (d.setCourse c x).pghResult = d.pghResult := rfl
@[simp] theorem setCourse_epochs (c : Nat) (x : CourseCtx) : (d.setCourse c x).epochs = d.epochs := rfl
@[simp] theorem setCourse_kept (c : Nat) (x : CourseCtx) : (d.setCourse c x).kept = d.kept := rfl
@[simp] theorem setCourse_spiFail (c : Nat) (x : CourseCtx) : (d.setCourse c x).spiFail = d.spiFail := rfl
@[simp] theorem setCourse_nvm (c : Nat) (x : CourseCtx) : (d.setCourse c x).nvm = d.nvm := rfl
@[simp] theorem setCourse_strs (c : Nat) (x : CourseCtx) : (d.setCourse c x).strs = d.strs := rfl
@[simp] theorem setCourse_slots (c : Nat) (x : CourseCtx) : (d.setCourse c x).slots = d.slots := rfl
@[simp] theorem setCourse_outs (c : Nat) (x : CourseCtx) : (d.setCourse c x).outs = d.outs := rfl
@[simp] theorem setCourse_tieCmd (c : Nat) (x : CourseCtx) : (d.setCourse c x).tieCmd = d.tieCmd := rfl
@[simp] theorem setCourse_round (c : Nat) (x : CourseCtx) : (d.setCourse c x).round = d.round := rfl
@[simp] theorem setCourse_result (c : Nat) (x : CourseCtx) : (d.setCourse c x).result = d.result := rfl
@[simp] theorem setCourse_purse (c : Nat) (x : CourseCtx) : (d.setCourse c x).purse = d.purse := rfl
@[simp] theorem setCourse_cans (c : Nat) (x : CourseCtx) : (d.setCourse c x).cans = d.cans := rfl
@[simp] theorem setCourse_auxApplied (c : Nat) (x : CourseCtx) : (d.setCourse c x).auxApplied = d.auxApplied := rfl
@[simp] theorem setCourse_outTels (c : Nat) (x : CourseCtx) : (d.setCourse c x).outTels = d.outTels := rfl
@[simp] theorem setCourse_telWin (c : Nat) (x : CourseCtx) : (d.setCourse c x).telWin = d.telWin := rfl
@[simp] theorem setCourse_arcDirty (c : Nat) (x : CourseCtx) : (d.setCourse c x).arcDirty = d.arcDirty := rfl
@[simp] theorem setCourse_syncGood (c : Nat) (x : CourseCtx) : (d.setCourse c x).syncGood = d.syncGood := rfl
@[simp] theorem setCourse_syncNear (c : Nat) (x : CourseCtx) : (d.setCourse c x).syncNear = d.syncNear := rfl
@[simp] theorem setCourse_bow (c : Nat) (x : CourseCtx) : (d.setCourse c x).bow = d.bow := rfl
@[simp] theorem setCourse_pluck (c : Nat) (x : CourseCtx) : (d.setCourse c x).pluck = d.pluck := rfl
@[simp] theorem setCourse_shedAbort (c : Nat) (x : CourseCtx) : (d.setCourse c x).shedAbort = d.shedAbort := rfl
@[simp] theorem setCourse_rejoin (c : Nat) (x : CourseCtx) : (d.setCourse c x).rejoin = d.rejoin := rfl
@[simp] theorem setCourse_tally (c : Nat) (x : CourseCtx) : (d.setCourse c x).tally = d.tally := rfl
@[simp] theorem setCourse_box (c : Nat) (x : CourseCtx) : (d.setCourse c x).box = d.box := rfl
@[simp] theorem setCourse_links (c : Nat) (x : CourseCtx) : (d.setCourse c x).links = d.links := rfl
@[simp] theorem setCourse_macs (c : Nat) (x : CourseCtx) : (d.setCourse c x).macs = d.macs := rfl
@[simp] theorem setCourse_ckpts (c : Nat) (x : CourseCtx) : (d.setCourse c x).ckpts = d.ckpts := rfl
@[simp] theorem setCourse_roots (c : Nat) (x : CourseCtx) : (d.setCourse c x).roots = d.roots := rfl
@[simp] theorem setCourse_therm (c : Nat) (x : CourseCtx) : (d.setCourse c x).therm = d.therm := rfl
@[simp] theorem setCourse_saf (c : Nat) (x : CourseCtx) : (d.setCourse c x).saf = d.saf := rfl
@[simp] theorem setCourse_tab (c : Nat) (x : CourseCtx) : (d.setCourse c x).tab = d.tab := rfl
@[simp] theorem setCourse_mem (c : Nat) (x : CourseCtx) : (d.setCourse c x).mem = d.mem := rfl
@[simp] theorem setCourse_dup (c : Nat) (x : CourseCtx) : (d.setCourse c x).dup = d.dup := rfl
@[simp] theorem setCourse_fab (c : Nat) (x : CourseCtx) : (d.setCourse c x).fab = d.fab := rfl
@[simp] theorem setCourse_auxNext (c : Nat) (x : CourseCtx) : (d.setCourse c x).auxNext = d.auxNext := rfl
@[simp] theorem setCourse_auxFaultAt (c : Nat) (x : CourseCtx) : (d.setCourse c x).auxFaultAt = d.auxFaultAt := rfl
@[simp] theorem setCourse_hostNext (c : Nat) (x : CourseCtx) : (d.setCourse c x).hostNext = d.hostNext := rfl
@[simp] theorem setCourse_jtag (c : Nat) (x : CourseCtx) : (d.setCourse c x).jtag = d.jtag := rfl

@[simp] theorem modCan_regs (k : Nat) (f : CanPort → CanPort) : (d.modCan k f).regs = d.regs := rfl
@[simp] theorem modCan_sram (k : Nat) (f : CanPort → CanPort) : (d.modCan k f).sram = d.sram := rfl
@[simp] theorem modCan_flash (k : Nat) (f : CanPort → CanPort) : (d.modCan k f).flash = d.flash := rfl
@[simp] theorem modCan_running (k : Nat) (f : CanPort → CanPort) : (d.modCan k f).running = d.running := rfl
@[simp] theorem modCan_sealed (k : Nat) (f : CanPort → CanPort) : (d.modCan k f).sealed = d.sealed := rfl
@[simp] theorem modCan_now (k : Nat) (f : CanPort → CanPort) : (d.modCan k f).now = d.now := rfl
@[simp] theorem modCan_freeCtr (k : Nat) (f : CanPort → CanPort) : (d.modCan k f).freeCtr = d.freeCtr := rfl
@[simp] theorem modCan_emitted (k : Nat) (f : CanPort → CanPort) : (d.modCan k f).emitted = d.emitted := rfl
@[simp] theorem modCan_hiLatch (k : Nat) (f : CanPort → CanPort) : (d.modCan k f).hiLatch = d.hiLatch := rfl
@[simp] theorem modCan_bootsel (k : Nat) (f : CanPort → CanPort) : (d.modCan k f).bootsel = d.bootsel := rfl
@[simp] theorem modCan_testN (k : Nat) (f : CanPort → CanPort) : (d.modCan k f).testN = d.testN := rfl
@[simp] theorem modCan_resetLow (k : Nat) (f : CanPort → CanPort) : (d.modCan k f).resetLow = d.resetLow := rfl
@[simp] theorem modCan_internalCold (k : Nat) (f : CanPort → CanPort) : (d.modCan k f).internalCold = d.internalCold := rfl
@[simp] theorem modCan_warming (k : Nat) (f : CanPort → CanPort) : (d.modCan k f).warming = d.warming := rfl
@[simp] theorem modCan_safeFrom (k : Nat) (f : CanPort → CanPort) : (d.modCan k f).safeFrom = d.safeFrom := rfl
@[simp] theorem modCan_identDone (k : Nat) (f : CanPort → CanPort) : (d.modCan k f).identDone = d.identDone := rfl
@[simp] theorem modCan_recoveryDwell (k : Nat) (f : CanPort → CanPort) : (d.modCan k f).recoveryDwell = d.recoveryDwell := rfl
@[simp] theorem modCan_coldHold (k : Nat) (f : CanPort → CanPort) : (d.modCan k f).coldHold = d.coldHold := rfl
@[simp] theorem modCan_islandWanted (k : Nat) (f : CanPort → CanPort) : (d.modCan k f).islandWanted = d.islandWanted := rfl
@[simp] theorem modCan_txn (k : Nat) (f : CanPort → CanPort) : (d.modCan k f).txn = d.txn := rfl
@[simp] theorem modCan_nextHandle (k : Nat) (f : CanPort → CanPort) : (d.modCan k f).nextHandle = d.nextHandle := rfl
@[simp] theorem modCan_scheds (k : Nat) (f : CanPort → CanPort) : (d.modCan k f).scheds = d.scheds := rfl
@[simp] theorem modCan_locked (k : Nat) (f : CanPort → CanPort) : (d.modCan k f).locked = d.locked := rfl
@[simp] theorem modCan_sentUp (k : Nat) (f : CanPort → CanPort) : (d.modCan k f).sentUp = d.sentUp := rfl
@[simp] theorem modCan_preparing (k : Nat) (f : CanPort → CanPort) : (d.modCan k f).preparing = d.preparing := rfl
@[simp] theorem modCan_holding (k : Nat) (f : CanPort → CanPort) : (d.modCan k f).holding = d.holding := rfl
@[simp] theorem modCan_persistDue (k : Nat) (f : CanPort → CanPort) : (d.modCan k f).persistDue = d.persistDue := rfl
@[simp] theorem modCan_persisting (k : Nat) (f : CanPort → CanPort) : (d.modCan k f).persisting = d.persisting := rfl
@[simp] theorem modCan_pinned (k : Nat) (f : CanPort → CanPort) : (d.modCan k f).pinned = d.pinned := rfl
@[simp] theorem modCan_gb (k : Nat) (f : CanPort → CanPort) : (d.modCan k f).gb = d.gb := rfl
@[simp] theorem modCan_gbWait (k : Nat) (f : CanPort → CanPort) : (d.modCan k f).gbWait = d.gbWait := rfl
@[simp] theorem modCan_gbNext (k : Nat) (f : CanPort → CanPort) : (d.modCan k f).gbNext = d.gbNext := rfl
@[simp] theorem modCan_gbLast (k : Nat) (f : CanPort → CanPort) : (d.modCan k f).gbLast = d.gbLast := rfl
@[simp] theorem modCan_notifyDue (k : Nat) (f : CanPort → CanPort) : (d.modCan k f).notifyDue = d.notifyDue := rfl
@[simp] theorem modCan_lastNotify (k : Nat) (f : CanPort → CanPort) : (d.modCan k f).lastNotify = d.lastNotify := rfl
@[simp] theorem modCan_lastEv111 (k : Nat) (f : CanPort → CanPort) : (d.modCan k f).lastEv111 = d.lastEv111 := rfl
@[simp] theorem modCan_stage (k : Nat) (f : CanPort → CanPort) : (d.modCan k f).stage = d.stage := rfl
@[simp] theorem modCan_pghResult (k : Nat) (f : CanPort → CanPort) : (d.modCan k f).pghResult = d.pghResult := rfl
@[simp] theorem modCan_epochs (k : Nat) (f : CanPort → CanPort) : (d.modCan k f).epochs = d.epochs := rfl
@[simp] theorem modCan_kept (k : Nat) (f : CanPort → CanPort) : (d.modCan k f).kept = d.kept := rfl
@[simp] theorem modCan_spiFail (k : Nat) (f : CanPort → CanPort) : (d.modCan k f).spiFail = d.spiFail := rfl
@[simp] theorem modCan_nvm (k : Nat) (f : CanPort → CanPort) : (d.modCan k f).nvm = d.nvm := rfl
@[simp] theorem modCan_strs (k : Nat) (f : CanPort → CanPort) : (d.modCan k f).strs = d.strs := rfl
@[simp] theorem modCan_slots (k : Nat) (f : CanPort → CanPort) : (d.modCan k f).slots = d.slots := rfl
@[simp] theorem modCan_outs (k : Nat) (f : CanPort → CanPort) : (d.modCan k f).outs = d.outs := rfl
@[simp] theorem modCan_courses (k : Nat) (f : CanPort → CanPort) : (d.modCan k f).courses = d.courses := rfl
@[simp] theorem modCan_tieCmd (k : Nat) (f : CanPort → CanPort) : (d.modCan k f).tieCmd = d.tieCmd := rfl
@[simp] theorem modCan_round (k : Nat) (f : CanPort → CanPort) : (d.modCan k f).round = d.round := rfl
@[simp] theorem modCan_result (k : Nat) (f : CanPort → CanPort) : (d.modCan k f).result = d.result := rfl
@[simp] theorem modCan_purse (k : Nat) (f : CanPort → CanPort) : (d.modCan k f).purse = d.purse := rfl
@[simp] theorem modCan_auxApplied (k : Nat) (f : CanPort → CanPort) : (d.modCan k f).auxApplied = d.auxApplied := rfl
@[simp] theorem modCan_outTels (k : Nat) (f : CanPort → CanPort) : (d.modCan k f).outTels = d.outTels := rfl
@[simp] theorem modCan_telWin (k : Nat) (f : CanPort → CanPort) : (d.modCan k f).telWin = d.telWin := rfl
@[simp] theorem modCan_arcDirty (k : Nat) (f : CanPort → CanPort) : (d.modCan k f).arcDirty = d.arcDirty := rfl
@[simp] theorem modCan_syncGood (k : Nat) (f : CanPort → CanPort) : (d.modCan k f).syncGood = d.syncGood := rfl
@[simp] theorem modCan_syncNear (k : Nat) (f : CanPort → CanPort) : (d.modCan k f).syncNear = d.syncNear := rfl
@[simp] theorem modCan_bow (k : Nat) (f : CanPort → CanPort) : (d.modCan k f).bow = d.bow := rfl
@[simp] theorem modCan_pluck (k : Nat) (f : CanPort → CanPort) : (d.modCan k f).pluck = d.pluck := rfl
@[simp] theorem modCan_shedAbort (k : Nat) (f : CanPort → CanPort) : (d.modCan k f).shedAbort = d.shedAbort := rfl
@[simp] theorem modCan_rejoin (k : Nat) (f : CanPort → CanPort) : (d.modCan k f).rejoin = d.rejoin := rfl
@[simp] theorem modCan_tally (k : Nat) (f : CanPort → CanPort) : (d.modCan k f).tally = d.tally := rfl
@[simp] theorem modCan_box (k : Nat) (f : CanPort → CanPort) : (d.modCan k f).box = d.box := rfl
@[simp] theorem modCan_links (k : Nat) (f : CanPort → CanPort) : (d.modCan k f).links = d.links := rfl
@[simp] theorem modCan_macs (k : Nat) (f : CanPort → CanPort) : (d.modCan k f).macs = d.macs := rfl
@[simp] theorem modCan_ckpts (k : Nat) (f : CanPort → CanPort) : (d.modCan k f).ckpts = d.ckpts := rfl
@[simp] theorem modCan_roots (k : Nat) (f : CanPort → CanPort) : (d.modCan k f).roots = d.roots := rfl
@[simp] theorem modCan_therm (k : Nat) (f : CanPort → CanPort) : (d.modCan k f).therm = d.therm := rfl
@[simp] theorem modCan_saf (k : Nat) (f : CanPort → CanPort) : (d.modCan k f).saf = d.saf := rfl
@[simp] theorem modCan_tab (k : Nat) (f : CanPort → CanPort) : (d.modCan k f).tab = d.tab := rfl
@[simp] theorem modCan_mem (k : Nat) (f : CanPort → CanPort) : (d.modCan k f).mem = d.mem := rfl
@[simp] theorem modCan_dup (k : Nat) (f : CanPort → CanPort) : (d.modCan k f).dup = d.dup := rfl
@[simp] theorem modCan_fab (k : Nat) (f : CanPort → CanPort) : (d.modCan k f).fab = d.fab := rfl
@[simp] theorem modCan_auxNext (k : Nat) (f : CanPort → CanPort) : (d.modCan k f).auxNext = d.auxNext := rfl
@[simp] theorem modCan_auxFaultAt (k : Nat) (f : CanPort → CanPort) : (d.modCan k f).auxFaultAt = d.auxFaultAt := rfl
@[simp] theorem modCan_hostNext (k : Nat) (f : CanPort → CanPort) : (d.modCan k f).hostNext = d.hostNext := rfl
@[simp] theorem modCan_jtag (k : Nat) (f : CanPort → CanPort) : (d.modCan k f).jtag = d.jtag := rfl

@[simp] theorem modPurse_regs (f : PurseCtx → PurseCtx) : (d.modPurse f).regs = d.regs := rfl
@[simp] theorem modPurse_sram (f : PurseCtx → PurseCtx) : (d.modPurse f).sram = d.sram := rfl
@[simp] theorem modPurse_flash (f : PurseCtx → PurseCtx) : (d.modPurse f).flash = d.flash := rfl
@[simp] theorem modPurse_running (f : PurseCtx → PurseCtx) : (d.modPurse f).running = d.running := rfl
@[simp] theorem modPurse_sealed (f : PurseCtx → PurseCtx) : (d.modPurse f).sealed = d.sealed := rfl
@[simp] theorem modPurse_now (f : PurseCtx → PurseCtx) : (d.modPurse f).now = d.now := rfl
@[simp] theorem modPurse_freeCtr (f : PurseCtx → PurseCtx) : (d.modPurse f).freeCtr = d.freeCtr := rfl
@[simp] theorem modPurse_emitted (f : PurseCtx → PurseCtx) : (d.modPurse f).emitted = d.emitted := rfl
@[simp] theorem modPurse_hiLatch (f : PurseCtx → PurseCtx) : (d.modPurse f).hiLatch = d.hiLatch := rfl
@[simp] theorem modPurse_bootsel (f : PurseCtx → PurseCtx) : (d.modPurse f).bootsel = d.bootsel := rfl
@[simp] theorem modPurse_testN (f : PurseCtx → PurseCtx) : (d.modPurse f).testN = d.testN := rfl
@[simp] theorem modPurse_resetLow (f : PurseCtx → PurseCtx) : (d.modPurse f).resetLow = d.resetLow := rfl
@[simp] theorem modPurse_internalCold (f : PurseCtx → PurseCtx) : (d.modPurse f).internalCold = d.internalCold := rfl
@[simp] theorem modPurse_warming (f : PurseCtx → PurseCtx) : (d.modPurse f).warming = d.warming := rfl
@[simp] theorem modPurse_safeFrom (f : PurseCtx → PurseCtx) : (d.modPurse f).safeFrom = d.safeFrom := rfl
@[simp] theorem modPurse_identDone (f : PurseCtx → PurseCtx) : (d.modPurse f).identDone = d.identDone := rfl
@[simp] theorem modPurse_recoveryDwell (f : PurseCtx → PurseCtx) : (d.modPurse f).recoveryDwell = d.recoveryDwell := rfl
@[simp] theorem modPurse_coldHold (f : PurseCtx → PurseCtx) : (d.modPurse f).coldHold = d.coldHold := rfl
@[simp] theorem modPurse_islandWanted (f : PurseCtx → PurseCtx) : (d.modPurse f).islandWanted = d.islandWanted := rfl
@[simp] theorem modPurse_txn (f : PurseCtx → PurseCtx) : (d.modPurse f).txn = d.txn := rfl
@[simp] theorem modPurse_nextHandle (f : PurseCtx → PurseCtx) : (d.modPurse f).nextHandle = d.nextHandle := rfl
@[simp] theorem modPurse_scheds (f : PurseCtx → PurseCtx) : (d.modPurse f).scheds = d.scheds := rfl
@[simp] theorem modPurse_locked (f : PurseCtx → PurseCtx) : (d.modPurse f).locked = d.locked := rfl
@[simp] theorem modPurse_sentUp (f : PurseCtx → PurseCtx) : (d.modPurse f).sentUp = d.sentUp := rfl
@[simp] theorem modPurse_preparing (f : PurseCtx → PurseCtx) : (d.modPurse f).preparing = d.preparing := rfl
@[simp] theorem modPurse_holding (f : PurseCtx → PurseCtx) : (d.modPurse f).holding = d.holding := rfl
@[simp] theorem modPurse_persistDue (f : PurseCtx → PurseCtx) : (d.modPurse f).persistDue = d.persistDue := rfl
@[simp] theorem modPurse_persisting (f : PurseCtx → PurseCtx) : (d.modPurse f).persisting = d.persisting := rfl
@[simp] theorem modPurse_pinned (f : PurseCtx → PurseCtx) : (d.modPurse f).pinned = d.pinned := rfl
@[simp] theorem modPurse_gb (f : PurseCtx → PurseCtx) : (d.modPurse f).gb = d.gb := rfl
@[simp] theorem modPurse_gbWait (f : PurseCtx → PurseCtx) : (d.modPurse f).gbWait = d.gbWait := rfl
@[simp] theorem modPurse_gbNext (f : PurseCtx → PurseCtx) : (d.modPurse f).gbNext = d.gbNext := rfl
@[simp] theorem modPurse_gbLast (f : PurseCtx → PurseCtx) : (d.modPurse f).gbLast = d.gbLast := rfl
@[simp] theorem modPurse_notifyDue (f : PurseCtx → PurseCtx) : (d.modPurse f).notifyDue = d.notifyDue := rfl
@[simp] theorem modPurse_lastNotify (f : PurseCtx → PurseCtx) : (d.modPurse f).lastNotify = d.lastNotify := rfl
@[simp] theorem modPurse_lastEv111 (f : PurseCtx → PurseCtx) : (d.modPurse f).lastEv111 = d.lastEv111 := rfl
@[simp] theorem modPurse_stage (f : PurseCtx → PurseCtx) : (d.modPurse f).stage = d.stage := rfl
@[simp] theorem modPurse_pghResult (f : PurseCtx → PurseCtx) : (d.modPurse f).pghResult = d.pghResult := rfl
@[simp] theorem modPurse_epochs (f : PurseCtx → PurseCtx) : (d.modPurse f).epochs = d.epochs := rfl
@[simp] theorem modPurse_kept (f : PurseCtx → PurseCtx) : (d.modPurse f).kept = d.kept := rfl
@[simp] theorem modPurse_spiFail (f : PurseCtx → PurseCtx) : (d.modPurse f).spiFail = d.spiFail := rfl
@[simp] theorem modPurse_nvm (f : PurseCtx → PurseCtx) : (d.modPurse f).nvm = d.nvm := rfl
@[simp] theorem modPurse_strs (f : PurseCtx → PurseCtx) : (d.modPurse f).strs = d.strs := rfl
@[simp] theorem modPurse_slots (f : PurseCtx → PurseCtx) : (d.modPurse f).slots = d.slots := rfl
@[simp] theorem modPurse_outs (f : PurseCtx → PurseCtx) : (d.modPurse f).outs = d.outs := rfl
@[simp] theorem modPurse_courses (f : PurseCtx → PurseCtx) : (d.modPurse f).courses = d.courses := rfl
@[simp] theorem modPurse_tieCmd (f : PurseCtx → PurseCtx) : (d.modPurse f).tieCmd = d.tieCmd := rfl
@[simp] theorem modPurse_round (f : PurseCtx → PurseCtx) : (d.modPurse f).round = d.round := rfl
@[simp] theorem modPurse_result (f : PurseCtx → PurseCtx) : (d.modPurse f).result = d.result := rfl
@[simp] theorem modPurse_cans (f : PurseCtx → PurseCtx) : (d.modPurse f).cans = d.cans := rfl
@[simp] theorem modPurse_auxApplied (f : PurseCtx → PurseCtx) : (d.modPurse f).auxApplied = d.auxApplied := rfl
@[simp] theorem modPurse_outTels (f : PurseCtx → PurseCtx) : (d.modPurse f).outTels = d.outTels := rfl
@[simp] theorem modPurse_telWin (f : PurseCtx → PurseCtx) : (d.modPurse f).telWin = d.telWin := rfl
@[simp] theorem modPurse_arcDirty (f : PurseCtx → PurseCtx) : (d.modPurse f).arcDirty = d.arcDirty := rfl
@[simp] theorem modPurse_syncGood (f : PurseCtx → PurseCtx) : (d.modPurse f).syncGood = d.syncGood := rfl
@[simp] theorem modPurse_syncNear (f : PurseCtx → PurseCtx) : (d.modPurse f).syncNear = d.syncNear := rfl
@[simp] theorem modPurse_bow (f : PurseCtx → PurseCtx) : (d.modPurse f).bow = d.bow := rfl
@[simp] theorem modPurse_pluck (f : PurseCtx → PurseCtx) : (d.modPurse f).pluck = d.pluck := rfl
@[simp] theorem modPurse_shedAbort (f : PurseCtx → PurseCtx) : (d.modPurse f).shedAbort = d.shedAbort := rfl
@[simp] theorem modPurse_rejoin (f : PurseCtx → PurseCtx) : (d.modPurse f).rejoin = d.rejoin := rfl
@[simp] theorem modPurse_tally (f : PurseCtx → PurseCtx) : (d.modPurse f).tally = d.tally := rfl
@[simp] theorem modPurse_box (f : PurseCtx → PurseCtx) : (d.modPurse f).box = d.box := rfl
@[simp] theorem modPurse_links (f : PurseCtx → PurseCtx) : (d.modPurse f).links = d.links := rfl
@[simp] theorem modPurse_macs (f : PurseCtx → PurseCtx) : (d.modPurse f).macs = d.macs := rfl
@[simp] theorem modPurse_ckpts (f : PurseCtx → PurseCtx) : (d.modPurse f).ckpts = d.ckpts := rfl
@[simp] theorem modPurse_roots (f : PurseCtx → PurseCtx) : (d.modPurse f).roots = d.roots := rfl
@[simp] theorem modPurse_therm (f : PurseCtx → PurseCtx) : (d.modPurse f).therm = d.therm := rfl
@[simp] theorem modPurse_saf (f : PurseCtx → PurseCtx) : (d.modPurse f).saf = d.saf := rfl
@[simp] theorem modPurse_tab (f : PurseCtx → PurseCtx) : (d.modPurse f).tab = d.tab := rfl
@[simp] theorem modPurse_mem (f : PurseCtx → PurseCtx) : (d.modPurse f).mem = d.mem := rfl
@[simp] theorem modPurse_dup (f : PurseCtx → PurseCtx) : (d.modPurse f).dup = d.dup := rfl
@[simp] theorem modPurse_fab (f : PurseCtx → PurseCtx) : (d.modPurse f).fab = d.fab := rfl
@[simp] theorem modPurse_auxNext (f : PurseCtx → PurseCtx) : (d.modPurse f).auxNext = d.auxNext := rfl
@[simp] theorem modPurse_auxFaultAt (f : PurseCtx → PurseCtx) : (d.modPurse f).auxFaultAt = d.auxFaultAt := rfl
@[simp] theorem modPurse_hostNext (f : PurseCtx → PurseCtx) : (d.modPurse f).hostNext = d.hostNext := rfl
@[simp] theorem modPurse_jtag (f : PurseCtx → PurseCtx) : (d.modPurse f).jtag = d.jtag := rfl

@[simp] theorem emit_regs (m : Msg) : (d.emit m).regs = d.regs := rfl
@[simp] theorem emit_sram (m : Msg) : (d.emit m).sram = d.sram := rfl
@[simp] theorem emit_flash (m : Msg) : (d.emit m).flash = d.flash := rfl
@[simp] theorem emit_running (m : Msg) : (d.emit m).running = d.running := rfl
@[simp] theorem emit_sealed (m : Msg) : (d.emit m).sealed = d.sealed := rfl
@[simp] theorem emit_now (m : Msg) : (d.emit m).now = d.now := rfl
@[simp] theorem emit_freeCtr (m : Msg) : (d.emit m).freeCtr = d.freeCtr := rfl
@[simp] theorem emit_hiLatch (m : Msg) : (d.emit m).hiLatch = d.hiLatch := rfl
@[simp] theorem emit_bootsel (m : Msg) : (d.emit m).bootsel = d.bootsel := rfl
@[simp] theorem emit_testN (m : Msg) : (d.emit m).testN = d.testN := rfl
@[simp] theorem emit_resetLow (m : Msg) : (d.emit m).resetLow = d.resetLow := rfl
@[simp] theorem emit_internalCold (m : Msg) : (d.emit m).internalCold = d.internalCold := rfl
@[simp] theorem emit_warming (m : Msg) : (d.emit m).warming = d.warming := rfl
@[simp] theorem emit_safeFrom (m : Msg) : (d.emit m).safeFrom = d.safeFrom := rfl
@[simp] theorem emit_identDone (m : Msg) : (d.emit m).identDone = d.identDone := rfl
@[simp] theorem emit_recoveryDwell (m : Msg) : (d.emit m).recoveryDwell = d.recoveryDwell := rfl
@[simp] theorem emit_coldHold (m : Msg) : (d.emit m).coldHold = d.coldHold := rfl
@[simp] theorem emit_islandWanted (m : Msg) : (d.emit m).islandWanted = d.islandWanted := rfl
@[simp] theorem emit_txn (m : Msg) : (d.emit m).txn = d.txn := rfl
@[simp] theorem emit_nextHandle (m : Msg) : (d.emit m).nextHandle = d.nextHandle := rfl
@[simp] theorem emit_scheds (m : Msg) : (d.emit m).scheds = d.scheds := rfl
@[simp] theorem emit_locked (m : Msg) : (d.emit m).locked = d.locked := rfl
@[simp] theorem emit_sentUp (m : Msg) : (d.emit m).sentUp = d.sentUp := rfl
@[simp] theorem emit_preparing (m : Msg) : (d.emit m).preparing = d.preparing := rfl
@[simp] theorem emit_holding (m : Msg) : (d.emit m).holding = d.holding := rfl
@[simp] theorem emit_persistDue (m : Msg) : (d.emit m).persistDue = d.persistDue := rfl
@[simp] theorem emit_persisting (m : Msg) : (d.emit m).persisting = d.persisting := rfl
@[simp] theorem emit_pinned (m : Msg) : (d.emit m).pinned = d.pinned := rfl
@[simp] theorem emit_gb (m : Msg) : (d.emit m).gb = d.gb := rfl
@[simp] theorem emit_gbWait (m : Msg) : (d.emit m).gbWait = d.gbWait := rfl
@[simp] theorem emit_gbNext (m : Msg) : (d.emit m).gbNext = d.gbNext := rfl
@[simp] theorem emit_gbLast (m : Msg) : (d.emit m).gbLast = d.gbLast := rfl
@[simp] theorem emit_notifyDue (m : Msg) : (d.emit m).notifyDue = d.notifyDue := rfl
@[simp] theorem emit_lastNotify (m : Msg) : (d.emit m).lastNotify = d.lastNotify := rfl
@[simp] theorem emit_lastEv111 (m : Msg) : (d.emit m).lastEv111 = d.lastEv111 := rfl
@[simp] theorem emit_stage (m : Msg) : (d.emit m).stage = d.stage := rfl
@[simp] theorem emit_pghResult (m : Msg) : (d.emit m).pghResult = d.pghResult := rfl
@[simp] theorem emit_epochs (m : Msg) : (d.emit m).epochs = d.epochs := rfl
@[simp] theorem emit_kept (m : Msg) : (d.emit m).kept = d.kept := rfl
@[simp] theorem emit_spiFail (m : Msg) : (d.emit m).spiFail = d.spiFail := rfl
@[simp] theorem emit_nvm (m : Msg) : (d.emit m).nvm = d.nvm := rfl
@[simp] theorem emit_strs (m : Msg) : (d.emit m).strs = d.strs := rfl
@[simp] theorem emit_slots (m : Msg) : (d.emit m).slots = d.slots := rfl
@[simp] theorem emit_outs (m : Msg) : (d.emit m).outs = d.outs := rfl
@[simp] theorem emit_courses (m : Msg) : (d.emit m).courses = d.courses := rfl
@[simp] theorem emit_tieCmd (m : Msg) : (d.emit m).tieCmd = d.tieCmd := rfl
@[simp] theorem emit_round (m : Msg) : (d.emit m).round = d.round := rfl
@[simp] theorem emit_result (m : Msg) : (d.emit m).result = d.result := rfl
@[simp] theorem emit_purse (m : Msg) : (d.emit m).purse = d.purse := rfl
@[simp] theorem emit_cans (m : Msg) : (d.emit m).cans = d.cans := rfl
@[simp] theorem emit_auxApplied (m : Msg) : (d.emit m).auxApplied = d.auxApplied := rfl
@[simp] theorem emit_outTels (m : Msg) : (d.emit m).outTels = d.outTels := rfl
@[simp] theorem emit_telWin (m : Msg) : (d.emit m).telWin = d.telWin := rfl
@[simp] theorem emit_arcDirty (m : Msg) : (d.emit m).arcDirty = d.arcDirty := rfl
@[simp] theorem emit_syncGood (m : Msg) : (d.emit m).syncGood = d.syncGood := rfl
@[simp] theorem emit_syncNear (m : Msg) : (d.emit m).syncNear = d.syncNear := rfl
@[simp] theorem emit_bow (m : Msg) : (d.emit m).bow = d.bow := rfl
@[simp] theorem emit_pluck (m : Msg) : (d.emit m).pluck = d.pluck := rfl
@[simp] theorem emit_shedAbort (m : Msg) : (d.emit m).shedAbort = d.shedAbort := rfl
@[simp] theorem emit_rejoin (m : Msg) : (d.emit m).rejoin = d.rejoin := rfl
@[simp] theorem emit_tally (m : Msg) : (d.emit m).tally = d.tally := rfl
@[simp] theorem emit_box (m : Msg) : (d.emit m).box = d.box := rfl
@[simp] theorem emit_links (m : Msg) : (d.emit m).links = d.links := rfl
@[simp] theorem emit_macs (m : Msg) : (d.emit m).macs = d.macs := rfl
@[simp] theorem emit_ckpts (m : Msg) : (d.emit m).ckpts = d.ckpts := rfl
@[simp] theorem emit_roots (m : Msg) : (d.emit m).roots = d.roots := rfl
@[simp] theorem emit_therm (m : Msg) : (d.emit m).therm = d.therm := rfl
@[simp] theorem emit_saf (m : Msg) : (d.emit m).saf = d.saf := rfl
@[simp] theorem emit_tab (m : Msg) : (d.emit m).tab = d.tab := rfl
@[simp] theorem emit_mem (m : Msg) : (d.emit m).mem = d.mem := rfl
@[simp] theorem emit_dup (m : Msg) : (d.emit m).dup = d.dup := rfl
@[simp] theorem emit_fab (m : Msg) : (d.emit m).fab = d.fab := rfl
@[simp] theorem emit_auxNext (m : Msg) : (d.emit m).auxNext = d.auxNext := rfl
@[simp] theorem emit_auxFaultAt (m : Msg) : (d.emit m).auxFaultAt = d.auxFaultAt := rfl
@[simp] theorem emit_hostNext (m : Msg) : (d.emit m).hostNext = d.hostNext := rfl
@[simp] theorem emit_jtag (m : Msg) : (d.emit m).jtag = d.jtag := rfl

@[simp] theorem begin_regs : (d.begin).regs = d.regs := rfl
@[simp] theorem begin_sram : (d.begin).sram = d.sram := rfl
@[simp] theorem begin_flash : (d.begin).flash = d.flash := rfl
@[simp] theorem begin_running : (d.begin).running = d.running := rfl
@[simp] theorem begin_sealed : (d.begin).sealed = d.sealed := rfl
@[simp] theorem begin_now : (d.begin).now = d.now := rfl
@[simp] theorem begin_freeCtr : (d.begin).freeCtr = d.freeCtr := rfl
@[simp] theorem begin_hiLatch : (d.begin).hiLatch = d.hiLatch := rfl
@[simp] theorem begin_bootsel : (d.begin).bootsel = d.bootsel := rfl
@[simp] theorem begin_testN : (d.begin).testN = d.testN := rfl
@[simp] theorem begin_resetLow : (d.begin).resetLow = d.resetLow := rfl
@[simp] theorem begin_internalCold : (d.begin).internalCold = d.internalCold := rfl
@[simp] theorem begin_warming : (d.begin).warming = d.warming := rfl
@[simp] theorem begin_safeFrom : (d.begin).safeFrom = d.safeFrom := rfl
@[simp] theorem begin_identDone : (d.begin).identDone = d.identDone := rfl
@[simp] theorem begin_recoveryDwell : (d.begin).recoveryDwell = d.recoveryDwell := rfl
@[simp] theorem begin_coldHold : (d.begin).coldHold = d.coldHold := rfl
@[simp] theorem begin_islandWanted : (d.begin).islandWanted = d.islandWanted := rfl
@[simp] theorem begin_txn : (d.begin).txn = d.txn := rfl
@[simp] theorem begin_nextHandle : (d.begin).nextHandle = d.nextHandle := rfl
@[simp] theorem begin_scheds : (d.begin).scheds = d.scheds := rfl
@[simp] theorem begin_locked : (d.begin).locked = d.locked := rfl
@[simp] theorem begin_sentUp : (d.begin).sentUp = d.sentUp := rfl
@[simp] theorem begin_preparing : (d.begin).preparing = d.preparing := rfl
@[simp] theorem begin_holding : (d.begin).holding = d.holding := rfl
@[simp] theorem begin_persistDue : (d.begin).persistDue = d.persistDue := rfl
@[simp] theorem begin_persisting : (d.begin).persisting = d.persisting := rfl
@[simp] theorem begin_pinned : (d.begin).pinned = d.pinned := rfl
@[simp] theorem begin_gb : (d.begin).gb = d.gb := rfl
@[simp] theorem begin_gbWait : (d.begin).gbWait = d.gbWait := rfl
@[simp] theorem begin_gbNext : (d.begin).gbNext = d.gbNext := rfl
@[simp] theorem begin_gbLast : (d.begin).gbLast = d.gbLast := rfl
@[simp] theorem begin_notifyDue : (d.begin).notifyDue = d.notifyDue := rfl
@[simp] theorem begin_lastNotify : (d.begin).lastNotify = d.lastNotify := rfl
@[simp] theorem begin_lastEv111 : (d.begin).lastEv111 = d.lastEv111 := rfl
@[simp] theorem begin_stage : (d.begin).stage = d.stage := rfl
@[simp] theorem begin_pghResult : (d.begin).pghResult = d.pghResult := rfl
@[simp] theorem begin_epochs : (d.begin).epochs = d.epochs := rfl
@[simp] theorem begin_kept : (d.begin).kept = d.kept := rfl
@[simp] theorem begin_spiFail : (d.begin).spiFail = d.spiFail := rfl
@[simp] theorem begin_nvm : (d.begin).nvm = d.nvm := rfl
@[simp] theorem begin_strs : (d.begin).strs = d.strs := rfl
@[simp] theorem begin_slots : (d.begin).slots = d.slots := rfl
@[simp] theorem begin_outs : (d.begin).outs = d.outs := rfl
@[simp] theorem begin_courses : (d.begin).courses = d.courses := rfl
@[simp] theorem begin_tieCmd : (d.begin).tieCmd = d.tieCmd := rfl
@[simp] theorem begin_round : (d.begin).round = d.round := rfl
@[simp] theorem begin_result : (d.begin).result = d.result := rfl
@[simp] theorem begin_purse : (d.begin).purse = d.purse := rfl
@[simp] theorem begin_cans : (d.begin).cans = d.cans := rfl
@[simp] theorem begin_auxApplied : (d.begin).auxApplied = d.auxApplied := rfl
@[simp] theorem begin_outTels : (d.begin).outTels = d.outTels := rfl
@[simp] theorem begin_telWin : (d.begin).telWin = d.telWin := rfl
@[simp] theorem begin_arcDirty : (d.begin).arcDirty = d.arcDirty := rfl
@[simp] theorem begin_syncGood : (d.begin).syncGood = d.syncGood := rfl
@[simp] theorem begin_syncNear : (d.begin).syncNear = d.syncNear := rfl
@[simp] theorem begin_bow : (d.begin).bow = d.bow := rfl
@[simp] theorem begin_pluck : (d.begin).pluck = d.pluck := rfl
@[simp] theorem begin_shedAbort : (d.begin).shedAbort = d.shedAbort := rfl
@[simp] theorem begin_rejoin : (d.begin).rejoin = d.rejoin := rfl
@[simp] theorem begin_tally : (d.begin).tally = d.tally := rfl
@[simp] theorem begin_box : (d.begin).box = d.box := rfl
@[simp] theorem begin_links : (d.begin).links = d.links := rfl
@[simp] theorem begin_macs : (d.begin).macs = d.macs := rfl
@[simp] theorem begin_ckpts : (d.begin).ckpts = d.ckpts := rfl
@[simp] theorem begin_roots : (d.begin).roots = d.roots := rfl
@[simp] theorem begin_therm : (d.begin).therm = d.therm := rfl
@[simp] theorem begin_saf : (d.begin).saf = d.saf := rfl
@[simp] theorem begin_tab : (d.begin).tab = d.tab := rfl
@[simp] theorem begin_mem : (d.begin).mem = d.mem := rfl
@[simp] theorem begin_dup : (d.begin).dup = d.dup := rfl
@[simp] theorem begin_fab : (d.begin).fab = d.fab := rfl
@[simp] theorem begin_auxNext : (d.begin).auxNext = d.auxNext := rfl
@[simp] theorem begin_auxFaultAt : (d.begin).auxFaultAt = d.auxFaultAt := rfl
@[simp] theorem begin_hostNext : (d.begin).hostNext = d.hostNext := rfl
@[simp] theorem begin_jtag : (d.begin).jtag = d.jtag := rfl

end Sys2Proof.Laws
end

