-- ==== Sys2Proof/Laws/Registers.lean ====
section
/-! SUPPORT. Register fields: a read after a write, and the operations that leave every register alone. -/

namespace Sys2Proof.Laws

open Sys2Proof.Machine

variable (d : Dev)

/-! ### A read after a write -/

theorem get_set_same (f : Fld) (v : Nat) : (d.set f v).get f = v % 2 ^ f.width := by
  simp [Dev.get, Dev.set]

theorem get_set_other {f g : Fld} (v : Nat) (h : f.key ≠ g.key) : (d.set g v).get f = d.get f := by
  simp [Dev.get, Dev.set, tget_tput_other _ _ _ h]

theorem get_set (f g : Fld) (v : Nat) :
    (d.set g v).get f = if f.key = g.key then v % 2 ^ g.width else d.get f := by
  by_cases h : f.key = g.key <;> simp [Dev.get, Dev.set, tget_tput, h]

/-- The raw read of a key after a write. -/
theorem reg_set (k : Nat) (g : Fld) (v : Nat) :
    tget 0 (d.set g v).regs k = if k = g.key then v % 2 ^ g.width else tget 0 d.regs k := by
  simp [Dev.set, tget_tput]

theorem reg_set_other {k : Nat} {g : Fld} (v : Nat) (h : k ≠ g.key) : tget 0 (d.set g v).regs k = tget 0 d.regs k := by
  simp [reg_set, h]

/-! ### Updates that leave every register alone -/

@[simp] theorem get_setStr (f : Fld) (s : Nat) (x : StrCtx) : (d.setStr s x).get f = d.get f := rfl
@[simp] theorem get_setSlot (f : Fld) (i : Nat) (x : SlotCtx) : (d.setSlot i x).get f = d.get f := rfl
@[simp] theorem get_setOut (f : Fld) (n : Nat) (x : OutCtx) : (d.setOut n x).get f = d.get f := rfl
@[simp] theorem get_setCourse (f : Fld) (c : Nat) (x : CourseCtx) : (d.setCourse c x).get f = d.get f := rfl
@[simp] theorem get_modStr (f : Fld) (s : Nat) (g : StrCtx → StrCtx) : (d.modStr s g).get f = d.get f := rfl
@[simp] theorem get_modSlot (f : Fld) (i : Nat) (g : SlotCtx → SlotCtx) : (d.modSlot i g).get f = d.get f := rfl
@[simp] theorem get_modOut (f : Fld) (n : Nat) (g : OutCtx → OutCtx) : (d.modOut n g).get f = d.get f := rfl
@[simp] theorem get_modCourse (f : Fld) (c : Nat) (g : CourseCtx → CourseCtx) : (d.modCourse c g).get f = d.get f := rfl
@[simp] theorem get_modCan (f : Fld) (k : Nat) (g : CanPort → CanPort) : (d.modCan k g).get f = d.get f := rfl
@[simp] theorem get_modPurse (f : Fld) (g : PurseCtx → PurseCtx) : (d.modPurse g).get f = d.get f := rfl
@[simp] theorem get_emit (f : Fld) (m : Msg) : (d.emit m).get f = d.get f := rfl
@[simp] theorem get_begin (f : Fld) : d.begin.get f = d.get f := rfl
@[simp] theorem emitted_begin : d.begin.emitted = [] := rfl
@[simp] theorem emitted_emit (m : Msg) : (d.emit m).emitted = d.emitted ++ [m] := rfl

/-! ### Contexts: a read after a write -/

@[simp] theorem str_setStr_same (s : Nat) (x : StrCtx) : (d.setStr s x).str s = x := by simp [Dev.str, Dev.setStr]
@[simp] theorem out_setOut_same (n : Nat) (x : OutCtx) : (d.setOut n x).out n = x := by simp [Dev.out, Dev.setOut]
@[simp] theorem slot_setSlot_same (i : Nat) (x : SlotCtx) : (d.setSlot i x).slot i = x := by simp [Dev.slot, Dev.setSlot]
@[simp] theorem course_setCourse_same (c : Nat) (x : CourseCtx) : (d.setCourse c x).course c = x := by
  simp [Dev.course, Dev.setCourse]

theorem str_setStr_other {s r : Nat} (x : StrCtx) (h : r ≠ s) : (d.setStr s x).str r = d.str r := by
  simp [Dev.str, Dev.setStr, tget_tput_other _ _ _ h]

theorem out_setOut_other {n m : Nat} (x : OutCtx) (h : m ≠ n) : (d.setOut n x).out m = d.out m := by
  simp [Dev.out, Dev.setOut, tget_tput_other _ _ _ h]

/-! ### Bits -/

theorem testBit_withBit_same (v i : Nat) (b : Bool) : (withBit v i b).testBit i = b := by
  unfold withBit
  split
  · assumption
  · next h =>
    cases b with
    | true =>
      have hv : v.testBit i = false := by simpa using h
      rw [if_pos rfl, Nat.add_comm, Nat.testBit_two_pow_add_eq, hv]; rfl
    | false =>
      have hv : v.testBit i = true := by simpa using h
      have hle : 2 ^ i ≤ v := Nat.ge_two_pow_of_testBit hv
      have := Nat.testBit_two_pow_add_eq (v - 2 ^ i) i
      rw [Nat.add_sub_cancel' hle, hv] at this
      simpa using this.symm

end Sys2Proof.Laws
end

