-- ==== Sys2Proof/Laws/Events.lean ====
section
/-! SUPPORT. Raising an event: which registers it writes, that its raw bit is set, and what it leaves alone. -/

namespace Sys2Proof.Laws

open Sys2Proof.Machine

/-- Setting a clear bit leaves the other bits alone. -/
theorem testBit_add_two_pow {i : Nat} : ∀ {u j : Nat}, u.testBit i = false → j ≠ i → (u + 2 ^ i).testBit j = u.testBit j := by
  induction i with
  | zero =>
    intro u j hu hj
    obtain ⟨j, rfl⟩ := Nat.exists_eq_succ_of_ne_zero hj
    have : u % 2 = 0 := by simp [Nat.testBit_zero] at hu; omega
    simp only [Nat.pow_zero, Nat.succ_eq_add_one, Nat.testBit_succ]
    congr 1; omega
  | succ i ih =>
    intro u j hu hj
    cases j with
    | zero => simp [Nat.testBit_zero, Nat.pow_succ, Nat.add_mul_mod_self_right]
    | succ j =>
      simp only [Nat.testBit_succ] at hu ⊢
      have : (u + 2 ^ (i + 1)) / 2 = u / 2 + 2 ^ i := by rw [Nat.pow_succ]; omega
      rw [this]
      exact ih hu (by omega)

theorem testBit_withBit_other {v i j : Nat} (b : Bool) (h : j ≠ i) : (withBit v i b).testBit j = v.testBit j := by
  unfold withBit
  split
  · rfl
  · next hne =>
    cases b with
    | true => exact testBit_add_two_pow (by simpa using hne) h
    | false =>
      have hv : v.testBit i = true := by simpa using hne
      have hle : 2 ^ i ≤ v := Nat.ge_two_pow_of_testBit hv
      have h0 : (v - 2 ^ i).testBit i = false := by
        have := Nat.testBit_two_pow_add_eq (v - 2 ^ i) i
        rw [Nat.add_sub_cancel' hle, hv] at this
        simpa using this.symm
      have := testBit_add_two_pow h0 h
      rw [Nat.sub_add_cancel hle] at this
      simpa using this.symm

variable (d : Dev)

theorem bit_setBit_same {f : Fld} {i : Nat} (b : Bool) (h : i < f.width) : (d.setBit f i b).bit f i = b := by
  simp [Dev.bit, Dev.setBit, get_set_same, Nat.testBit_mod_two_pow, h, testBit_withBit_same]

theorem bit_setBit_other {f : Fld} {i j : Nat} (b : Bool) (h : j ≠ i) (hj : j < f.width) :
    (d.setBit f i b).bit f j = d.bit f j := by
  simp [Dev.bit, Dev.setBit, get_set_same, Nat.testBit_mod_two_pow, hj, testBit_withBit_other b h]

theorem get_setBit_other {f g : Fld} {i : Nat} (b : Bool) (h : g.key ≠ f.key) : (d.setBit f i b).get g = d.get g :=
  get_set_other _ _ h

/-! ### Raising an event -/

/-- Every register outside `p` reads the same in both devices. -/
def Agree (p : Nat → Bool) (d d' : Dev) : Prop := ∀ k, p k = false → tget 0 d'.regs k = tget 0 d.regs k

theorem Agree.refl (p : Nat → Bool) (d : Dev) : Agree p d d := fun _ _ => rfl

theorem Agree.trans {p : Nat → Bool} {a b c : Dev} (h : Agree p a b) (h' : Agree p b c) : Agree p a c :=
  fun k hk => (h' k hk).trans (h k hk)

theorem Agree.set {p : Nat → Bool} (d : Dev) (f : Fld) (v : Nat) (hf : p f.key = true) : Agree p d (d.set f v) := by
  intro k hk
  exact reg_set_other d v (fun h => by rw [h, hf] at hk; cases hk)

theorem Agree.of_regs {p : Nat → Bool} {d d' : Dev} (h : d'.regs = d.regs) : Agree p d d' := fun _ _ => by rw [h]

theorem Agree.get {p : Nat → Bool} {d d' : Dev} (h : Agree p d d') {f : Fld} (hf : p f.key = false) : d'.get f = d.get f :=
  h _ hf

theorem Agree.forAll {p : Nat → Bool} (n : Nat) (d : Dev) (f : Dev → Nat → Dev)
    (h : ∀ i < n, ∀ d, Agree p d (f d i)) : Agree p d (forAll n d f) := by
  unfold Machine.forAll
  have : ∀ (l : List Nat), (∀ i ∈ l, i < n) → ∀ d, Agree p d (l.foldl f d) := by
    intro l
    induction l with
    | nil => intro _ d; exact Agree.refl p d
    | cons i rest ih =>
      intro hl d
      exact (h i (hl i (by simp)) d).trans (ih (fun j hj => hl j (by simp [hj])) (f d i))
  exact this _ (fun i hi => List.mem_range.1 hi) d

theorem regs_emit (m : Msg) : (d.emit m).regs = d.regs := rfl

theorem regs_gbQueue (n : Nat) (g : GbEntry) : (d.gbQueue n g).regs = d.regs := by
  unfold Dev.gbQueue
  split
  · rfl
  · by_cases h : Config.guestbookOverflow d.freeCtr = true <;> simp [Dev.free, h]

theorem regs_record (e det : Nat) : (d.record e det).regs = d.regs := by
  unfold Dev.record
  simp only
  split
  · rw [regs_gbQueue]
  · split
    · exact regs_gbQueue _ _ _
    · rw [regs_gbQueue]

theorem eventKey_pigeonhole {k : Nat} (h : 0x40020200 ≤ k / 32 ∧ k / 32 < 0x40020400 ∧ (k / 32 % 16 = 4 ∨ k / 32 % 16 = 8)) :
    eventKey k = true := by
  simp only [eventKey, decide_eq_true h, Bool.or_true, Bool.true_or]

theorem eventKey_payload {k : Nat} (h : 0x40021000 ≤ k / 32 ∧ k / 32 < 0x40023000) : eventKey k = true := by
  simp only [eventKey, decide_eq_true h, Bool.or_true, Bool.true_or]

theorem agree_pghFill {h : Nat} (hh : h < 32) (agent addr epoch : Nat) (payload : List Byte) :
    Agree eventKey d (d.pghFill h agent addr epoch payload) := by
  unfold Dev.pghFill
  refine Agree.trans ?_ (Agree.forAll 64 _ _ ?_)
  · repeat first
      | exact Agree.refl _ _
      | refine Agree.trans ?_ (Agree.set _ _ _ ?_)
    all_goals
      apply eventKey_pigeonhole
      simp only [Reg.PGH_EPOCH_RCV, Reg.PGH_EPOCH_SND, Reg.PGH_STAT_LEN, Reg.PGH_STAT_SNDADDR, Reg.PGH_STAT_SNDAGENT,
        Reg.PGH_STAT_RCV_EPOCH_CHANGED, Reg.PGH_STAT_STALE, Reg.PGH_STAT_STATE]
      omega
  · intro i hi d
    refine Agree.set _ _ _ (eventKey_payload ?_)
    simp only [Reg.PGH_DATA_DATA]
    omega

theorem eventKey_raw {e : Nat} (h : e < 128) : eventKey (Reg.EVT_RAW_BITS (e / 32)).key = true := by
  simp [eventKey, Reg.EVT_RAW_BITS]; omega

theorem eventKey_cause {e : Nat} {f : Fld} {j : Nat} (h : causeBit e = some (f, j)) : eventKey f.key = true := by
  unfold causeBit at h
  repeat' split at h
  all_goals simp at h
  all_goals obtain ⟨rfl, _⟩ := h
  all_goals simp [eventKey]

theorem agree_setCause (e : Nat) : Agree eventKey d (d.setCause e) := by
  unfold Dev.setCause
  split
  · next f j hc => exact Agree.set _ _ _ (eventKey_cause hc)
  · exact Agree.refl _ _

theorem regs_routeOut (e : Nat) : (d.routeOut e).regs = d.regs := by
  unfold Dev.routeOut
  simp only
  split <;> split <;> rfl

/-- Raising an event writes only the registers of `eventKey`. -/
theorem agree_raiseN (fuel : Nat) : ∀ (d : Dev) (e det : Nat), e < 128 → Agree eventKey d (Dev.raiseN fuel d e det) := by
  induction fuel with
  | zero => intro d e det _; exact Agree.refl _ _
  | succ fuel ih =>
    intro d e det he
    unfold Dev.raiseN
    simp only
    have h12 : Agree eventKey d (((d.setCause e).setBit (Reg.EVT_RAW_BITS (e / 32)) (e % 32) true).record e det) :=
      (agree_setCause d e).trans ((Agree.set _ _ _ (eventKey_raw he)).trans (Agree.of_regs (regs_record _ _ _)))
    revert h12
    generalize Dev.record _ e det = d1
    intro h12
    split
    · exact h12
    · refine h12.trans ((Agree.of_regs (regs_routeOut d1 e)).trans ?_)
      generalize d1.routeOut e = d3
      have hb : d3.get (Reg.EVT_ROUTE_BELLPGH e) % 32 < 32 := Nat.mod_lt _ (by omega)
      split
      · split
        · refine (agree_pghFill d3 hb 13 0 0 []).trans ?_
          generalize d3.pghFill _ 13 0 0 [] = d4
          split
          · exact ih _ _ _ (by omega)
          · exact Agree.of_regs (regs_emit d4 _)
        · exact Agree.set _ _ _ (by simp [eventKey, Reg.EVT_MISC_BELLMISS])
      · exact Agree.refl _ _

theorem agree_raise {e : Nat} (det : Nat) (he : e < 128) : Agree eventKey d (d.raise e det) := agree_raiseN 40 d e det he

/-- A register that no event writes reads as before. -/
theorem get_raise {e : Nat} (det : Nat) (he : e < 128) {f : Fld} (hf : eventKey f.key = false) :
    (d.raise e det).get f = d.get f := (agree_raise d det he).get hf

theorem raw_of_regs {d d' : Dev} (h : d'.regs = d.regs) (e : Nat) : Dev.raw d' e = Dev.raw d e := by
  simp [Dev.raw, Dev.bit, Dev.get, h]

theorem raw_set {f : Fld} (v : Nat) {e : Nat} (h : (Reg.EVT_RAW_BITS (e / 32)).key ≠ f.key) :
    Dev.raw (d.set f v) e = Dev.raw d e := by
  simp [Dev.raw, Dev.bit, get_set_other d v h]

theorem raw_setCause {e0 : Nat} (e : Nat) (he : e0 < 128) : Dev.raw (d.setCause e) e0 = Dev.raw d e0 := by
  unfold Dev.setCause
  split
  · next f j hc =>
    refine raw_set _ _ ?_
    unfold causeBit at hc
    repeat' split at hc
    all_goals simp at hc
    all_goals obtain ⟨rfl, _⟩ := hc
    all_goals simp only [Reg.EVT_RAW_BITS, Reg.MEM_EVCAUSE_CAUSE, Reg.THM_EVCAUSE_CAUSE, Reg.TAL_EVCAUSE_CAUSE, Reg.SAF_EVCAUSE_CAUSE, Reg.DUP_EVCAUSE_CAUSE, Reg.FAB_EVCAUSE_CAUSE, Reg.PWR_EVCAUSE_CAUSE]
    all_goals omega
  · rfl

theorem raw_forAll (n e0 : Nat) (d : Dev) (f : Dev → Nat → Dev) (h : ∀ i < n, ∀ d, Dev.raw (f d i) e0 = Dev.raw d e0) :
    Dev.raw (forAll n d f) e0 = Dev.raw d e0 := by
  unfold Machine.forAll
  have : ∀ (l : List Nat), (∀ i ∈ l, i < n) → ∀ d, Dev.raw (l.foldl f d) e0 = Dev.raw d e0 := by
    intro l
    induction l with
    | nil => intro _ d; rfl
    | cons i rest ih => intro hl d; exact (ih (fun j hj => hl j (by simp [hj])) (f d i)).trans (h i (hl i (by simp)) d)
  exact this _ (fun i hi => List.mem_range.1 hi) d

theorem raw_pghFill {e0 : Nat} (he : e0 < 128) (h agent addr epoch : Nat) (payload : List Byte) :
    Dev.raw (d.pghFill h agent addr epoch payload) e0 = Dev.raw d e0 := by
  unfold Dev.pghFill
  rw [raw_forAll 64 e0]
  · repeat rw [raw_set]
    all_goals simp only [Reg.PGH_EPOCH_RCV, Reg.PGH_EPOCH_SND, Reg.PGH_STAT_LEN, Reg.PGH_STAT_SNDADDR, Reg.PGH_STAT_SNDAGENT,
        Reg.PGH_STAT_RCV_EPOCH_CHANGED, Reg.PGH_STAT_STALE, Reg.PGH_STAT_STATE, Reg.EVT_RAW_BITS]
    all_goals omega
  · intro i hi d
    rw [raw_set]
    simp only [Reg.PGH_DATA_DATA, Reg.EVT_RAW_BITS]
    omega

theorem raw_own {e : Nat} : Dev.raw (d.setBit (Reg.EVT_RAW_BITS (e / 32)) (e % 32) true) e = true :=
  bit_setBit_same d true (by show e % 32 < 32; omega)

/-- No raw bit is cleared by setting one. -/
theorem raw_keep {e e0 : Nat} (h : Dev.raw d e0 = true) :
    Dev.raw (d.setBit (Reg.EVT_RAW_BITS (e / 32)) (e % 32) true) e0 = true := by
  by_cases hw : e0 / 32 = e / 32
  · by_cases hb : e0 % 32 = e % 32
    · have : e0 = e := by omega
      subst this; exact raw_own d
    · unfold Dev.raw at *
      rw [hw] at h ⊢
      rw [bit_setBit_other d true hb (by show e0 % 32 < 32; omega)]; exact h
  · unfold Dev.raw Dev.setBit at *
    unfold Dev.bit at *
    rw [get_set_other]
    · exact h
    · simp only [Reg.EVT_RAW_BITS]; omega

theorem raw_raiseN_keep {e0 : Nat} (he0 : e0 < 128) (fuel : Nat) :
    ∀ (d : Dev) (e det : Nat), Dev.raw d e0 = true → Dev.raw (Dev.raiseN fuel d e det) e0 = true := by
  induction fuel with
  | zero => intro d e det h; exact h
  | succ fuel ih =>
    intro d e det h
    unfold Dev.raiseN
    simp only
    have h1 : Dev.raw (((d.setCause e).setBit (Reg.EVT_RAW_BITS (e / 32)) (e % 32) true).record e det) e0 = true := by
      rw [raw_of_regs (regs_record _ _ _)]
      exact raw_keep _ (by rw [raw_setCause d e he0]; exact h)
    revert h1
    generalize Dev.record _ e det = d1
    intro h1
    split
    · exact h1
    · have h2 : Dev.raw (d1.routeOut e) e0 = true := by rw [raw_of_regs (regs_routeOut d1 e)]; exact h1
      revert h2
      generalize d1.routeOut e = d3
      intro h2
      split
      · split
        · have h3 := (raw_pghFill d3 he0 (d3.get (Reg.EVT_ROUTE_BELLPGH e) % 32) 13 0 0 []).trans h2
          revert h3
          generalize d3.pghFill _ 13 0 0 [] = d4
          intro h3
          split
          · exact ih _ _ _ h3
          · exact (raw_of_regs (regs_emit d4 _) e0).trans h3
        · show Dev.raw (d3.set _ _) e0 = true
          rw [raw_set]
          · exact h2
          · simp only [Reg.EVT_RAW_BITS, Reg.EVT_MISC_BELLMISS]; omega
      · exact h2

/-- Raising an event sets its raw bit, masked or not (R583). -/
theorem raw_raise {e : Nat} (det : Nat) (he : e < 128) : Dev.raw (d.raise e det) e = true := by
  unfold Dev.raise Dev.raiseN
  simp only
  have h1 : Dev.raw (((d.setCause e).setBit (Reg.EVT_RAW_BITS (e / 32)) (e % 32) true).record e det) e = true := by
    rw [raw_of_regs (regs_record _ _ _)]
    exact raw_own _
  revert h1
  generalize Dev.record _ e det = d1
  intro h1
  split
  · exact h1
  · have h2 : Dev.raw (d1.routeOut e) e = true := by rw [raw_of_regs (regs_routeOut d1 e)]; exact h1
    revert h2
    generalize d1.routeOut e = d3
    intro h2
    split
    · split
      · have h3 := (raw_pghFill d3 he (d3.get (Reg.EVT_ROUTE_BELLPGH e) % 32) 13 0 0 []).trans h2
        revert h3
        generalize d3.pghFill _ 13 0 0 [] = d4
        intro h3
        split
        · exact raw_raiseN_keep he _ _ _ _ h3
        · exact (raw_of_regs (regs_emit d4 _) e).trans h3
      · show Dev.raw (d3.set _ _) e = true
        rw [raw_set]
        · exact h2
        · simp only [Reg.EVT_RAW_BITS, Reg.EVT_MISC_BELLMISS]; omega
    · exact h2

end Sys2Proof.Laws
end

