-- ==== Sys2Proof/Laws/Finish.lean ====
section
/-! SUPPORT. What the end of every command does (`Dev.finish`): the registers it computes, and that it leaves the rest alone. -/

namespace Sys2Proof.Laws

open Sys2Proof.Machine

variable (d : Dev)

theorem mute_regs : d.mute.regs = d.regs := by unfold Dev.mute; split <;> rfl

theorem mute_get (f : Fld) : d.mute.get f = d.get f := by simp [Dev.get, mute_regs]

/-- A register that no end of a command computes. -/
theorem summed_not {k : Nat} (h : k ∉ summaryKeys ++ curtailKeys) : d.summed k = false := by
  simp only [List.mem_append, not_or] at h
  simp [Dev.summed, h.1, h.2]

theorem summed_summary {k : Nat} (h : k ∈ summaryKeys) : d.summed k = true := by simp [Dev.summed, h]

/-- CURTAIL and its causes are cleared, and nothing else. -/
theorem agree_clearCurtail : Agree (fun k => decide (k ∈ curtailKeys)) d d.clearCurtail := by
  unfold Dev.clearCurtail curtailFlags
  simp only [List.foldl_cons, List.foldl_nil]
  iterate 8 refine Agree.trans ?_ (Agree.set _ _ _ (by decide))
  exact Agree.refl _ _

theorem clearCurtail_get {f : Fld} (h : f ∈ curtailFlags) : d.clearCurtail.get f = 0 := by
  unfold Dev.clearCurtail
  simp only [curtailFlags, List.mem_cons, List.not_mem_nil, or_false] at h
  simp only [curtailFlags, List.foldl_cons, List.foldl_nil, get_set]
  rcases h with rfl | rfl | rfl | rfl | rfl | rfl | rfl | rfl <;> simp

theorem clearCurtail_fields : ∃ r, d.clearCurtail = { d with regs := r } := ⟨d.clearCurtail.regs, rfl⟩

theorem mode_pgood : (d.set Reg.PWR_STATUS_PGOOD (flag d.pgood)).mode = d.mode := by
  simp [Dev.mode, get_set_other d (f := Reg.SYS_STATUS_MODE) (g := Reg.PWR_STATUS_PGOOD) _ (by decide)]

theorem settleFlags_fields : ∃ r, d.settleFlags = { d with regs := r } := by
  unfold Dev.settleFlags
  simp only
  split
  · exact ⟨_, rfl⟩
  · obtain ⟨r, h⟩ := clearCurtail_fields (d.set Reg.PWR_STATUS_PGOOD (flag d.pgood))
    exact ⟨r, h⟩

theorem agree_settleFlags : Agree d.summed d d.settleFlags := by
  have h : Agree d.summed d (d.set Reg.PWR_STATUS_PGOOD (flag d.pgood)) := Agree.set _ _ _ (summed_summary d (by decide))
  unfold Dev.settleFlags
  simp only
  rw [mode_pgood]
  split
  · exact h
  · next hw =>
    refine h.trans fun k hk => agree_clearCurtail _ k ?_
    simp only [Dev.summed, Bool.or_eq_false_iff, Bool.and_eq_false_iff] at hk
    rcases hk.2 with h2 | h2
    · simp at h2; exact absurd h2 hw
    · exact h2

theorem settleFlags_get {f : Fld} (h : f.key ∉ summaryKeys ++ curtailKeys) : d.settleFlags.get f = d.get f :=
  (agree_settleFlags d).get (summed_not d h)

/-- The end of a command leaves every register alone but the computed ones. -/
theorem agree_finish : Agree d.summed d d.finish := by
  unfold Dev.finish
  simp only
  refine Agree.trans ?_ (Agree.of_regs (mute_regs _))
  iterate 6 refine Agree.trans ?_ (Agree.set _ _ _ (summed_summary d (by decide)))
  exact agree_settleFlags d

theorem finish_get {f : Fld} (h : f.key ∉ summaryKeys ++ curtailKeys) : d.finish.get f = d.get f :=
  (agree_finish d).get (summed_not d h)

theorem finish_bit {f : Fld} (i : Nat) (h : f.key ∉ summaryKeys ++ curtailKeys) : d.finish.bit f i = d.bit f i := by
  simp [Dev.bit, finish_get d h]

theorem withOuts_set {d x : Dev} (h : ∃ r m, x = d.withOuts r m) (f : Fld) (v : Nat) : ∃ r m, x.set f v = d.withOuts r m := by
  obtain ⟨r, m, rfl⟩ := h
  exact ⟨_, _, rfl⟩

theorem withOuts_mute {d x : Dev} (h : ∃ r m, x = d.withOuts r m) : ∃ r m, x.mute = d.withOuts r m := by
  obtain ⟨r, m, rfl⟩ := h
  unfold Dev.mute
  split
  · exact ⟨_, _, rfl⟩
  · exact ⟨_, _, rfl⟩

/-- The end of a command touches the registers and the emitted messages alone. -/
theorem finish_fields : ∃ r m, d.finish = d.withOuts r m := by
  unfold Dev.finish
  simp only
  refine withOuts_mute ?_
  iterate 6 refine withOuts_set ?_ _ _
  obtain ⟨r, h⟩ := settleFlags_fields d
  rw [h]
  exact ⟨r, d.emitted, rfl⟩

@[simp] theorem finish_sram : d.finish.sram = d.sram := by obtain ⟨r, m, h⟩ := finish_fields d; rw [h]; rfl
@[simp] theorem finish_flash : d.finish.flash = d.flash := by obtain ⟨r, m, h⟩ := finish_fields d; rw [h]; rfl
@[simp] theorem finish_running : d.finish.running = d.running := by obtain ⟨r, m, h⟩ := finish_fields d; rw [h]; rfl
@[simp] theorem finish_sealed : d.finish.sealed = d.sealed := by obtain ⟨r, m, h⟩ := finish_fields d; rw [h]; rfl
@[simp] theorem finish_now : d.finish.now = d.now := by obtain ⟨r, m, h⟩ := finish_fields d; rw [h]; rfl
@[simp] theorem finish_freeCtr : d.finish.freeCtr = d.freeCtr := by obtain ⟨r, m, h⟩ := finish_fields d; rw [h]; rfl
@[simp] theorem finish_hiLatch : d.finish.hiLatch = d.hiLatch := by obtain ⟨r, m, h⟩ := finish_fields d; rw [h]; rfl
@[simp] theorem finish_bootsel : d.finish.bootsel = d.bootsel := by obtain ⟨r, m, h⟩ := finish_fields d; rw [h]; rfl
@[simp] theorem finish_testN : d.finish.testN = d.testN := by obtain ⟨r, m, h⟩ := finish_fields d; rw [h]; rfl
@[simp] theorem finish_resetLow : d.finish.resetLow = d.resetLow := by obtain ⟨r, m, h⟩ := finish_fields d; rw [h]; rfl
@[simp] theorem finish_internalCold : d.finish.internalCold = d.internalCold := by obtain ⟨r, m, h⟩ := finish_fields d; rw [h]; rfl
@[simp] theorem finish_warming : d.finish.warming = d.warming := by obtain ⟨r, m, h⟩ := finish_fields d; rw [h]; rfl
@[simp] theorem finish_safeFrom : d.finish.safeFrom = d.safeFrom := by obtain ⟨r, m, h⟩ := finish_fields d; rw [h]; rfl
@[simp] theorem finish_identDone : d.finish.identDone = d.identDone := by obtain ⟨r, m, h⟩ := finish_fields d; rw [h]; rfl
@[simp] theorem finish_recoveryDwell : d.finish.recoveryDwell = d.recoveryDwell := by obtain ⟨r, m, h⟩ := finish_fields d; rw [h]; rfl
@[simp] theorem finish_coldHold : d.finish.coldHold = d.coldHold := by obtain ⟨r, m, h⟩ := finish_fields d; rw [h]; rfl
@[simp] theorem finish_islandWanted : d.finish.islandWanted = d.islandWanted := by obtain ⟨r, m, h⟩ := finish_fields d; rw [h]; rfl
@[simp] theorem finish_txn : d.finish.txn = d.txn := by obtain ⟨r, m, h⟩ := finish_fields d; rw [h]; rfl
@[simp] theorem finish_nextHandle : d.finish.nextHandle = d.nextHandle := by obtain ⟨r, m, h⟩ := finish_fields d; rw [h]; rfl
@[simp] theorem finish_scheds : d.finish.scheds = d.scheds := by obtain ⟨r, m, h⟩ := finish_fields d; rw [h]; rfl
@[simp] theorem finish_locked : d.finish.locked = d.locked := by obtain ⟨r, m, h⟩ := finish_fields d; rw [h]; rfl
@[simp] theorem finish_sentUp : d.finish.sentUp = d.sentUp := by obtain ⟨r, m, h⟩ := finish_fields d; rw [h]; rfl
@[simp] theorem finish_preparing : d.finish.preparing = d.preparing := by obtain ⟨r, m, h⟩ := finish_fields d; rw [h]; rfl
@[simp] theorem finish_holding : d.finish.holding = d.holding := by obtain ⟨r, m, h⟩ := finish_fields d; rw [h]; rfl
@[simp] theorem finish_persistDue : d.finish.persistDue = d.persistDue := by obtain ⟨r, m, h⟩ := finish_fields d; rw [h]; rfl
@[simp] theorem finish_persisting : d.finish.persisting = d.persisting := by obtain ⟨r, m, h⟩ := finish_fields d; rw [h]; rfl
@[simp] theorem finish_pinned : d.finish.pinned = d.pinned := by obtain ⟨r, m, h⟩ := finish_fields d; rw [h]; rfl
@[simp] theorem finish_gb : d.finish.gb = d.gb := by obtain ⟨r, m, h⟩ := finish_fields d; rw [h]; rfl
@[simp] theorem finish_gbWait : d.finish.gbWait = d.gbWait := by obtain ⟨r, m, h⟩ := finish_fields d; rw [h]; rfl
@[simp] theorem finish_gbNext : d.finish.gbNext = d.gbNext := by obtain ⟨r, m, h⟩ := finish_fields d; rw [h]; rfl
@[simp] theorem finish_gbLast : d.finish.gbLast = d.gbLast := by obtain ⟨r, m, h⟩ := finish_fields d; rw [h]; rfl
@[simp] theorem finish_notifyDue : d.finish.notifyDue = d.notifyDue := by obtain ⟨r, m, h⟩ := finish_fields d; rw [h]; rfl
@[simp] theorem finish_lastNotify : d.finish.lastNotify = d.lastNotify := by obtain ⟨r, m, h⟩ := finish_fields d; rw [h]; rfl
@[simp] theorem finish_lastEv111 : d.finish.lastEv111 = d.lastEv111 := by obtain ⟨r, m, h⟩ := finish_fields d; rw [h]; rfl
@[simp] theorem finish_stage : d.finish.stage = d.stage := by obtain ⟨r, m, h⟩ := finish_fields d; rw [h]; rfl
@[simp] theorem finish_pghResult : d.finish.pghResult = d.pghResult := by obtain ⟨r, m, h⟩ := finish_fields d; rw [h]; rfl
@[simp] theorem finish_epochs : d.finish.epochs = d.epochs := by obtain ⟨r, m, h⟩ := finish_fields d; rw [h]; rfl
@[simp] theorem finish_kept : d.finish.kept = d.kept := by obtain ⟨r, m, h⟩ := finish_fields d; rw [h]; rfl
@[simp] theorem finish_spiFail : d.finish.spiFail = d.spiFail := by obtain ⟨r, m, h⟩ := finish_fields d; rw [h]; rfl
@[simp] theorem finish_nvm : d.finish.nvm = d.nvm := by obtain ⟨r, m, h⟩ := finish_fields d; rw [h]; rfl
@[simp] theorem finish_strs : d.finish.strs = d.strs := by obtain ⟨r, m, h⟩ := finish_fields d; rw [h]; rfl
@[simp] theorem finish_slots : d.finish.slots = d.slots := by obtain ⟨r, m, h⟩ := finish_fields d; rw [h]; rfl
@[simp] theorem finish_outs : d.finish.outs = d.outs := by obtain ⟨r, m, h⟩ := finish_fields d; rw [h]; rfl
@[simp] theorem finish_courses : d.finish.courses = d.courses := by obtain ⟨r, m, h⟩ := finish_fields d; rw [h]; rfl
@[simp] theorem finish_tieCmd : d.finish.tieCmd = d.tieCmd := by obtain ⟨r, m, h⟩ := finish_fields d; rw [h]; rfl
@[simp] theorem finish_round : d.finish.round = d.round := by obtain ⟨r, m, h⟩ := finish_fields d; rw [h]; rfl
@[simp] theorem finish_result : d.finish.result = d.result := by obtain ⟨r, m, h⟩ := finish_fields d; rw [h]; rfl
@[simp] theorem finish_purse : d.finish.purse = d.purse := by obtain ⟨r, m, h⟩ := finish_fields d; rw [h]; rfl
@[simp] theorem finish_cans : d.finish.cans = d.cans := by obtain ⟨r, m, h⟩ := finish_fields d; rw [h]; rfl
@[simp] theorem finish_auxApplied : d.finish.auxApplied = d.auxApplied := by obtain ⟨r, m, h⟩ := finish_fields d; rw [h]; rfl
@[simp] theorem finish_outTels : d.finish.outTels = d.outTels := by obtain ⟨r, m, h⟩ := finish_fields d; rw [h]; rfl
@[simp] theorem finish_telWin : d.finish.telWin = d.telWin := by obtain ⟨r, m, h⟩ := finish_fields d; rw [h]; rfl
@[simp] theorem finish_arcDirty : d.finish.arcDirty = d.arcDirty := by obtain ⟨r, m, h⟩ := finish_fields d; rw [h]; rfl
@[simp] theorem finish_syncGood : d.finish.syncGood = d.syncGood := by obtain ⟨r, m, h⟩ := finish_fields d; rw [h]; rfl
@[simp] theorem finish_syncNear : d.finish.syncNear = d.syncNear := by obtain ⟨r, m, h⟩ := finish_fields d; rw [h]; rfl
@[simp] theorem finish_bow : d.finish.bow = d.bow := by obtain ⟨r, m, h⟩ := finish_fields d; rw [h]; rfl
@[simp] theorem finish_pluck : d.finish.pluck = d.pluck := by obtain ⟨r, m, h⟩ := finish_fields d; rw [h]; rfl
@[simp] theorem finish_shedAbort : d.finish.shedAbort = d.shedAbort := by obtain ⟨r, m, h⟩ := finish_fields d; rw [h]; rfl
@[simp] theorem finish_rejoin : d.finish.rejoin = d.rejoin := by obtain ⟨r, m, h⟩ := finish_fields d; rw [h]; rfl
@[simp] theorem finish_tally : d.finish.tally = d.tally := by obtain ⟨r, m, h⟩ := finish_fields d; rw [h]; rfl
@[simp] theorem finish_box : d.finish.box = d.box := by obtain ⟨r, m, h⟩ := finish_fields d; rw [h]; rfl
@[simp] theorem finish_links : d.finish.links = d.links := by obtain ⟨r, m, h⟩ := finish_fields d; rw [h]; rfl
@[simp] theorem finish_macs : d.finish.macs = d.macs := by obtain ⟨r, m, h⟩ := finish_fields d; rw [h]; rfl
@[simp] theorem finish_ckpts : d.finish.ckpts = d.ckpts := by obtain ⟨r, m, h⟩ := finish_fields d; rw [h]; rfl
@[simp] theorem finish_roots : d.finish.roots = d.roots := by obtain ⟨r, m, h⟩ := finish_fields d; rw [h]; rfl
@[simp] theorem finish_therm : d.finish.therm = d.therm := by obtain ⟨r, m, h⟩ := finish_fields d; rw [h]; rfl
@[simp] theorem finish_saf : d.finish.saf = d.saf := by obtain ⟨r, m, h⟩ := finish_fields d; rw [h]; rfl
@[simp] theorem finish_tab : d.finish.tab = d.tab := by obtain ⟨r, m, h⟩ := finish_fields d; rw [h]; rfl
@[simp] theorem finish_mem : d.finish.mem = d.mem := by obtain ⟨r, m, h⟩ := finish_fields d; rw [h]; rfl
@[simp] theorem finish_dup : d.finish.dup = d.dup := by obtain ⟨r, m, h⟩ := finish_fields d; rw [h]; rfl
@[simp] theorem finish_fab : d.finish.fab = d.fab := by obtain ⟨r, m, h⟩ := finish_fields d; rw [h]; rfl
@[simp] theorem finish_auxNext : d.finish.auxNext = d.auxNext := by obtain ⟨r, m, h⟩ := finish_fields d; rw [h]; rfl
@[simp] theorem finish_auxFaultAt : d.finish.auxFaultAt = d.auxFaultAt := by obtain ⟨r, m, h⟩ := finish_fields d; rw [h]; rfl
@[simp] theorem finish_hostNext : d.finish.hostNext = d.hostNext := by obtain ⟨r, m, h⟩ := finish_fields d; rw [h]; rfl
@[simp] theorem finish_jtag : d.finish.jtag = d.jtag := by obtain ⟨r, m, h⟩ := finish_fields d; rw [h]; rfl

/-! ### The computed registers -/

theorem outletBits_step (p : Nat → Bool) (k : Nat) :
    (List.range k).foldl (fun acc n => if p n then acc + 2 ^ n else acc) 0 < 2 ^ k ∧
    ∀ n < k, ((List.range k).foldl (fun acc n => if p n then acc + 2 ^ n else acc) 0).testBit n = p n := by
  induction k with
  | zero => simp
  | succ k ih =>
    rw [List.range_succ, List.foldl_append]
    simp only [List.foldl_cons, List.foldl_nil]
    obtain ⟨hlt, hb⟩ := ih
    revert hlt hb
    generalize (List.range k).foldl (fun acc n => if p n then acc + 2 ^ n else acc) 0 = v
    intro hlt hb
    have hv : v.testBit k = false := Nat.testBit_lt_two_pow hlt
    refine ⟨by rw [Nat.pow_succ]; split <;> omega, ?_⟩
    intro n hn
    by_cases hk : n = k
    · subst hk
      split
      · next hp => rw [Nat.add_comm, Nat.testBit_two_pow_add_eq, hv, hp]; rfl
      · next hp => rw [hv]; simpa using hp
    · split
      · rw [testBit_add_two_pow hv hk]; exact hb n (by omega)
      · exact hb n (by omega)

theorem outletBits_lt (p : Nat → Bool) : outletBits p < 65536 := (outletBits_step p 16).1

theorem outletBits_bit (p : Nat → Bool) {n : Nat} (h : n < 16) : (outletBits p).testBit n = p n := (outletBits_step p 16).2 n h

theorem flag_lt (b : Bool) : flag b < 2 := by cases b <;> decide

theorem finish_mode : d.finish.mode = d.mode := by
  simp [Dev.mode, finish_get d (f := Reg.SYS_STATUS_MODE) (by decide)]

theorem finish_pgood_eq : d.finish.pgood = d.pgood := by
  simp [Dev.pgood, finish_mode, finish_get d (f := Reg.PWR_STATUS_RAILFLT) (by decide)]

/-- PGOOD follows the rails and the mode (R594). -/
theorem finish_PGOOD : d.finish.get Reg.PWR_STATUS_PGOOD = flag d.pgood := by
  unfold Dev.finish
  simp only
  rw [mute_get]
  iterate 6 rw [get_set_other _ _ (by decide)]
  have := flag_lt d.pgood
  have hp : (d.set Reg.PWR_STATUS_PGOOD (flag d.pgood)).get Reg.PWR_STATUS_PGOOD = flag d.pgood := by
    rw [get_set_same]; exact Nat.mod_eq_of_lt this
  unfold Dev.settleFlags
  simp only
  split
  · exact hp
  · rw [(agree_clearCurtail _).get (by decide)]; exact hp

/-- CURTAIL and its causes read 0 outside the modes in which they are valid (R71). -/
theorem finish_curtail (h : d.mode.working = false) {f : Fld} (hf : f ∈ curtailFlags) : d.finish.get f = 0 := by
  have hk : f.key ∉ [Reg.EVT_ALERT_LINES.key, Reg.OUT_STATUS_SERVING.key, Reg.OUT_STATUS_LIVE.key, Reg.PRS_GATE_T1S.key,
      Reg.PRS_GATE_PLC.key, Reg.SYS_STATUS_TXNOPEN.key] := by
    revert f; decide
  simp only [List.mem_cons, not_or] at hk
  unfold Dev.finish
  simp only
  rw [mute_get, get_set_other _ _ hk.1, get_set_other _ _ hk.2.1, get_set_other _ _ hk.2.2.1, get_set_other _ _ hk.2.2.2.1,
    get_set_other _ _ hk.2.2.2.2.1, get_set_other _ _ hk.2.2.2.2.2.1]
  unfold Dev.settleFlags
  simp only
  rw [mode_pgood, h]
  simp only [Bool.false_eq_true, if_false]
  exact clearCurtail_get _ hf

theorem agree_drives {p : Nat → Bool} {d d' : Dev} (h : Agree p d d') (h1 : p Reg.DUP_CFG_EN.key = false)
    (h2 : p Reg.DUP_STATUS_ROLE.key = false) : d'.drives = d.drives ∧ d'.duplex = d.duplex := by
  simp [Dev.drives, Dev.duplex, h.get h1, h.get h2]

theorem summed_drives {d d' : Dev} (h : Agree d.summed d d') : d'.drives = d.drives ∧ d'.duplex = d.duplex :=
  agree_drives h (summed_not d (by decide)) (summed_not d (by decide))

theorem finish_drives : d.finish.drives = d.drives := (summed_drives (agree_finish d)).1
theorem finish_duplex : d.finish.duplex = d.duplex := (summed_drives (agree_finish d)).2

theorem mute_emitted : d.mute.emitted = if d.drives ∧ !(d.duplex && d.dup.dnOff) then d.emitted
    else d.emitted.filter fun m => !(if d.drives then m.onDn else m.driven) := by
  unfold Dev.mute; split <;> rfl

/-- What leaves the device: all of it, but for what a lodger's drivers and a disabled module's DN drivers keep off the wire. -/
theorem finish_emitted : d.finish.emitted = if d.drives ∧ !(d.duplex && d.dup.dnOff) then d.emitted
    else d.emitted.filter fun m => !(if d.drives then m.onDn else m.driven) := by
  unfold Dev.finish
  simp only
  rw [mute_emitted]
  have hx : ∀ x : Dev, Agree d.summed d x → x.drives = d.drives ∧ x.duplex = d.duplex := fun _ h => summed_drives h
  rw [(hx _ ?_).1, (hx _ ?_).2]
  · obtain ⟨r, h⟩ := settleFlags_fields d
    rw [h]; rfl
  all_goals
    iterate 6 refine Agree.trans ?_ (Agree.set _ _ _ (summed_summary d (by decide)))
    exact agree_settleFlags d

/-- Messages that no driver puts on a wire leave whoever drives. -/
theorem finish_emitted_free (h : ∀ m ∈ d.emitted, m.driven = false ∧ m.onDn = false) : d.finish.emitted = d.emitted := by
  rw [finish_emitted]
  split
  · rfl
  · rw [List.filter_eq_self]
    intro m hm
    rw [(h m hm).1, (h m hm).2]
    simp

/-- TXNOPEN says whether a transaction is open (SYS_STATUS). -/
theorem finish_TXNOPEN : d.finish.get Reg.SYS_STATUS_TXNOPEN = flag d.txn.isSome := by
  unfold Dev.finish
  simp only
  rw [mute_get]
  iterate 5 rw [get_set_other _ _ (by decide)]
  rw [get_set_same]
  obtain ⟨r, h⟩ := settleFlags_fields d
  rw [h]
  exact Nat.mod_eq_of_lt (flag_lt _)

theorem sess_of_regs {d d' : Dev} {n : Nat} (h : tget 0 d'.regs (Reg.OUT_SESS_STATE n).key = tget 0 d.regs (Reg.OUT_SESS_STATE n).key) :
    d'.sess n = d.sess n := h

/-- OUT_STATUS.LIVE has the bits of the live outlets (R55). -/
theorem finish_LIVE {n : Nat} (h : n < 16) : d.finish.bit Reg.OUT_STATUS_LIVE n = d.live n := by
  have hs : ∀ n < 16, (Reg.OUT_SESS_STATE n).key ∉ summaryKeys := by decide
  have hc : ∀ n < 16, (Reg.OUT_SESS_STATE n).key ∉ summaryKeys ++ curtailKeys := by decide
  unfold Dev.finish
  simp only [Dev.bit]
  rw [mute_get, get_set_other _ _ (by decide), get_set_other _ _ (by decide), get_set_same, Nat.testBit_mod_two_pow,
    outletBits_bit _ h]
  have hw : n < Reg.OUT_STATUS_LIVE.width := h
  simp only [hw, decide_true, Bool.true_and, Dev.live]
  congr 1
  refine sess_of_regs ?_
  have hk := hs n h
  simp only [summaryKeys, List.mem_cons, not_or] at hk
  iterate 3 rw [reg_set_other]
  · exact agree_settleFlags d _ (summed_not d (hc n h))
  · exact hk.2.2.1
  · exact hk.2.2.2.1
  · exact hk.2.2.2.2.1

/-- OUT_STATUS.SERVING has the bits of the serving outlets (R107). -/
theorem finish_SERVING {n : Nat} (h : n < 16) : d.finish.bit Reg.OUT_STATUS_SERVING n = sessServing (d.sess n) := by
  have hs : ∀ n < 16, (Reg.OUT_SESS_STATE n).key ∉ summaryKeys := by decide
  have hc : ∀ n < 16, (Reg.OUT_SESS_STATE n).key ∉ summaryKeys ++ curtailKeys := by decide
  unfold Dev.finish
  simp only [Dev.bit]
  rw [mute_get, get_set_other _ _ (by decide), get_set_same, Nat.testBit_mod_two_pow, outletBits_bit _ h]
  have hw : n < Reg.OUT_STATUS_SERVING.width := h
  simp only [hw, decide_true, Bool.true_and]
  congr 1
  refine sess_of_regs ?_
  have hk := hs n h
  simp only [summaryKeys, List.mem_cons, not_or] at hk
  iterate 4 rw [reg_set_other]
  · exact agree_settleFlags d _ (summed_not d (hc n h))
  · exact hk.2.2.1
  · exact hk.2.2.2.1
  · exact hk.2.2.2.2.1
  · exact hk.2.2.2.2.2.1

end Sys2Proof.Laws
end

