-- ==== Sys2Proof/Laws/Commands.lean ====
section
/-! SUPPORT. How the commands' wrappers answer: where a command acts, and what is left to show of its effect. -/

namespace Sys2Proof.Laws

open Sys2Proof.Machine

theorem completes_main {c : Instr} {s : State} {f : Dev → Dev} {p : Dev → Prop} (hc : exec c s = s.main f)
    (hs : s.dev.stopped = false) (h : p (f s.dev.begin).finish) : Completes c s p :=
  ⟨{ s with dev := (f s.dev.begin).finish }, by rw [hc]; simp [State.main, hs], rfl, h⟩

theorem completes_stopped {c : Instr} {s : State} {f : Dev → Dev} {p : Dev → Prop} (hc : exec c s = s.main f)
    (hs : s.dev.stopped = true) (h : p s.dev.begin.finish) : Completes c s p :=
  ⟨{ s with dev := s.dev.begin.finish }, by rw [hc]; simp [State.main, hs], rfl, h⟩

theorem completes_hard {c : Instr} {s : State} {f : Dev → Dev} {p : Dev → Prop} (hc : exec c s = s.hard f)
    (h : p (f s.dev.begin).finish) : Completes c s p :=
  ⟨{ s with dev := (f s.dev.begin).finish }, by rw [hc]; rfl, rfl, h⟩

theorem completes_island {c : Instr} {s : State} {f : Dev → Dev} {p : Dev → Prop} (hc : exec c s = s.island f)
    (hs : s.dev.mode ≠ .off) (h : p (f s.dev.begin).finish) : Completes c s p :=
  ⟨{ s with dev := (f s.dev.begin).finish }, by rw [hc]; simp [State.island, hs], rfl, h⟩

theorem completes_host {c : Instr} {s : State} {f : Dev → Dev} {p : Dev → Prop} (hc : exec c s = s.host f)
    (hs : s.dev.stopped = false) (hm : s.dev.mode ≠ .lastGasp) (h : p (f s.dev.begin).finish) : Completes c s p :=
  completes_main hc hs (by have : s.dev.begin.mode ≠ .lastGasp := hm; rw [if_neg this]; exact h)

/-- A keyholder forwards the input it acted on; a lodger that the keyholder feeds does not act on it. -/
theorem completes_input {c : Instr} {s : State} {k : Nat} {b : List Nat} {f : Dev → Dev} {p : Dev → Prop}
    (hc : exec c s = s.input k b f) (hs : s.dev.stopped = false) (hf : s.dev.fed = false)
    (h : p (if (f s.dev.begin).keyholder then (f s.dev.begin).emit (.twin 1 (k :: (f s.dev.begin).period :: b))
      else f s.dev.begin).finish) : Completes c s p :=
  completes_main hc hs (by have : s.dev.begin.fed = false := hf; rw [this]; exact h)

theorem completes_command {c : Instr} {s : State} {f : Dev → Dev} {p : Dev → Prop} (hc : exec c s = s.command f)
    (hs : s.dev.stopped = false) (hm : s.dev.mode ≠ .lastGasp)
    (h : p ((s.dev.begin.coded f).1.emit (.answer (statusOf (s.dev.begin.coded f).2) (s.dev.begin.coded f).2 [])).finish) :
    Completes c s p :=
  completes_host hc hs hm h

/-- A register command that refuses nothing answers OK and leaves the refusal code as it was. -/
theorem coded_ok {d : Dev} {f : Dev → Dev} (h : (f (d.set Reg.SYS_REFUSE_CODE 0)).get Reg.SYS_REFUSE_CODE = 0) :
    d.coded f = ((f (d.set Reg.SYS_REFUSE_CODE 0)).set Reg.SYS_REFUSE_CODE (d.get Reg.SYS_REFUSE_CODE), 0) := by
  simp [Dev.coded, h]

theorem coded_refused {d : Dev} {f : Dev → Dev} (h : (f (d.set Reg.SYS_REFUSE_CODE 0)).get Reg.SYS_REFUSE_CODE ≠ 0) :
    d.coded f = (f (d.set Reg.SYS_REFUSE_CODE 0), (f (d.set Reg.SYS_REFUSE_CODE 0)).get Reg.SYS_REFUSE_CODE) := by
  simp [Dev.coded, h]

end Sys2Proof.Laws
end

