-- ==== Sys2Proof/Laws/Commits.lean ====
section
/-! SUPPORT. What a commit is judged on: not the open transaction, a prepare that is held, or what the fabric keeps of its
peers. -/

namespace Sys2Proof.Machine

/-- The view of a set of writes carries the open transaction, the held prepare and the fabric's peers along unread. -/
theorem Dev.view_frame (d : Dev) (t : Option Txn) (h : Option Prepare) (f : FabCtx) (ws : List (Tbl (Option Nat))) :
    ({ d with txn := t, holding := h, fab := f } : Dev).view ws = { d.view ws with txn := t, holding := h, fab := f } := by
  have put : ∀ (l : Tbl (Option Nat)) (d : Dev),
      l.foldl (fun (d : Dev) (p : Nat × Option Nat) => match p.2 with
        | some v => { d with regs := tput 0 d.regs p.1 v }
        | none => d) { d with txn := t, holding := h, fab := f } =
      { l.foldl (fun (d : Dev) (p : Nat × Option Nat) => match p.2 with
        | some v => { d with regs := tput 0 d.regs p.1 v }
        | none => d) d with txn := t, holding := h, fab := f } := by
    intro l
    induction l with
    | nil => intro d; rfl
    | cons p l ih =>
      intro d
      obtain ⟨k, v⟩ := p
      cases v with
      | none => exact ih d
      | some v => exact ih { d with regs := tput 0 d.regs k v }
  have all : ∀ (l : List (Tbl (Option Nat))) (d : Dev),
      l.foldl (fun d w => w.foldl (fun (d : Dev) (p : Nat × Option Nat) => match p.2 with
        | some v => { d with regs := tput 0 d.regs p.1 v }
        | none => d) d) { d with txn := t, holding := h, fab := f } =
      { l.foldl (fun d w => w.foldl (fun (d : Dev) (p : Nat × Option Nat) => match p.2 with
        | some v => { d with regs := tput 0 d.regs p.1 v }
        | none => d) d) d with txn := t, holding := h, fab := f } := by
    intro l
    induction l with
    | nil => intro d; rfl
    | cons w l ih => intro d; simp only [List.foldl_cons]; rw [put]; exact ih _
  exact (congrArg (fun x => List.foldl _ x ws) (put (d.running.filter fun p => !modeKey p.1) d)).trans (all ws _)

/-- Why a set of writes may not be committed does not depend on them either. -/
theorem Dev.commitFault_frame (d : Dev) (t : Option Txn) (h : Option Prepare) (f : FabCtx) (lock : Option Nat)
    (ws : Tbl (Option Nat)) :
    ({ d with txn := t, holding := h, fab := f } : Dev).commitFault lock ws = d.commitFault lock ws := by
  unfold Dev.commitFault
  rw [Dev.view_frame]
  rfl

end Sys2Proof.Machine
end

