-- ==== Sys2Proof/Laws/Frames.lean ====
section
/-! SUPPORT. Frames: how the registers that a command leaves alone are followed through its effect. -/

namespace Sys2Proof.Laws

open Sys2Proof.Machine

/-- What a command's effect does before its end: it writes the named registers and messages alone. -/
def Writes (named : List Nat) (d x : Dev) : Prop :=
  x = d.withOuts x.regs x.emitted ∧ ∀ k, k ∉ named → tget 0 x.regs k = tget 0 d.regs k

/-- The same, with what raising events touches. -/
def WritesAndEvents (named : List Nat) (d x : Dev) : Prop :=
  x = d.withEvents x ∧ ∀ k, k ∉ named → eventKey k = false → tget 0 x.regs k = tget 0 d.regs k

theorem summed_finish (x : Dev) (k : Nat) : x.finish.summed k = x.summed k := by simp [Dev.summed, finish_mode]

theorem Writes.start (named : List Nat) (d : Dev) : Writes named d d.begin := ⟨rfl, fun _ _ => rfl⟩

theorem Writes.set {named : List Nat} {d x : Dev} (h : Writes named d x) {f : Fld} (v : Nat) (hf : f.key ∈ named) :
    Writes named d (x.set f v) := by
  refine ⟨?_, fun k hk => ?_⟩
  · show x.set f v = _
    rw [h.1]; rfl
  · rw [reg_set_other _ _ (fun he => hk (by rw [he]; exact hf))]
    exact h.2 k hk

theorem Writes.emit {named : List Nat} {d x : Dev} (h : Writes named d x) (m : Msg) : Writes named d (x.emit m) := by
  refine ⟨?_, h.2⟩
  rw [h.1]; rfl

/-- The end of a command whose effect is such: the frame that the statements speak of. -/
theorem Writes.finish {named : List Nat} {d x : Dev} (h : Writes named d x) : d.OnlyRegs named x.finish := by
  refine ⟨?_, fun k hk hs => ?_⟩
  · obtain ⟨r, m, hf⟩ := finish_fields x
    rw [hf, h.1]; rfl
  · rw [summed_finish] at hs
    rw [agree_finish x k hs]
    exact h.2 k hk

theorem Writes.forAll {named : List Nat} {d : Dev} (n : Nat) {x : Dev} (f : Dev → Nat → Dev) (h : Writes named d x)
    (hf : ∀ i < n, ∀ y, Writes named d y → Writes named d (f y i)) : Writes named d (forAll n x f) := by
  unfold Machine.forAll
  have : ∀ (l : List Nat), (∀ i ∈ l, i < n) → ∀ y, Writes named d y → Writes named d (l.foldl f y) := by
    intro l
    induction l with
    | nil => intro _ y hy; exact hy
    | cons i rest ih => intro hl y hy; exact ih (fun j hj => hl j (by simp [hj])) _ (hf i (hl i (by simp)) y hy)
  exact this _ (fun i hi => List.mem_range.1 hi) x h

/-! ### What raising an event touches -/

theorem withEvents_of {d x y : Dev} (h : x = d.withEvents x) (g : y = x.withEvents y) : y = d.withEvents y := by
  rw [g, h]; rfl

theorem withEvents_gbQueue (d : Dev) (n : Nat) (g : GbEntry) : d.gbQueue n g = d.withEvents (d.gbQueue n g) := by
  unfold Dev.gbQueue
  split
  · rfl
  · by_cases h : Config.guestbookOverflow d.freeCtr = true <;> simp [Dev.free, h, Dev.withEvents]

theorem withEvents_record (d : Dev) (e det : Nat) : d.record e det = d.withEvents (d.record e det) := by
  have hf : ∀ g : GbEntry,
      Dev.gbQueue { d with gbNext := d.gbNext + 1, gbLast := tput none d.gbLast e (some d.gbNext) } d.gbNext g =
      d.withEvents (Dev.gbQueue { d with gbNext := d.gbNext + 1, gbLast := tput none d.gbLast e (some d.gbNext) } d.gbNext g) :=
    fun g => withEvents_of (x := { d with gbNext := d.gbNext + 1, gbLast := tput none d.gbLast e (some d.gbNext) }) rfl
      (withEvents_gbQueue _ _ _)
  unfold Dev.record
  simp only
  split
  · exact hf _
  · split
    · exact withEvents_gbQueue _ _ _
    · exact hf _

theorem withEvents_forAll {d : Dev} (n : Nat) (f : Dev → Nat → Dev) (hf : ∀ y i, f y i = y.withEvents (f y i)) :
    forAll n d f = d.withEvents (forAll n d f) := by
  unfold Machine.forAll
  generalize List.range n = l
  induction l generalizing d with
  | nil => rfl
  | cons i rest ih => exact withEvents_of (hf d i) ih

theorem withEvents_pghFill (d : Dev) (h agent addr epoch : Nat) (payload : List Byte) :
    d.pghFill h agent addr epoch payload = d.withEvents (d.pghFill h agent addr epoch payload) := by
  unfold Dev.pghFill
  exact withEvents_of (x := ((((((((d.set (Reg.PGH_STAT_STATE h) 1).set (Reg.PGH_STAT_STALE h) 0).set
    (Reg.PGH_STAT_RCV_EPOCH_CHANGED h) 0).set (Reg.PGH_STAT_SNDAGENT h) agent).set (Reg.PGH_STAT_SNDADDR h) addr).set
    (Reg.PGH_STAT_LEN h) payload.length).set (Reg.PGH_EPOCH_SND h) epoch).set (Reg.PGH_EPOCH_RCV h) _)) rfl
    (withEvents_forAll 64 _ fun _ _ => rfl)

theorem withEvents_setCause (d : Dev) (e : Nat) : d.setCause e = d.withEvents (d.setCause e) := by
  unfold Dev.setCause
  split <;> rfl

theorem withEvents_routeOut (d : Dev) (e : Nat) : d.routeOut e = d.withEvents (d.routeOut e) := by
  unfold Dev.routeOut
  simp only
  split <;> split <;> rfl

theorem withEvents_emit (d : Dev) (m : Msg) : d.emit m = d.withEvents (d.emit m) := rfl

theorem withEvents_set (d : Dev) (f : Fld) (v : Nat) : d.set f v = d.withEvents (d.set f v) := rfl

theorem withEvents_raiseN (fuel : Nat) : ∀ (d : Dev) (e det : Nat), Dev.raiseN fuel d e det = d.withEvents (Dev.raiseN fuel d e det) := by
  induction fuel with
  | zero => intro d e det; rfl
  | succ fuel ih =>
    intro d e det
    unfold Dev.raiseN
    simp only
    have h1 : ((d.setCause e).setBit (Reg.EVT_RAW_BITS (e / 32)) (e % 32) true).record e det =
        d.withEvents (((d.setCause e).setBit (Reg.EVT_RAW_BITS (e / 32)) (e % 32) true).record e det) :=
      withEvents_of (withEvents_setCause d e) (withEvents_of (withEvents_set _ _ _) (withEvents_record _ _ _))
    revert h1
    generalize Dev.record _ e det = d1
    intro h1
    split
    · exact h1
    · have h2 := withEvents_of h1 (withEvents_routeOut d1 e)
      revert h2
      generalize d1.routeOut e = d3
      intro h2
      split
      · split
        · have h3 := withEvents_of h2 (withEvents_pghFill d3 (d3.get (Reg.EVT_ROUTE_BELLPGH e) % 32) 13 0 0 [])
          revert h3
          generalize d3.pghFill _ 13 0 0 [] = d4
          intro h3
          split
          · exact withEvents_of h3 (ih _ _ _)
          · exact withEvents_of h3 (withEvents_emit _ _)
        · exact withEvents_of h2 (withEvents_set _ _ _)
      · exact h2

/-- Raising an event touches registers, messages, the Guestbook's buffer, the count of free choices and the notice due alone. -/
theorem withEvents_raise (d : Dev) (e det : Nat) : d.raise e det = d.withEvents (d.raise e det) := withEvents_raiseN 40 d e det

/-! ### The frame of a command that raises events -/

theorem WritesAndEvents.start (named : List Nat) (d : Dev) : WritesAndEvents named d d.begin := ⟨rfl, fun _ _ _ => rfl⟩

theorem WritesAndEvents.set {named : List Nat} {d x : Dev} (h : WritesAndEvents named d x) {f : Fld} (v : Nat)
    (hf : f.key ∈ named) : WritesAndEvents named d (x.set f v) := by
  refine ⟨withEvents_of h.1 (withEvents_set x f v), fun k hk he => ?_⟩
  rw [reg_set_other _ _ (fun hke => hk (by rw [hke]; exact hf))]
  exact h.2 k hk he

theorem WritesAndEvents.emit {named : List Nat} {d x : Dev} (h : WritesAndEvents named d x) (m : Msg) :
    WritesAndEvents named d (x.emit m) := ⟨withEvents_of h.1 (withEvents_emit x m), h.2⟩

theorem WritesAndEvents.raise {named : List Nat} {d x : Dev} (h : WritesAndEvents named d x) {e : Nat} (det : Nat)
    (he : e < 128) : WritesAndEvents named d (x.raise e det) := by
  refine ⟨withEvents_of h.1 (withEvents_raise x e det), fun k hk hev => ?_⟩
  rw [agree_raise x det he k hev]
  exact h.2 k hk hev

theorem WritesAndEvents.of_writes {named : List Nat} {d x : Dev} (h : Writes named d x) : WritesAndEvents named d x := by
  refine ⟨?_, fun k hk _ => h.2 k hk⟩
  rw [h.1]; rfl

theorem WritesAndEvents.finish {named : List Nat} {d x : Dev} (h : WritesAndEvents named d x) :
    d.OnlyRegsAndEvents named x.finish := by
  refine ⟨?_, fun k hk hs he => ?_⟩
  · obtain ⟨r, m, hf⟩ := finish_fields x
    rw [hf, h.1]; rfl
  · rw [summed_finish] at hs
    rw [agree_finish x k hs]
    exact h.2 k hk he

theorem OnlyRegsAndEvents.of_onlyRegs {named : List Nat} {d x : Dev} (h : d.OnlyRegs named x) : d.OnlyRegsAndEvents named x := by
  refine ⟨?_, fun k hk hs _ => h.2 k hk hs⟩
  rw [h.1]; rfl

end Sys2Proof.Laws
end

