-- ==== Sys2Proof/Laws/Memory.lean ====
section
/-! SUPPORT. SRAM and flash: a byte read after a byte written, and the canonical form that every operation over them keeps. -/

namespace Sys2Proof.Laws

open Sys2Proof.Machine

/-! ### A read after a write -/

theorem sramByte_setSramByte (d : Dev) {b o b' o' : Nat} (v : Byte) (h : o < 262144) (h' : o' < 262144) :
    (d.setSramByte b o v).sramByte b' o' = if b' = b ∧ o' = o then v else d.sramByte b' o' := by
  have e : sramKey b' o' = sramKey b o ↔ b' = b ∧ o' = o := by unfold sramKey; omega
  simp [Dev.sramByte, Dev.setSramByte, tget_tput, e]

theorem flashByte_setFlashByte (d : Dev) (a a' : Nat) (v : Byte) :
    (d.setFlashByte a v).flashByte a' = if a' = a then v else d.flashByte a' := by
  simp [Dev.flashByte, Dev.setFlashByte, tget_tput]

/-! ### The canonical form -/

theorem tableWf_filter {α : Type} [DecidableEq α] (d : α) (p : Nat × α → Bool) {m : List (Nat × α)} (h : tableWf d m = true) :
    tableWf d (m.filter p) = true := by
  induction m with
  | nil => rfl
  | cons e rest ih =>
    obtain ⟨k, v⟩ := e
    obtain ⟨hv, hk, hr⟩ := tableWf_first d h
    cases hp : p (k, v) with
    | false => simpa [List.filter, hp] using ih hr
    | true =>
      simp only [List.filter, hp, tableWf, Bool.and_eq_true, bne_iff_ne, List.all_eq_true, decide_eq_true_eq]
      exact ⟨⟨hv, fun e he => hk e (List.mem_filter.1 he).1⟩, ih hr⟩

theorem tableWf_foldl_tput {α β : Type} [DecidableEq α] (d : α) (key : β → Nat) (val : β → α) (l : List β) :
    ∀ {m : List (Nat × α)}, tableWf d m = true → tableWf d (l.foldl (fun m e => tput d m (key e) (val e)) m) = true := by
  induction l with
  | nil => intro m h; exact h
  | cons e l ih => intro m h; exact ih (tableWf_tput d (key e) (val e) h)

variable {d : Dev}

theorem memWf_parts : d.memWf = true ↔ tableWf 0#8 d.sram = true ∧ tableWf 0xFF#8 d.flash = true := by
  simp [Dev.memWf]

/-- An operation that leaves SRAM and flash alone keeps the form. -/
theorem memWf_same {e : Dev} (hs : e.sram = d.sram) (hf : e.flash = d.flash) (h : d.memWf = true) : e.memWf = true := by
  rw [memWf_parts] at *; rw [hs, hf]; exact h

theorem memWf_reset : State.reset.dev.memWf = true := rfl

theorem memWf_setSramByte (b o : Nat) (v : Byte) (h : d.memWf = true) : (d.setSramByte b o v).memWf = true := by
  rw [memWf_parts] at *; exact ⟨tableWf_tput _ _ _ h.1, h.2⟩

theorem memWf_setFlashByte (a : Nat) (v : Byte) (h : d.memWf = true) : (d.setFlashByte a v).memWf = true := by
  rw [memWf_parts] at *; exact ⟨h.1, tableWf_tput _ _ _ h.2⟩

theorem memWf_putSram (b : Nat) (bytes : List Byte) : ∀ {d : Dev} (o : Nat), d.memWf = true → (d.putSram b o bytes).memWf = true := by
  induction bytes with
  | nil => intro d o h; exact h
  | cons v rest ih => intro d o h; exact ih (o + 1) (memWf_setSramByte b o v h)

theorem memWf_putFlash (bytes : List Byte) : ∀ {d : Dev} (a : Nat), d.memWf = true → (d.putFlash a bytes).memWf = true := by
  induction bytes with
  | nil => intro d a h; exact h
  | cons v rest ih => intro d a h; exact ih (a + 1) (memWf_setFlashByte a v h)

theorem memWf_setSramWord (b w v : Nat) (h : d.memWf = true) : (d.setSramWord b w v).memWf = true := by
  unfold Dev.setSramWord
  exact memWf_putSram _ _ _ h

theorem memWf_clearBank (b : Nat) (h : d.memWf = true) : (d.clearBank b).memWf = true := by
  rw [memWf_parts] at *; exact ⟨tableWf_filter _ _ h.1, h.2⟩

theorem setBit2_sram (lo hi : Fld) (i : Nat) (v : Bool) : (d.setBit2 lo hi i v).sram = d.sram := by
  unfold Dev.setBit2; split <;> rfl

theorem setBit2_flash (lo hi : Fld) (i : Nat) (v : Bool) : (d.setBit2 lo hi i v).flash = d.flash := by
  unfold Dev.setBit2; split <;> rfl

theorem memWf_dropBank (b : Nat) (h : d.memWf = true) : (d.dropBank b).memWf = true := by
  refine memWf_same (d := d.clearBank b) ?_ ?_ (memWf_clearBank b h)
  · simp only [Dev.dropBank, Dev.countBanks, set_sram, setBit2_sram]
  · simp only [Dev.dropBank, Dev.countBanks, set_flash, setBit2_flash]

/-- The copied words of a bank, at the same offsets of its spare. -/
theorem memWf_copyBank (b spare : Nat) (h : d.memWf = true) (m : MemCtx) :
    ({ d with
        sram := ((d.sram.filter fun e => e.1 / 262144 = b).foldl (fun m e => tput 0#8 m (sramKey spare (e.1 % 262144)) e.2)
          (d.clearBank spare).sram)
        mem := m } : Dev).memWf = true := by
  rw [memWf_parts] at *
  exact ⟨tableWf_foldl_tput 0#8 _ _ _ (tableWf_filter _ _ h.1), h.2⟩

end Sys2Proof.Laws
end

