-- ==== Sys2Proof/Laws/Modes.lean ====
section
/-! SUPPORT. A change of the mode: what it makes of SYS_STATUS.MODE, and the functions that leave the mode alone. -/

namespace Sys2Proof.Laws

open Sys2Proof.Machine

variable (d : Dev)

/-- The mode is a register field: what leaves the field alone leaves the mode alone. -/
theorem mode_of_get {d d' : Dev} (h : d'.get Reg.SYS_STATUS_MODE = d.get Reg.SYS_STATUS_MODE) : d'.mode = d.mode := by
  simp [Dev.mode, h]

theorem mode_set {f : Fld} (v : Nat) (h : Reg.SYS_STATUS_MODE.key ≠ f.key) : (d.set f v).mode = d.mode :=
  mode_of_get (get_set_other d v h)

theorem mode_raise {e : Nat} (det : Nat) (he : e < 128) : (d.raise e det).mode = d.mode :=
  mode_of_get (get_raise d det he (by decide))

theorem mode_begin : d.begin.mode = d.mode := rfl

theorem mode_code (m : Mode) : Mode.ofCode (m.code % 2 ^ Reg.SYS_STATUS_MODE.width) = m := by cases m <;> decide

theorem mode_setMode (m : Mode) : (d.set Reg.SYS_STATUS_MODE m.code).mode = m := by
  simp only [Dev.mode, get_set_same, mode_code]

theorem get_forAll (n : Nat) (g : Fld) (f : Dev → Nat → Dev) (h : ∀ i < n, ∀ y : Dev, (f y i).get g = y.get g) :
    (forAll n d f).get g = d.get g := by
  unfold Machine.forAll
  have : ∀ (l : List Nat), (∀ i ∈ l, i < n) → ∀ y : Dev, (l.foldl f y).get g = y.get g := by
    intro l
    induction l with
    | nil => intro _ y; rfl
    | cons i rest ih => intro hl y; exact (ih (fun j hj => hl j (by simp [hj])) (f y i)).trans (h i (hl i (by simp)) y)
  exact this _ (fun i hi => List.mem_range.1 hi) d

/-! ### Entering a mode -/

theorem get_modTherm (g : Fld) (f : ThermCtx → ThermCtx) : (d.modTherm f).get g = d.get g := rfl

/-- The functions of a mode change leave a register alone that is not one of the die's and that no event writes. -/
theorem get_setFrac {g : Fld} (v : Nat) (h : g.key ≠ Reg.THM_STATUS_FRAC.key) (he : eventKey g.key = false) :
    (d.setFrac v).get g = d.get g := by
  unfold Dev.setFrac
  simp only
  split
  · rw [get_raise _ _ (by decide) he, get_set_other _ _ h]; rfl
  · rw [get_set_other _ _ h]; rfl

theorem get_setRegime {g : Fld} (m : Mode) (h1 : g.key ≠ Reg.THM_STATUS_FRAC.key) (h2 : g.key ≠ Reg.THM_STATUS_WARN.key)
    (h3 : g.key ≠ Reg.THM_STATUS_THROT.key) (h4 : g.key ≠ Reg.THM_STATUS_REGIME.key) (he : eventKey g.key = false) :
    (d.setRegime m).get g = d.get g := by
  unfold Dev.setRegime
  split
  · rfl
  · unfold Dev.regimeStart
    simp only
    rw [get_setFrac _ _ h1 he, get_set_other _ _ h3, get_set_other _ _ h2, get_modTherm, get_set_other _ _ h4]

theorem get_abortTxn {g : Fld} (c : Nat) (h1 : g.key ≠ Reg.TXN_STATUS_STATE.key) (h2 : g.key ≠ Reg.TXN_STATUS_CODE.key)
    (h3 : g.key ≠ Reg.TXN_STATUS_AGENT.key) (h4 : g.key ≠ Reg.TXN_STATUS_HANDLE.key) (he : eventKey g.key = false) :
    (d.abortTxn c).get g = d.get g := by
  unfold Dev.abortTxn
  split
  · rfl
  · rw [get_raise _ _ (by decide) he]
    unfold Dev.txnShow
    rw [get_set_other _ _ h4, get_set_other _ _ h3, get_set_other _ _ h2, get_set_other _ _ h1]; rfl

theorem txn_raise (e det : Nat) : (d.raise e det).txn = d.txn := by rw [withEvents_raise]; rfl

theorem txn_abortTxn (c : Nat) : (d.abortTxn c).txn = none := by
  unfold Dev.abortTxn
  split
  · next h => exact h
  · rw [txn_raise]; rfl

theorem get_firstIdent {g : Fld} (m : Mode) : (d.firstIdent m).get g = d.get g := by
  unfold Dev.firstIdent
  split
  · rfl
  · unfold Dev.identAll
    rw [get_forAll]
    · rfl
    · intro i _ y
      split <;> rfl

/-- What the mode change does about manual slots leaves the registers below those of the courses alone. -/
theorem get_showManual {g : Fld} (h : g.key < 32 * 0x40080000) (he : eventKey g.key = false) : d.showManual.get g = d.get g := by
  have ne : ∀ {k : Nat}, 32 * 0x40080000 ≤ k → g.key ≠ k := fun hk hg => by omega
  unfold Dev.showManual Dev.countHealthy
  rw [get_forAll _ 16 g _ fun i _ y => get_set_other _ _ (ne (by simp only [Reg.INK_COURSE_HEALTHY]; omega)), get_forAll]
  intro i _ y
  dsimp only
  split
  · split
    · rfl
    · rw [get_raise _ _ (by decide) he, get_set_other _ _ (ne (by simp only [Reg.TUN_SSTAT_STATE]; omega)),
        get_set_other _ _ (ne (by simp only [Reg.TUN_OUT_VALUE]; omega))]
  · split
    · exact get_set_other _ _ (ne (by simp only [Reg.TUN_SSTAT_STATE]; omega))
    · rfl

/-- Entering a mode leads to it, or to Commission in Decommissioned (R54, R103). -/
theorem mode_enterMode (m : Mode) : (d.enterMode m).mode = d.target m := by
  unfold Dev.enterMode
  simp only
  split
  · next h => exact h
  · rw [mode_of_get (get_showManual _ (by decide) (by decide)), mode_raise _ _ (by decide)]
    have h1 : ∀ x : Dev, (x.firstIdent (d.target m)).mode = x.mode := fun x => mode_of_get (get_firstIdent x _)
    rw [h1]
    have h2 : ∀ x : Dev, (x.abortTxn 9).mode = x.mode := fun x =>
      mode_of_get (get_abortTxn x 9 (by decide) (by decide) (by decide) (by decide) (by decide))
    have h3 : ∀ x : Dev, (x.setRegime (d.target m)).mode = x.mode := fun x =>
      mode_of_get (get_setRegime x _ (by decide) (by decide) (by decide) (by decide) (by decide))
    split
    · rw [h2, h3, mode_set _ _ (by decide)]; exact mode_setMode d _
    · rw [h3, mode_set _ _ (by decide)]; exact mode_setMode d _

theorem target_plain {m : Mode} (h : m.working = false ∨ m = .commission) : d.target m = m := by
  unfold Dev.target
  rcases h with h | h <;> simp [h]

end Sys2Proof.Laws
end

