-- ==== Sys2Proof/Tests/Slice0.lean ====
section
/-! SUPPORT. Tests: the well-formedness checks refuse ill-formed commands; the check values and worked numbers that the spec
prints; and, for each obligation with hypotheses, states and operands that meet them. -/

namespace Sys2Proof.Tests

set_option Elab.async false
set_option linter.unusedVariables false

open Sys2Proof Sys2Proof.Machine

/-! ### Well-formedness -/

/-- A frame, a HAIL, a post and a header that are well formed, to be spoilt one field at a time. -/
def goodCan : CanFrame := { id := 2047, dlc := 8, data := List.replicate 8 0 }
def goodHail : Hail := { digest := List.replicate 32 0 }
def goodPost : Post := { digest := List.replicate 32 0 }
def goodHead : UdpHead := { src := 0, udp := 0, tag := 0, epoch := 0, busy := 1 }
def goodSymbol : PlcSymbol := { guard := [], window := List.replicate 3072 0, snr := 0 }

theorem test_ill_formed_lists :
    ([.powerPass [] [] [] 0, .deviceOverBudget [], .slacSoundingEnd 0 [], .rtdConversion [], .flowUpdate [0],
      .meterSample [] none, .meterSample (List.replicate 56 0) (some []), .safeFrameReceived 0 [], .forwardedInputs 0 [] [] [] [],
      .downFrameCompare 0 [(3, none), (3, none)] 0, .authFrame 0 [] [] (List.replicate 32 0) (List.replicate 64 0) true,
      .txnPrepareReceived 0 0 [(0, 2 ^ 32)], .pghPost 0 0 0 (List.replicate 1025 0) 0 0,
      .hostWrite 0 goodHead 0 0 (List.replicate 1025 0) {}, .hostPost 0 goodHead 0 (List.replicate 1025 0), .arpRequest 0 [] 0 0,
      .icmpEchoRequest 0 [] 0 0 [], .auxAggregateLimit []] : List Instr).all (fun c => !c.wellFormed) = true := by
  decide +kernel

theorem test_ill_formed_frames :
    ([.canFrameReceived 0 { goodCan with id := 2048 }, .canFrameReceived 0 { goodCan with dlc := 16 },
      .canFrameReceived 0 { goodCan with data := List.replicate 9 0 }, .batteryOfferFrame 0 { goodCan with id := 2 ^ 29, ide := true },
      .hailReceived 0 { goodHail with digest := [] }, .hailReceived 0 { goodHail with uid := 2 ^ 64 },
      .fabricFrameReceived 0 { payload := List.replicate 1025 0 } [], .fabricAckTimeout 0 0 { hops := 256 },
      .postReceived { goodPost with digest := [] },
      .plcFrameReceived 0 { robo := 0 } [{ goodSymbol with window := [] }] [],
      .plcFrameReceived 0 { robo := 0 } [goodSymbol] [{ syms := [1], crcOk := true }]] : List Instr).all (fun c => !c.wellFormed) = true := by
  decide +kernel

theorem test_ill_formed_selftest (r : SelftestReport) (h : r.falls = []) : (Instr.selftestComplete r).wellFormed = false := by
  simp [Instr.wellFormed, h]

theorem test_well_formed :
    ([.canFrameReceived 0 goodCan, .hailReceived 0 goodHail, .postReceived goodPost, .rtdConversion (List.replicate 64 0),
      .plcFrameReceived 0 { robo := 0 } [goodSymbol] [{ syms := [0], crcOk := true }], .sysCmdWarm] : List Instr).all Instr.wellFormed = true := by
  decide +kernel

/-! ### Numbers that the spec prints -/

def digits : List Byte := [0x31, 0x32, 0x33, 0x34, 0x35, 0x36, 0x37, 0x38, 0x39]

/-- R187: the check value over "123456789" is 0x29B1. -/
theorem test_crc16_check : crc16 (digits.flatMap fun b => bitsOf 8 b.toNat) = 0x29B1 := by decide +kernel

/-- R459: the check value over "123456789" is 0x1697_D06A. -/
theorem test_safe_crc_check : crc32Safe digits = 0x1697D06A := by decide +kernel

/-- The worked three-fret board (05, "Worked example"): its gains and proportional terms. -/
def threeFrets : List (Nat × Nat) := [(0, 2048), (500, 4096), (2000, 8192)]
theorem test_fretboard_multipliers :
    fretAt threeFrets 200 = 2867 ∧ fretAt threeFrets 1250 = 6144 ∧ fretAt threeFrets 3000 = 8192 ∧
      fretAt [(0, 4096), (500, 4096), (2000, 1024)] 1250 = 2560 := by decide +kernel
theorem test_fretboard_terms : propTerm 91744 200 = 279 ∧ propTerm 196608 1250 = 3750 := by decide +kernel

/-- The worked fret multiplier 2,867 gives kp 91,744 from KP = 2.0: (0x0002_0000 × 2,867) >> 12 (R240). -/
theorem test_fretboard_gain : sar (0x00020000 * 2867) 12 = 91744 := by decide +kernel

/-- R201, R187: an up frame written out bit by bit: preamble 1010 1010, TYPE 1, SEQ 9, then zeros, and its CRC. -/
theorem test_up_frame_bits :
    decodeUp ((0xAA19000000000000000000 * 2 ^ 16) + crc16 (bitsOf 80 (0x19 * 2 ^ 72))) = some { typ := 1, seq := 9 } := by
  decide +kernel

/-- The row's decoder: no row of the table gives bits. -/
theorem test_no_word_spells_a_command : decodeTableWord 32 0 = none := by decide

/-- Power-on takes the device to Boot (02, the transition table). -/
theorem test_power_on_boots : ∃ t, exec (.powerOnReset 24000) State.reset = .next t ∧ t.dev.mode = .boot := by
  exact ⟨_, rfl, by decide +kernel⟩

/-! ### Meeting the hypotheses of the obligations -/

/-- A device in a mode with register fields set, and what `g` puts beside them. -/
def stIn (m : Mode) (fs : List (Fld × Nat)) (g : Dev → Dev := id) : State :=
  { pending := [], dev := g (fs.foldl (fun d p => d.set p.1 p.2) (({} : Dev).set Reg.SYS_STATUS_MODE m.code)) }

/-- The shadow of a site field. -/
def siteWrite : Tbl (Option Nat) := [(Reg.PRS_SITECFG_WIN.key, some 15)]

/-- Fields that pass every rule of a commit (R567). -/
def sane : List (Fld × Nat) :=
  [(Reg.TB_TB2CFG_PERIOD, 100), (Reg.INK_CFG_ROUNDPER, 100), (Reg.INK_SHEDCFG_TGT, 1), (Reg.INK_SHEDCFG_HI, 2),
   (Reg.STR_TELCFG_K, 6), (Reg.STR_LINKCFG_HOLD, 2), (Reg.THM_ABSCFG_SHUT, 120), (Reg.THM_ABSCFG_HYST, 5),
   (Reg.THM_RATECFG_THRRATE, 2), (Reg.THM_RATECFG_WARNTIME, 1), (Reg.THM_RATECFG_KR, 1), (Reg.THM_STRLIM_TRIP, 90),
   (Reg.TB_TB2CFG_SRC, 1), (Reg.TB_TB2CFG_SYNCOUT_EN, 1), (Reg.DUP_CFG_TWINPORT, 5), (Reg.TXN_TIMEOUT_TIMEOUT, 1),
   (Reg.FAB_MEMBERS_BITS, 2), (Reg.TUN_BOWCFG_AMP, 1), (Reg.TUN_BOARD_COUNT 0, 1)] ++
  ((List.range 48).map fun i => (Reg.TUN_SSRC_ACT (80 + i), 255)) ++
  (List.range 16).flatMap fun i => [(Reg.TUN_RISE_RATE i, 1000000), (Reg.TUN_FALL_RATE i, 1000000)]

/-- A device that may commit a site field, alone and as a lodger. -/
def saneDev : Dev := (stIn .idle sane).dev
def duoDev : Dev :=
  (stIn .idle (sane ++ [(Reg.DUP_CFG_EN, 1), (Reg.DUP_STATUS_ROLE, 2), (Reg.DUP_LEASE_VALID, 1)])).dev

def saneIn (t : Option Txn) (h : Option Prepare) (f : FabCtx) : State :=
  { pending := [], dev := { saneDev with txn := t, holding := h, fab := f } }
def duoIn (t : Option Txn) (h : Option Prepare) (f : FabCtx) : State :=
  { pending := [], dev := { duoDev with txn := t, holding := h, fab := f } }

theorem saneCommits : saneDev.commitFault none siteWrite = none := by decide +kernel
theorem duoDevCommits : duoDev.commitFault none siteWrite = none := by decide +kernel
theorem lockFree (d : Dev) (l : Option Nat) (h : l = none) (ok : d.commitFault none siteWrite = none) : d.commitFault l siteWrite = none :=
  h ▸ ok
theorem commits (t : Option Txn) (h : Option Prepare) (f : FabCtx) : (saneIn t h f).dev.commitFault none siteWrite = none :=
  (Dev.commitFault_frame saneDev t h f none siteWrite).trans saneCommits
theorem duoCommits (t : Option Txn) (h : Option Prepare) (f : FabCtx) : (duoIn t h f).dev.commitFault none siteWrite = none :=
  (Dev.commitFault_frame duoDev t h f none siteWrite).trans duoDevCommits


theorem wit_stepTakesTheFrontCommand :
    (∃ (c : Instr) (rest : List Instr) (s : State), s.pending = c :: rest) ∧
    (∃ s : State, s.pending = []) :=
  ⟨⟨.outputShort, [], { stIn .idle [] with pending := [.outputShort] }, by decide +kernel⟩,
   ⟨stIn .idle [], by decide +kernel⟩⟩

theorem wit_commandsActOnlyWhereTheyMay :
    (∃ (c : Instr) (s t : State), exec c s = .next t) ∧
    (∃ (c : Instr) (s : State), exec c s ≠ .fault .absMaxExceeded ∧ exec c s ≠ .refused .vendorTest) ∧
    (∃ (c : Instr) (s : State), s.dev.mode = .off ∧ actsUnpowered c = false) ∧
    (∃ (c : Instr) (s : State), s.dev.mode = .lastGasp ∧ ofHost c = true) ∧
    (∃ (c : Instr) (s : State), s.dev.stopped = false ∧ s.dev.fed = true ∧ ofInput c = true) :=
  ⟨⟨.outputShort, stIn .idle [], _, rfl⟩,
   ⟨.outputShort, stIn .idle [], nofun, nofun⟩,
   ⟨.outputShort, stIn .off [], by decide +kernel⟩,
   ⟨.sysCmdWarm, stIn .lastGasp [], by decide +kernel⟩,
   ⟨.tieFeedbackConfirmed 0 true, stIn .standby [(Reg.DUP_CFG_EN, 1), (Reg.DUP_STATUS_ROLE, 2), (Reg.DUP_LEASE_VALID, 1)],
     by decide +kernel⟩⟩

theorem wit_resetIsConsistent :
    (∃ b, b < 64) ∧
    (∃ c, c < 16) ∧
    (∃ e, e < 128) ∧
    (∃ n, n < 16) :=
  ⟨⟨63, by decide +kernel⟩,
   ⟨15, by decide +kernel⟩,
   ⟨127, by decide +kernel⟩,
   ⟨15, by decide +kernel⟩⟩

theorem wit_cellFramesDecodeAsEncoded :
    (∃ f : DownFrame, f.fits = true ∧ (f.typ = 1 ∨ f.typ = 2 ∨ f.typ = 4 ∨ f.typ = 5 ∨ f.typ = 6)) ∧
    (∃ w f, decodeDown w = some f) ∧
    (∃ f : UpFrame, f.fits = true) ∧
    (∃ w f, decodeUp w = some f) :=
  ⟨⟨{ typ := 1, seq := 9, phase := 2049, drive := 40001, trim := 129, hold := 9, ramp := 15 }, by decide +kernel⟩,
   ⟨DownFrame.encode { typ := 6, seq := 9 }, { typ := 6, seq := 9 }, by decide +kernel⟩,
   ⟨{ typ := 15, seq := 15, cur := 65535, volt := 65535, temp := 4095, status := 65535, aux := 4095 }, by decide +kernel⟩,
   ⟨UpFrame.encode { typ := 1, aux := 4095 }, { typ := 1, aux := 4095 }, by decide +kernel⟩⟩

theorem wit_everyStepKeepsTheDeviceConsistent :
    (∃ s t : State, s.dev.consistent ∧ step s = .next t) ∧
    (∃ (c : Instr) (s t : State), exec c s = .next t) :=
  ⟨⟨stIn .standby [(Reg.PWR_STATUS_PGOOD, 1)], _, by unfold Dev.consistent; decide +kernel, rfl⟩,
   ⟨.outputShort, stIn .idle [], _, rfl⟩⟩

theorem wit_resetsTakeTheDeviceToBoot :
    (∃ (s : State) (mv : Int), s.dev.mode = .off ∧ beyondAbsMax mv = false) ∧
    (∃ (s : State) (ns : Nat), s.dev.mode ≠ .off ∧ s.dev.mode ≠ .lastGasp ∧ s.dev.resetLow = false ∧ 10000 ≤ ns) ∧
    (∃ (s : State) (ns : Nat), ns < 1000) :=
  ⟨⟨stIn .off [], 1, by decide +kernel⟩,
   ⟨stIn .idle [], 10000, by decide +kernel⟩,
   ⟨stIn .idle [], 1, by decide +kernel⟩⟩

theorem wit_bootAndSelftestLeadOn :
    (∃ (s : State) (code : BitVec 3) (testN : Bool), s.runs ∧ s.dev.mode = .boot ∧ s.dev.internalCold = false) ∧
    (∃ (s : State) (mib : BitVec 16) (octal : Bool) (fb : BitVec 16) (host : Fin 64) (mram : MramReport), s.runs ∧
      s.dev.mode = .boot ∧ s.dev.vendorTest = false) ∧
    (∃ (s : State) (r : SelftestReport), s.runs ∧ s.dev.mode = .selftest) :=
  ⟨⟨stIn .boot [], 1#3, true, by decide +kernel⟩,
   ⟨stIn .boot [], 1#16, true, 1#16, 63, {}, by decide +kernel⟩,
   ⟨stIn .selftest [],
     { checker := true, march := [], images := true, canary := 4096, canaryAgain := 4096, island := true, vsup := 24000, falls := [], plcFail := 0, v5 := 100, v33 := 132, v18 := 144, vcore := 150, placement := [] },
     by decide +kernel⟩⟩

theorem wit_supplyLossTakesTheDeviceDown :
    (∃ (s : State) (mv : Int), beyondAbsMax mv = false ∧ s.dev.mode ≠ .off ∧ s.dev.mode ≠ .lastGasp ∧ s.dev.resetLow = false) ∧
    (∃ (s : State) (mv : Int), beyondAbsMax mv = false ∧ s.dev.mode ≠ .off ∧ s.dev.mode ≠ .lastGasp ∧ s.dev.resetLow = true) ∧
    (∃ (s : State) (mv e2 e3 : Nat), s.runs ∧ s.dev.mode = .lastGasp) :=
  ⟨⟨stIn .idle [], 1, by decide +kernel⟩,
   ⟨stIn .idle [] fun d => { d with resetLow := true }, 1, by decide +kernel⟩,
   ⟨stIn .lastGasp [], 1, 1, 1, by decide +kernel⟩⟩

theorem wit_stewardsRestart :
    (∃ s : State, s.serves ∧ s.dev.warming = false ∧ s.dev.mode ≠ .boot ∧ s.dev.mode ≠ .selftest ∧ s.dev.mode ≠ .thermal ∧
      s.dev.mode ≠ .recovery) ∧
    (∃ s : State, s.runs ∧ (s.dev.mode = .boot ∨ s.dev.mode = .selftest ∨ s.dev.mode = .thermal ∨ s.dev.mode = .recovery)) ∧
    (∃ s : State, s.runs ∧ s.dev.mode = .lastGasp) ∧
    (∃ s : State, s.runs ∧ s.dev.warming = true) ∧
    (∃ (s : State) (k : Fin 8), s.runs ∧ s.dev.warming = false ∧ s.dev.mode ≠ .boot ∧ s.dev.mode ≠ .lastGasp) ∧
    (∃ (s : State) (k : Fin 8) (bank : Fin 64) (word : Fin 32768) (synd : BitVec 8), s.runs ∧ s.dev.warming = false ∧
      s.dev.mode ≠ .boot ∧ s.dev.mode ≠ .lastGasp) :=
  ⟨⟨stIn .idle [], by decide +kernel⟩,
   ⟨stIn .boot [], by decide +kernel⟩,
   ⟨stIn .lastGasp [], by decide +kernel⟩,
   ⟨stIn .idle [] fun d => { d with warming := true }, by decide +kernel⟩,
   ⟨stIn .idle [], 7, by decide +kernel⟩,
   ⟨stIn .idle [], 7, 63, 32767, 1#8, by decide +kernel⟩⟩

theorem wit_periodBoundaryCounts :
    (∃ (s : State) (ns fabric ticks : Nat) (mm : BitVec 16), s.runs ∧ s.dev.mode ≠ .lastGasp ∧ s.dev.saf.ack = false) ∧
    (∃ (s : State) (ns fabric ticks : Nat) (mm : BitVec 16), s.runs ∧ s.dev.saf.ack = false ∧ s.dev.saf.exempt = true) ∧
    (∃ (s : State) (ns fabric ticks : Nat) (mm : BitVec 16), s.runs ∧ s.dev.saf.ack = false ∧ s.dev.saf.exempt = false) :=
  ⟨⟨stIn .idle [], 1, 1, 1, 1#16, by decide +kernel⟩,
   ⟨stIn .idle [] fun d => { d with saf := { d.saf with exempt := true } }, 1, 1, 1, 1#16, by decide +kernel⟩,
   ⟨stIn .idle [] fun d => { d with saf := { d.saf with exempt := false } }, 1, 1, 1, 1#16, by decide +kernel⟩⟩

theorem wit_canaryRailAndTimebases :
    (∃ (s : State) (laps : Nat), s.runs) :=
  ⟨stIn .idle [], 1, by decide +kernel⟩

theorem wit_outputsReleaseAndTap :
    (∃ (s : State) (n : Fin 16), s.dev.coldHold.contains n.val = true) :=
  ⟨stIn .idle [] fun d => { d with coldHold := [15] }, 15, by decide +kernel⟩

theorem wit_upFramesAreCheckedAndKept :
    (∃ (s : State) (str : Fin 64) (w : BitVec 104) (ok : Bool), s.hears ∧ s.dev.present str.val = true ∧
      (ok = false ∨ decodeUp w.toNat = none)) ∧
    (∃ (s : State) (str : Fin 64) (w : BitVec 104) (f : UpFrame), s.hears ∧ s.dev.present str.val = true ∧
      decodeUp w.toNat = some f ∧ f.typ ≠ 5 ∧ f.typ ≠ 6 ∧ (s.dev.str str.val).thermHold = false) :=
  ⟨⟨stIn .idle [(Reg.STR_STRCFG_PRESENT 63, 1)], 63, 1#104, true, by decide +kernel⟩,
   ⟨stIn .idle [(Reg.STR_STRCFG_PRESENT 63, 1)], 63, BitVec.ofNat 104 (UpFrame.encode { typ := 1, cur := 3 }),
     { typ := 1, cur := 3 }, by decide +kernel⟩⟩

theorem wit_downFramesCarryTheirSequence :
    (∃ s : State, s.runs ∧ s.dev.drives = true ∧ (s.dev.duplex && s.dev.dup.dnOff) = false) :=
  ⟨stIn .idle [], by decide +kernel⟩

theorem wit_blockHoldsTheArc :
    (∃ (s : State) (n : Fin 16), s.runs ∧ s.dev.drives = true ∧ (s.dev.duplex && s.dev.dup.dnOff) = false) :=
  ⟨stIn .idle [], 15, by decide +kernel⟩

theorem wit_stringsFaultAndRecover :
    (∃ (s : State) (str : Fin 64), s.runs ∧ s.dev.stringFails str.val = true ∧ s.dev.inkState str.val ≠ 5 ∧
      s.dev.get (Reg.STR_STRSTAT_FAULT str.val) = 0) ∧
    (∃ (s : State) (str : Fin 64), s.runs ∧
      (s.dev.get (Reg.STR_STRSTAT_FAULT str.val) = 1 ∨ (s.dev.str str.val).readmit = true) ∧ s.dev.inkState str.val ≠ 5 ∧
      64 ≤ (s.dev.str str.val).validRun ∧ ((s.dev.str str.val).up.state = 1 ∨ (s.dev.str str.val).up.state = 6) ∧
      (s.dev.str str.val).up.fault = false ∧ s.dev.get (Reg.OUT_STRCNT_FROZEN str.val) = 0) ∧
    (∃ (s : State) (str : Fin 64), s.runs ∧ s.dev.get (Reg.OUT_STRCNT_FROZEN str.val) = 1) :=
  ⟨⟨stIn .idle [(Reg.STR_STRSTAT_FAULT 63, 0), (Reg.STR_STRCFG_PRESENT 63, 1), (Reg.STR_STRSTAT_LOST 63, 8), (Reg.INK_STRING_STATE 63, 1)],
     63, by decide +kernel⟩,
   ⟨stIn .idle [(Reg.STR_STRSTAT_FAULT 63, 1), (Reg.INK_STRING_STATE 63, (5 + 1)), (Reg.OUT_STRCNT_FROZEN 63, 0)] fun d => d.modStr 63 fun q0 => { q0 with validRun := 64, up := { status := 8192 } },
     63, by decide +kernel⟩,
   ⟨stIn .idle [(Reg.OUT_STRCNT_FROZEN 63, 1)], 63, by decide +kernel⟩⟩

theorem wit_stringCommandsAct :
    (∃ s : State, s.serves) :=
  ⟨stIn .idle [], by decide +kernel⟩

theorem wit_interleaveSyncMovesThroughItsStates :
    (∃ (s : State) (interval : Nat) (ph : Int), s.runs ∧ s.dev.get Reg.TB_TB2CFG_SRC ≠ 0 ∧
      (s.dev.duplex && s.dev.drives) = false ∧ s.dev.syncInRate interval = false ∧
      (s.dev.get Reg.TB_TB2STAT_MISSED < 2 ∨ s.dev.get Reg.TB_TB2STAT_STATE = 0 ∨ s.dev.get Reg.TB_TB2STAT_STATE = 2)) ∧
    (∃ (s : State) (interval : Nat) (ph : Int), s.runs ∧ s.dev.get Reg.TB_TB2CFG_SRC ≠ 0 ∧
      (s.dev.duplex && s.dev.drives) = false ∧ s.dev.syncInRate interval = true) ∧
    (∃ (s : State) (interval : Nat) (ph : Int), s.runs ∧ (s.dev.duplex && s.dev.drives) = true) ∧
    (∃ s : State, s.runs ∧ s.dev.get Reg.TB_TB2CFG_SRC ≠ 0 ∧ 2 ≤ s.dev.get Reg.TB_TB2STAT_MISSED ∧
      (s.dev.get Reg.TB_TB2STAT_STATE = 1 ∨ s.dev.get Reg.TB_TB2STAT_STATE = 3)) ∧
    (∃ s : State, s.runs ∧ s.dev.get Reg.TB_TB2STAT_STATE = 2) ∧
    (∃ s : State, s.runs ∧ s.dev.get Reg.TB_TB2STAT_STATE = 3 ∧ 16 ≤ s.dev.syncNear) :=
  ⟨⟨stIn .idle [(Reg.TB_TB2CFG_SRC, (0 + 1))], 1, 1, by decide +kernel⟩,
   ⟨stIn .idle [(Reg.TB_TB2CFG_SRC, 1), (Reg.TB_TB2CFG_PERIOD, 100)], 100000, 1, by decide +kernel⟩,
   ⟨stIn .idle [(Reg.DUP_CFG_EN, 1), (Reg.DUP_STATUS_ROLE, 1)], 1, 1, by decide +kernel⟩,
   ⟨stIn .idle [(Reg.TB_TB2CFG_SRC, (0 + 1)), (Reg.TB_TB2STAT_MISSED, 2), (Reg.TB_TB2STAT_STATE, 1)], by decide +kernel⟩,
   ⟨stIn .idle [(Reg.TB_TB2STAT_STATE, 2)], by decide +kernel⟩,
   ⟨stIn .idle [(Reg.TB_TB2STAT_STATE, 3)] fun d => { d with syncNear := 16 }, by decide +kernel⟩⟩

theorem wit_senseFallsBackAndTelemetryLatches :
    (∃ (s : State) (n : Fin 16) (kind : Fin 3), s.runs ∧ s.dev.senseJudged n.val kind.val = true ∧
      (kind.val = 2 → s.dev.implausible n.val = true) ∧ (s.dev.out n.val).senseBad.testBit kind.val = false) ∧
    (∃ (s : State) (n : Fin 16) (kind : Fin 3), s.runs ∧ s.dev.senseJudged n.val kind.val = true ∧
      (kind.val = 2 → s.dev.implausible n.val = false)) ∧
    (∃ s : State, s.runs ∧ s.dev.windowDue = false) ∧
    (∃ s : State, s.runs ∧ s.dev.windowDue = true) ∧
    (∃ (s : State) (agent : Fin 3) (str : Fin 64) (q : Fin 4), s.serves ∧ s.dev.txn = none ∧
      tget none s.dev.hiLatch (Reg.STR_TELMAX_VALUE str.val q.val).addr = none) ∧
    (∃ (s : State) (agent : Fin 3), s.serves ∧ s.dev.txn = none ∧ tget none s.dev.hiLatch Reg.TB_TIME_LO_TIME.addr = none) ∧
    (∃ (s : State) (agent : Fin 3) (a : ReadAt), s.serves ∧ a.narrow = true) :=
  ⟨⟨stIn .idle [(Reg.OUT_CFG_TYPE 15, 1), (Reg.SAF_FBSTAT_BITS, 3 * 2 ^ 30)] fun d => d.modOut 15 fun q0 => { q0 with senseV := 1000 },
     15, 2, by decide +kernel⟩,
   ⟨stIn .idle [(Reg.OUT_CFG_TYPE 15, 1), (Reg.SAF_FBSTAT_BITS, 3 * 2 ^ 30)], 15, 2, by decide +kernel⟩,
   ⟨stIn .idle [], by decide +kernel⟩,
   ⟨stIn .idle [] fun d => { d with telWin := 1 }, by decide +kernel⟩,
   ⟨stIn .idle [], 2, 63, 3, by decide +kernel⟩,
   ⟨stIn .idle [], 2, by decide +kernel⟩,
   ⟨stIn .idle [], 2, { addr := 0x40000000, narrow := true }, by decide +kernel⟩⟩

theorem wit_weightsSumAndPhasesSpread :
    (∃ (d : Dev) (n i : Nat), n < 16 ∧ i < (d.activeStrings n).length) ∧
    (∃ raw : List (Nat × Nat), (∃ p ∈ raw, p.2 ≠ 0)) :=
  ⟨⟨(stIn .serve [(Reg.INK_STRING_STATE 63, 2), (Reg.INK_COURSE_ARC 15, 15), (Reg.STR_STRCFG_PRESENT 63, 1)]).dev, 15, 0,
     by decide +kernel⟩,
   ⟨[(0, 1)], by decide +kernel⟩⟩

theorem wit_setPointsSlewAndFretboardsInterpolate :
    (∃ (s sp : Int) (rise fall dt : Nat), rise ≠ 0 ∧ 0 ≤ s ∧ s ≤ sp) ∧
    (∃ (s sp : Int) (rise fall dt : Nat), fall ≠ 0 ∧ 0 ≤ sp ∧ sp ≤ s) ∧
    (∃ (frets : List (Nat × Nat)) (e : Nat), ∃ (b m : Nat), ∃ rest, risesStrictly (frets.map (·.1)) = true ∧
      frets = (b, m) :: rest ∧ e ≤ b) ∧
    (∃ (frets : List (Nat × Nat)) (e : Nat), ∃ (b m : Nat), ∃ front, risesStrictly (frets.map (·.1)) = true ∧
      frets = front ++ [(b, m)] ∧ b ≤ e) ∧
    (∃ (frets : List (Nat × Nat)) (e : Nat), ∃ front, ∃ (b0 m0 b1 m1 : Nat), ∃ rest, risesStrictly (frets.map (·.1)) = true ∧
      frets = front ++ (b0, m0) :: (b1, m1) :: rest ∧ b0 < e ∧ e ≤ b1) :=
  ⟨⟨1, 1, 1, 1, 1, by decide +kernel⟩,
   ⟨1, 1, 1, 1, 1, by decide +kernel⟩,
   ⟨[(1, 1)], 1, 1, 1, [], by decide +kernel⟩,
   ⟨[(1, 1)], 1, 1, 1, [], by decide +kernel⟩,
   ⟨[(1, 1), (3, 5)], 3, [], 1, 1, 3, 5, [], by decide +kernel⟩⟩

theorem wit_passesMeasureAndDrive :
    (∃ (s : State) (poison : List (Fin 128)) (i : Fin 128), s.runs ∧ 80 ≤ i.val ∧ s.dev.heaterOff i.val = false ∧
      s.dev.coolantBlind i.val = false ∧ s.dev.pluck.on = false ∧
      slotDue s.dev.period s.dev.periodUs (1000 * s.dev.get (Reg.TUN_SCFG_INTERVAL i.val)) = true ∧
      s.dev.get (Reg.TUN_SCFG_MODE i.val) = 1 ∧ (∀ p ∈ poison, p ≠ i)) :=
  ⟨stIn .idle [(Reg.TUN_SCFG_MODE 127, 1), (Reg.TUN_SCFG_INTERVAL 127, 100), (Reg.TB_TB2CFG_PERIOD, 100), (Reg.TB_PERIOD_LO_PERIOD_NUM, 1000)],
    [], 127, by decide +kernel⟩

theorem wit_slotsLeaveServiceAndSaturate :
    (∃ (s : State) (i : Fin 128), s.runs ∧ 8 ≤ s.dev.get (Reg.TUN_SSTAT_POISONCNT i.val) ∧ i.val < 80) ∧
    (∃ (s : State) (i : Fin 128), s.runs ∧ (80 ≤ i.val ∨ s.dev.get (Reg.TUN_SSTAT_POISONCNT i.val) < 8)) ∧
    (∃ (s : State) (i : Fin 128) (v : Int), s.runs ∧ s.dev.get (Reg.TUN_SCFG_MODE i.val) = 0 ∧ (s.dev.slot i.val).ran = true ∧
      s.dev.get (Reg.TUN_SSTAT_SAT i.val) = 0 ∧
      v = (if i.val < 16 ∧ s.dev.get (Reg.TUN_SSTAT_LAW i.val) = 1 then (s.dev.slot i.val).vi else (s.dev.slot i.val).i) ∧
      (v = s.dev.getI (Reg.TUN_IMIN_LIMIT i.val) * 65536 ∨ v = s.dev.getI (Reg.TUN_IMAX_LIMIT i.val) * 65536)) :=
  ⟨⟨stIn .idle [(Reg.TUN_SSTAT_POISONCNT 79, 8)], 79, by decide +kernel⟩,
   ⟨stIn .idle [], 127, by decide +kernel⟩,
   ⟨stIn .idle [(Reg.TUN_SCFG_MODE 127, 0), (Reg.TUN_SSTAT_SAT 127, 0), (Reg.TUN_IMAX_LIMIT 127, 5)] fun d => d.modSlot 127 fun q0 => { q0 with ran := true, i := 5 * 65536 },
     127, 5 * 65536, by decide +kernel⟩⟩

theorem wit_pluckTestsStartAndEnd :
    (∃ s : State, s.serves ∧ s.dev.drives = true) ∧
    (∃ s : State, s.serves ∧ s.dev.drives = false) ∧
    (∃ (d : Dev) (i : Nat), d.pluck.want = true ∧ i = d.get Reg.TUN_PLUCKCFG_SLOT ∧ d.pluckBar i = 0) ∧
    (∃ (d : Dev) (i : Nat), d.pluck.want = true ∧ i = d.get Reg.TUN_PLUCKCFG_SLOT ∧ d.pluckBar i ≠ 0) ∧
    (∃ s : State, s.serves ∧ s.dev.pluck.on = true) ∧
    (∃ s : State, s.runs ∧ s.dev.pluck.on = true ∧ s.dev.get Reg.TUN_PLUCKCFG_CYCLES ≠ 0 ∧
      s.dev.get Reg.TUN_PLUCKCFG_CYCLES + 2 ≤ s.dev.pluck.lens.length) ∧
    (∃ s : State, s.runs ∧ s.dev.pluck.on = true ∧ s.dev.pluckAbortCause ≠ 0) :=
  ⟨⟨stIn .idle [], by decide +kernel⟩,
   ⟨stIn .idle [(Reg.DUP_CFG_EN, 1), (Reg.DUP_STATUS_ROLE, 2)], by decide +kernel⟩,
   ⟨(stIn .commission [(Reg.TUN_PLUCKCFG_SLOT, 80), (Reg.TUN_PLUCKERR_ABORT, 1)] fun d => { d with pluck := { d.pluck with want := true } }).dev,
     80, by decide +kernel⟩,
   ⟨(stIn .idle [] fun d => { d with pluck := { d.pluck with want := true } }).dev, 0, by decide +kernel⟩,
   ⟨stIn .idle [] fun d => { d with pluck := { d.pluck with on := true } }, by decide +kernel⟩,
   ⟨stIn .idle [(Reg.TUN_PLUCKCFG_CYCLES, (0 + 1))] fun d => { d with pluck := { d.pluck with on := true, lens := [1, 1, 1] } },
     by decide +kernel⟩,
   ⟨stIn .idle [] fun d => { d with pluck := { d.pluck with on := true } }, by decide +kernel⟩⟩

theorem wit_bowSweepsStartAndEnd :
    (∃ s : State, s.serves ∧ s.dev.drives = true) ∧
    (∃ s : State, s.serves ∧ s.dev.drives = false) ∧
    (∃ (d : Dev) (i b : Nat), ∃ o, d.bow.want = true ∧ i = d.get Reg.TUN_BOWCFG_SLOT ∧ d.tuningBusy = false ∧
      d.mode = .commission ∧ i < 80 ∧ d.bowOutlet i < 16 ∧ d.get (Reg.OUT_CFG_TYPE (d.bowOutlet i)) = 3 ∧
      d.get (Reg.TUN_SCFG_MODE i) ≠ 1 ∧ d.bowCfgOk = true ∧ d.bow.held = false ∧ d.freeBank = some b ∧ o < 262144) ∧
    (∃ s : State, s.serves ∧ s.dev.bow.on = true) ∧
    (∃ s : State, s.serves ∧ s.dev.bow.on = false ∧ s.dev.bow.held = true ∧ s.dev.bow.bank < 64) ∧
    (∃ s : State, s.serves ∧ (s.dev.bow.on = true ∨ s.dev.bow.held = false)) ∧
    (∃ s : State, s.runs ∧ s.dev.bow.on = true ∧ (s.dev.bow.done = true ∨ s.dev.bow.full = true)) ∧
    (∃ s : State, s.runs ∧ s.dev.bow.on = true ∧ s.dev.bowAbortCause ≠ 0) :=
  ⟨⟨stIn .idle [], by decide +kernel⟩,
   ⟨stIn .idle [(Reg.DUP_CFG_EN, 1), (Reg.DUP_STATUS_ROLE, 2)], by decide +kernel⟩,
   ⟨(stIn .commission [(Reg.TUN_BOWCFG_SLOT, 3), (Reg.OUT_CFG_TYPE 3, 3), (Reg.TUN_BOWCFG_AMP, 50), (Reg.TUN_BOWCFG_DECIM, 1), (Reg.TUN_BOWPRBS_CHIP, 1)] fun d => { d with bow := { d.bow with want := true } }).dev,
     3, 0, 262143, by decide +kernel⟩,
   ⟨stIn .idle [] fun d => { d with bow := { d.bow with on := true } }, by decide +kernel⟩,
   ⟨stIn .idle [] fun d => { d with bow := { d.bow with held := true } }, by decide +kernel⟩,
   ⟨stIn .idle [] fun d => { d with bow := { d.bow with on := true } }, by decide +kernel⟩,
   ⟨stIn .idle [] fun d => let d := { d with bow := { d.bow with on := true } }; { d with bow := { d.bow with done := true } },
     by decide +kernel⟩,
   ⟨stIn .idle [] fun d => { d with bow := { d.bow with on := true, stop := true } }, by decide +kernel⟩⟩

theorem wit_roundsApplyAndInkSheds :
    (∃ (s : State) (r : RoundResult), s.runs ∧ s.dev.result = some r ∧ s.dev.mode.innkeeps = true) ∧
    (∃ (s : State) (n : Fin 16), s.runs ∧ (s.dev.out n.val).shedStart.isSome = true) ∧
    (∃ (d : Dev) (n : Nat), ∃ str, n < 16 ∧ (d.out n).shedStart.isSome = true ∧ (d.out n).shedDone = true ∧
      str ∈ (d.out n).shedSet ∧ str < 64 ∧ d.inkState str = 2) :=
  ⟨⟨stIn .idle [] fun d => { d with result := some {} }, {}, by decide +kernel⟩,
   ⟨stIn .idle [] fun d => d.modOut 15 fun q0 => { q0 with shedStart := some 4 }, 15, by decide +kernel⟩,
   ⟨(stIn .serve [(Reg.INK_STRING_STATE 63, 2)] fun d => d.modOut 15 fun q0 => { q0 with shedStart := some 4, shedDone := true, shedSet := [63] }).dev,
     15, 63, by decide +kernel⟩⟩

theorem wit_coursesLeaveUnderOneAmp :
    (∃ (s : State) (c : Fin 16), s.runs ∧ (s.dev.course c.val).step = 1 ∧ (s.dev.course c.val).frozenMove = false) ∧
    (∃ (s : State) (c : Fin 16), s.runs ∧ (s.dev.course c.val).step = 2 ∧ (s.dev.course c.val).frozenMove = false ∧
      (s.dev.course c.val).again = false ∧ (s.dev.course c.val).loose = false ∧ s.dev.underOneAmp c.val = true ∧
      (s.dev.course c.val).tie < 16 ∧ s.dev.tieClosed (s.dev.course c.val).tie = true ∧
      s.dev.tieShut (s.dev.course c.val).tie = false ∧ s.dev.bit Reg.INK_TIESTATE_MOVING (s.dev.course c.val).tie = false ∧
      s.dev.tiesMoving < s.dev.get Reg.INK_MOVECFG2_MAXTIES) ∧
    (∃ (s : State) (c : Fin 16), s.runs ∧ (s.dev.course c.val).step = 2 ∧ (s.dev.course c.val).frozenMove = false ∧
      (s.dev.course c.val).again = false ∧ (s.dev.course c.val).loose = false ∧ s.dev.underOneAmp c.val = false ∧
      (s.dev.course c.val).arc < 16) :=
  ⟨⟨stIn .idle [] fun d => d.modCourse 15 fun q0 => { q0 with step := 1 }, 15, by decide +kernel⟩,
   ⟨stIn .idle [(Reg.INK_TIESTATE_CLOSED, 2), (Reg.INK_MOVECFG2_MAXTIES, 1)] fun d => d.modCourse 15 fun q0 => { q0 with step := 2, tie := 1 },
     15, by decide +kernel⟩,
   ⟨stIn .idle [(Reg.STR_STRCFG_PRESENT 60, 1), (Reg.STR_STRSTAT_LOST 60, 1)] fun d => d.modCourse 15 fun q0 => { q0 with step := 2, arc := 15 },
     15, by decide +kernel⟩⟩

theorem wit_tiesFollowTheirFeedback :
    (∃ (s : State) (t : Fin 16) (closed : Bool), s.hears ∧ (s.dev.tieCfg t.val).isSome = true) ∧
    (∃ (s : State) (t : Fin 16) (closed : Bool), s.runs ∧ s.dev.tieCmd.testBit t.val ≠ closed) :=
  ⟨⟨stIn .idle [] fun d => { d with tab := { d.tab with ties := [{ tie := 15, chan := 47 }] } }, 15, true, by decide +kernel⟩,
   ⟨stIn .idle [], 15, true, by decide +kernel⟩⟩

theorem wit_coursesJoinThroughTheWindow :
    (∃ (s : State) (c : Fin 16), s.runs ∧ (s.dev.course c.val).step = 4 ∧ (s.dev.course c.val).frozenMove = false ∧
      s.dev.chain (s.dev.course c.val).arc c.val = [c.val] ∧ s.dev.inWindow (s.dev.course c.val).arc c.val = true ∧
      s.dev.tiesMoving < s.dev.get Reg.INK_MOVECFG2_MAXTIES ∧ popCount 16 s.dev.tieCmd < 15) ∧
    (∃ (s : State) (c : Fin 16), s.runs ∧ (s.dev.course c.val).step = 6 ∧ (s.dev.course c.val).frozenMove = false ∧
      (s.dev.course c.val).pencil = false ∧ (s.dev.course c.val).again = false ∧ (s.dev.course c.val).loose = false ∧
      (s.dev.course c.val).arc < 16) :=
  ⟨⟨stIn .idle [(Reg.INK_MOVECFG2_MAXTIES, 1)] fun d => d.modCourse 15 fun q0 => { q0 with step := 4, arc := 15 }, 15,
     by decide +kernel⟩,
   ⟨stIn .idle [] fun d => d.modCourse 15 fun q0 => { q0 with step := 6, arc := 15 }, 15, by decide +kernel⟩⟩

theorem wit_thePursePlans :
    (∃ s : State, s.runs ∧ s.dev.mode.innkeeps = true ∧
      (s.dev.purse.planned = false ∨ s.dev.purse.planSec ≠ s.dev.time / 1000000000)) ∧
    (∃ s : State, s.runs ∧ s.dev.get Reg.PRS_STATUS_STALE ≠ 1) ∧
    (∃ (s : State) (port : Fin 4) (f : CanFrame) (m : CanMap), s.hears ∧ (s.dev.tab.canMap.find? fun m => m.role = 1) = some m ∧
      m.port = port.val ∧ f.id = m.id % 2 ^ 29 ∧ f.ide = m.id.testBit 30 ∧ m.offset + m.width ≤ f.data.length) ∧
    (∃ s : State, s.runs ∧ s.dev.purse.winStart ≠ s.dev.windowStart) :=
  ⟨⟨stIn .idle [], by decide +kernel⟩,
   ⟨stIn .idle [(Reg.PRS_STATUS_STALE, (1 + 1))], by decide +kernel⟩,
   ⟨stIn .idle [] fun d => { d with tab := { d.tab with canMap := [{ role := 1, port := 3, width := 2, id := 257 }] } }, 3,
     { id := 257, data := [1, 2] }, { role := 1, port := 3, width := 2, id := 257 }, by decide +kernel⟩,
   ⟨stIn .idle [] fun d => { d with purse := { d.purse with winStart := 5 } }, by decide +kernel⟩⟩

theorem wit_devicePowerIsBudgeted :
    (∃ (s : State) (p : Nat) (rest : List Nat) (w : Nat × Nat), s.runs ∧ s.dev.devBudget < p ∧ s.dev.nextShed = some w) ∧
    (∃ (s : State) (p : Nat) (w : Nat × Nat) (rest : List (Nat × Nat)), s.runs ∧ p + 100 ≤ s.dev.devBudget ∧
      s.dev.purse.shedWork = w :: rest) ∧
    (∃ (s : State) (n : Fin 16), s.runs ∧ s.dev.get (Reg.VLK_LINK_LSTATE n.val) = 0) :=
  ⟨⟨stIn .idle [(Reg.MEM_BANKOWN_PWR 0, 0)], 1, [], (1, 0), by decide +kernel⟩,
   ⟨stIn .idle [(Reg.PRS_DEVCFG_BUDGET, 100)] fun d => { d with purse := { d.purse with shedWork := [(1, 0), (1, 1)] } }, 900,
     (1, 0), [(1, 1)], by decide +kernel⟩,
   ⟨stIn .idle [(Reg.VLK_LINK_LSTATE 15, 0)], 15, by decide +kernel⟩⟩

theorem wit_transitionsTakeEffectAtTheBoundary :
    (∃ (d : Dev) (n : Fin 16) (x : SessNext), (d.out n.val).next = some x ∧
      (x.state = 4 ∨ x.state = 6 ∨ x.state = 10 ∨ x.state = 11) ∧ x.state = 4) ∧
    (∃ (d : Dev) (n : Fin 16) (x : SessNext), (d.out n.val).next = some x ∧
      (x.state = 4 ∨ x.state = 6 ∨ x.state = 10 ∨ x.state = 11) ∧ 10 ≤ x.state) ∧
    (∃ (d : Dev) (n : Fin 16) (x : SessNext), (d.out n.val).next = some x ∧
      (x.state = 4 ∨ x.state = 6 ∨ x.state = 10 ∨ x.state = 11) ∧ x.cause ≠ 0) :=
  ⟨⟨(stIn .serve [] fun d => d.modOut 15 fun q0 => { q0 with next := some { state := 4 } }).dev, 15, { state := 4 },
     by decide +kernel⟩,
   ⟨(stIn .serve [] fun d => d.modOut 15 fun q0 => { q0 with next := some { state := 10 } }).dev, 15, { state := 10 },
     by decide +kernel⟩,
   ⟨(stIn .serve [] fun d => d.modOut 15 fun q0 => { q0 with next := some { state := 10, cause := 12 } }).dev, 15,
     { state := 10, cause := 12 }, by decide +kernel⟩⟩

theorem wit_sessionsMoveForward :
    (∃ (s : State) (n : Fin 16) (r : ConnRead), s.hears ∧
      (s.dev.get (Reg.OUT_CFG_TYPE n.val) = 1 ∨ s.dev.get (Reg.OUT_CFG_TYPE n.val) = 2) ∧ s.dev.sess n.val = 1 ∧
      s.dev.mayStart n.val = true ∧ s.dev.settled n.val ∧ r.stood = true ∧ (r.state = 1 ∨ r.state = 2)) ∧
    (∃ (s : State) (n : Fin 16) (r : ConnRead), s.hears ∧
      (s.dev.get (Reg.OUT_CFG_TYPE n.val) = 1 ∨ s.dev.get (Reg.OUT_CFG_TYPE n.val) = 2) ∧ s.dev.sess n.val = 1 ∧
      s.dev.mayStart n.val = true ∧ s.dev.settled n.val ∧ r.stood = false) ∧
    (∃ (s : State) (n : Fin 16) (proto : BitVec 3) (eim : Bool), s.hears ∧ s.dev.sess n.val = 4 ∧ s.dev.safeWait = false ∧
      s.dev.get (Reg.OUT_CFG_LEGAL n.val) = 0 ∧ s.dev.offers n.val proto.toNat = true ∧ s.dev.settled n.val) ∧
    (∃ (s : State) (n : Fin 16) (chain : List Byte), s.hears ∧ s.dev.sess n.val = 5 ∧ s.dev.get (Reg.OUT_CFG_PNC n.val) = 1 ∧
      2 ≤ s.dev.get (Reg.OUT_SESS_PROTO n.val) ∧ s.dev.timeKnown = true ∧ s.dev.get Reg.VLK_TLSCFG_REVCHK = 0 ∧
      s.dev.settled n.val) ∧
    (∃ (s : State) (n : Fin 16), s.serves ∧ s.dev.sess n.val = 5 ∧ s.dev.settled n.val ∧ (s.dev.out n.val).eimSel = true) ∧
    (∃ (s : State) (n : Fin 16), s.serves ∧ s.dev.sess n.val = 5 ∧ s.dev.settled n.val ∧ (s.dev.out n.val).eimSel = false) ∧
    (∃ (s : State) (n : Fin 16) (minV maxV maxI disV : BitVec 16) (maxW : Option Nat), s.hears ∧ s.dev.sess n.val = 6 ∧
      minV.toNat ≤ s.dev.get (Reg.OUT_RATING_VMAX n.val) ∧ 1500 ≤ maxV.toNat ∧ s.dev.get (Reg.OUT_SESS_PROTO n.val) ≠ 4) ∧
    (∃ (s : State) (n : Fin 16) (minV maxV maxI disV : BitVec 16) (maxW : Option Nat), s.hears ∧ s.dev.sess n.val = 6 ∧
      s.dev.settled n.val ∧ (s.dev.get (Reg.OUT_RATING_VMAX n.val) < minV.toNat ∨ maxV.toNat < 1500)) ∧
    (∃ (s : State) (n : Fin 16), s.hears ∧ s.dev.sess n.val = 6 ∧ s.dev.settled n.val ∧ (s.dev.out n.val).accepted = true ∧
      s.dev.get (Reg.CAB_STAT_LATCH n.val) = 0) ∧
    (∃ (s : State) (n : Fin 16) (vt : BitVec 16), s.hears ∧ s.dev.sess n.val = 7 ∧ s.dev.settled n.val) ∧
    (∃ (s : State) (n : Fin 16), s.hears ∧ s.dev.sess n.val = 8 ∧ s.dev.settled n.val) ∧
    (∃ (s : State) (n : Fin 16) (i v : BitVec 16), s.hears ∧ s.dev.sess n.val = 9 ∧ 0 ≤ i.toInt) ∧
    (∃ (s : State) (n : Fin 16), s.hears ∧ 3 ≤ s.dev.get (Reg.OUT_SESS_PROTO n.val) ∧ s.dev.settled n.val ∧
      s.dev.sess n.val = 9) ∧
    (∃ (s : State) (n : Fin 16), s.hears ∧ 3 ≤ s.dev.get (Reg.OUT_SESS_PROTO n.val) ∧ s.dev.settled n.val ∧
      s.dev.sess n.val = 10) :=
  ⟨⟨stIn .idle [(Reg.OUT_CFG_TYPE 15, 1), (Reg.OUT_SESS_STATE 15, 1)], 15, { state := 1, stood := true }, by decide +kernel⟩,
   ⟨stIn .idle [(Reg.OUT_CFG_TYPE 15, 1), (Reg.OUT_SESS_STATE 15, 1)], 15, { state := 3, stood := false }, by decide +kernel⟩,
   ⟨stIn .idle [(Reg.OUT_SESS_STATE 15, 4), (Reg.OUT_CFG_LEGAL 15, 0), (Reg.OUT_CFG_TYPE 15, 1), (Reg.OUT_CFG_DIN 15, 1)], 15,
     1#3, true, by decide +kernel⟩,
   ⟨stIn .idle [(Reg.OUT_SESS_STATE 15, 5), (Reg.OUT_CFG_PNC 15, 1), (Reg.OUT_SESS_PROTO 15, 2), (Reg.TB_RTC_SEC_SEC, 1577836800), (Reg.VLK_TLSCFG_REVCHK, 0)],
     15, [], by decide +kernel⟩,
   ⟨stIn .idle [(Reg.OUT_SESS_STATE 15, 5)] fun d => d.modOut 15 fun q0 => { q0 with eimSel := true }, 15, by decide +kernel⟩,
   ⟨stIn .idle [(Reg.OUT_SESS_STATE 15, 5)], 15, by decide +kernel⟩,
   ⟨stIn .idle [(Reg.OUT_SESS_STATE 15, 6), (Reg.OUT_SESS_PROTO 15, (4 + 1)), (Reg.OUT_RATING_VMAX 15, 100)], 15, 1#16, 1500#16,
     1#16, 1#16, none, by decide +kernel⟩,
   ⟨stIn .idle [(Reg.OUT_SESS_STATE 15, 6)], 15, 1#16, 1#16, 1#16, 1#16, none, by decide +kernel⟩,
   ⟨stIn .idle [(Reg.OUT_SESS_STATE 15, 6), (Reg.CAB_STAT_LATCH 15, 0)] fun d => d.modOut 15 fun q0 => { q0 with accepted := true },
     15, by decide +kernel⟩,
   ⟨stIn .idle [(Reg.OUT_SESS_STATE 15, 7)], 15, 1#16, by decide +kernel⟩,
   ⟨stIn .idle [(Reg.OUT_SESS_STATE 15, 8)], 15, by decide +kernel⟩,
   ⟨stIn .idle [(Reg.OUT_SESS_STATE 15, 9)], 15, 1#16, 1#16, by decide +kernel⟩,
   ⟨stIn .idle [(Reg.OUT_SESS_PROTO 15, 3), (Reg.OUT_SESS_STATE 15, 9)], 15, by decide +kernel⟩,
   ⟨stIn .idle [(Reg.OUT_SESS_PROTO 15, 3), (Reg.OUT_SESS_STATE 15, 10)], 15, by decide +kernel⟩⟩

theorem wit_sessionsEndByTheirState :
    (∃ (s : State) (n : Fin 16), s.hears ∧ (s.dev.get (Reg.OUT_CFG_TYPE n.val) = 1 ∨ s.dev.get (Reg.OUT_CFG_TYPE n.val) = 2) ∧
      2 ≤ s.dev.sess n.val ∧ s.dev.sess n.val ≤ 6 ∧ s.dev.settled n.val) ∧
    (∃ (s : State) (n : Fin 16), s.runs ∧ s.dev.settled n.val ∧ 3 ≤ s.dev.sess n.val ∧ s.dev.sess n.val ≤ 6) ∧
    (∃ (s : State) (n : Fin 16), s.runs ∧ s.dev.settled n.val ∧ (s.dev.sess n.val = 7 ∨ s.dev.sess n.val = 8)) ∧
    (∃ (s : State) (n : Fin 16), s.runs ∧ s.dev.settled n.val ∧ (s.dev.sess n.val = 9 ∨ s.dev.sess n.val = 10) ∧
      s.dev.fed = false) ∧
    (∃ (s : State) (n : Fin 16), s.runs ∧ s.dev.settled n.val ∧ (s.dev.sess n.val = 9 ∨ s.dev.sess n.val = 10) ∧
      s.dev.mode ≠ .lastGasp) ∧
    (∃ (s : State) (n : Fin 16), s.serves ∧ s.dev.settled n.val ∧ (s.dev.sess n.val = 14 ∨ s.dev.sess n.val = 15)) ∧
    (∃ (s : State) (n : Fin 16), s.serves ∧ s.dev.settled n.val ∧ s.dev.sess n.val = 0) ∧
    (∃ (s : State) (n : Fin 16), s.serves ∧ s.dev.settled n.val ∧ s.dev.mode = .commission ∧
      s.dev.get (Reg.OUT_CFG_TYPE n.val) = 3 ∧ (s.dev.sess n.val = 1 ∨ s.dev.sess n.val = 14)) ∧
    (∃ (s : State) (n : Fin 16), s.runs ∧ s.dev.sess n.val = 9 ∧ s.dev.get (Reg.INK_GRANT_KW n.val) = 0 ∧
      (s.dev.out n.val).grantW = 0) ∧
    (∃ (s : State) (n : Fin 16), s.runs ∧ s.dev.sess n.val = 9 ∧ s.dev.settled n.val ∧ s.dev.activeStrings n.val = []) :=
  ⟨⟨stIn .idle [(Reg.OUT_CFG_TYPE 15, 1), (Reg.OUT_SESS_STATE 15, 6)], 15, by decide +kernel⟩,
   ⟨stIn .idle [(Reg.OUT_SESS_STATE 15, 6)], 15, by decide +kernel⟩,
   ⟨stIn .idle [(Reg.OUT_SESS_STATE 15, 7)], 15, by decide +kernel⟩,
   ⟨stIn .idle [(Reg.OUT_SESS_STATE 15, 9)], 15, by decide +kernel⟩,
   ⟨stIn .idle [(Reg.OUT_SESS_STATE 15, 9)], 15, by decide +kernel⟩,
   ⟨stIn .idle [(Reg.OUT_SESS_STATE 15, 14)], 15, by decide +kernel⟩,
   ⟨stIn .idle [(Reg.OUT_SESS_STATE 15, 0)], 15, by decide +kernel⟩,
   ⟨stIn .commission [(Reg.OUT_CFG_TYPE 15, 3), (Reg.OUT_SESS_STATE 15, 1)], 15, by decide +kernel⟩,
   ⟨stIn .idle [(Reg.OUT_SESS_STATE 15, 9), (Reg.INK_GRANT_KW 15, 0)] fun d => d.modOut 15 fun q0 => { q0 with grantW := 0 },
     15, by decide +kernel⟩,
   ⟨stIn .idle [(Reg.OUT_SESS_STATE 15, 9)], 15, by decide +kernel⟩⟩

theorem wit_cableCheckProtects :
    (∃ (s : State) (n : Fin 16), s.hears ∧ s.dev.sess n.val = 7 ∧ s.dev.get (Reg.OUT_CFG_LOCK n.val) = 1) ∧
    (∃ (s : State) (n : Fin 16), s.runs ∧ s.dev.sess n.val = 7 ∧ (s.dev.out n.val).lockOk = false ∧ s.dev.settled n.val) ∧
    (∃ (s : State) (n : Fin 16) (m : IsoReading), s.runs ∧ 7 ≤ s.dev.sess n.val ∧ s.dev.sess n.val ≤ 12 ∧
      (s.dev.sess n.val = 7 → (s.dev.out n.val).lockOk = true ∧ 2 ≤ (s.dev.out n.val).isoCycles)) ∧
    (∃ (s : State) (n : Fin 16) (m : IsoReading), s.runs ∧ s.dev.sess n.val = 7 ∧ (s.dev.out n.val).lockOk = true ∧
      (s.dev.out n.val).isoCycles < 2) ∧
    (∃ (s : State) (n : Fin 16) (m : IsoReading), s.runs ∧ s.dev.sess n.val = 7 ∧ (s.dev.out n.val).lockOk = true ∧
      2 ≤ (s.dev.out n.val).isoCycles ∧ (s.dev.out n.val).isoCycles ≤ 5 ∧ s.dev.settled n.val) ∧
    (∃ (s : State) (n : Fin 16), s.runs ∧ s.dev.sess n.val = 7 ∧ (s.dev.out n.val).lockOk = true ∧
      (s.dev.out n.val).isoPassed = true ∧ s.dev.get (Reg.INK_COURSE_STATE n.val) = 0 ∧ s.dev.settled n.val) :=
  ⟨⟨stIn .idle [(Reg.OUT_SESS_STATE 15, 7), (Reg.OUT_CFG_LOCK 15, 1)], 15, by decide +kernel⟩,
   ⟨stIn .idle [(Reg.OUT_SESS_STATE 15, 7)], 15, by decide +kernel⟩,
   ⟨stIn .idle [(Reg.OUT_SESS_STATE 15, 12)], 15, { pos := [25000], neg := [-24000] }, by decide +kernel⟩,
   ⟨stIn .idle [(Reg.OUT_SESS_STATE 15, 7)] fun d => d.modOut 15 fun q0 => { q0 with lockOk := true }, 15,
     { pos := [25000], neg := [-24000] }, by decide +kernel⟩,
   ⟨stIn .idle [(Reg.OUT_SESS_STATE 15, 7)] fun d => let d := d.modOut 15 fun q0 => { q0 with lockOk := true }; d.modOut 15 fun q0 => { q0 with isoCycles := 2 },
     15, { pos := [25000], neg := [-24000] }, by decide +kernel⟩,
   ⟨stIn .idle [(Reg.OUT_SESS_STATE 15, 7), (Reg.INK_COURSE_STATE 15, 0)] fun d => let d := d.modOut 15 fun q0 => { q0 with lockOk := true }; d.modOut 15 fun q0 => { q0 with isoPassed := true },
     15, by decide +kernel⟩⟩

theorem wit_prechargeBringsTheCableUp :
    (∃ (s : State) (n : Fin 16), s.runs ∧ s.dev.sess n.val = 8 ∧ (s.dev.out n.val).contReq = true ∧
      (s.dev.out n.val).closed = false ∧ (s.dev.out n.val).commanded = true ∧ s.dev.settled n.val) ∧
    (∃ (s : State) (n : Fin 16), s.runs ∧ s.dev.sess n.val = 8 ∧ (s.dev.out n.val).preActive = true ∧
      10 * (s.dev.out n.val).senseV ≤ ((s.dev.out n.val).vt : Int) ∧ s.dev.settled n.val) ∧
    (∃ (s : State) (n : Fin 16), s.runs ∧ s.dev.sess n.val = 8 ∧ (s.dev.out n.val).softWait = true) ∧
    (∃ (s : State) (n : Fin 16), s.runs ∧ s.dev.sess n.val = 8 ∧ (s.dev.out n.val).preActive = true ∧
      ((s.dev.out n.val).senseV - (s.dev.out n.val).vt).natAbs ≤ 100 ∧ s.dev.settled n.val) :=
  ⟨⟨stIn .idle [(Reg.OUT_SESS_STATE 15, 8)] fun d => let d := d.modOut 15 fun q0 => { q0 with contReq := true }; d.modOut 15 fun q0 => { q0 with commanded := true },
     15, by decide +kernel⟩,
   ⟨stIn .idle [(Reg.OUT_SESS_STATE 15, 8)] fun d => d.modOut 15 fun q0 => { q0 with preActive := true }, 15, by decide +kernel⟩,
   ⟨stIn .idle [(Reg.OUT_SESS_STATE 15, 8)] fun d => d.modOut 15 fun q0 => { q0 with softWait := true }, 15, by decide +kernel⟩,
   ⟨stIn .idle [(Reg.OUT_SESS_STATE 15, 8)] fun d => d.modOut 15 fun q0 => { q0 with preActive := true }, 15, by decide +kernel⟩⟩

theorem wit_sessionsRunDownAndRetry :
    (∃ (s : State) (n : Fin 16), s.runs ∧ s.dev.sess n.val = 11 ∧ (s.dev.out n.val).senseI.natAbs ≤ 20 ∧
      s.dev.stopIn n.val = true ∧ s.dev.settled n.val) ∧
    (∃ (s : State) (n : Fin 16), s.runs ∧ s.dev.sess n.val = 11 ∧ 20 < (s.dev.out n.val).senseI.natAbs ∧ s.dev.settled n.val) ∧
    (∃ (s : State) (n : Fin 16) (v : Nat), s.runs ∧ s.dev.sess n.val = 12 ∧ (s.dev.out n.val).opened = true ∧ v ≤ 600 ∧
      s.dev.bit (Reg.SAF_OSTAT_LATCH n.val) 3 = false ∧ s.dev.arcHeld n.val = false ∧ s.dev.settled n.val) ∧
    (∃ (s : State) (n : Fin 16) (v : Nat), s.runs ∧ s.dev.sess n.val = 12 ∧ (s.dev.out n.val).opened = true ∧ 600 < v ∧
      s.dev.settled n.val) ∧
    (∃ (s : State) (n : Fin 16), s.hears ∧ s.dev.sess n.val = 13 ∧ (s.dev.out n.val).senseV < 600 ∧ s.dev.settled n.val) ∧
    (∃ (s : State) (n : Fin 16), s.runs ∧ s.dev.sess n.val = 13 ∧ s.dev.settled n.val) ∧
    (∃ (d : Dev) (n : Fin 16), (d.out n.val).retryOwed = true ∧ d.sess n.val = 14 ∧ d.get (Reg.OUT_RETRY_PENDING n.val) = 1 ∧
      d.get (Reg.OUT_RETRY_FROZEN n.val) = 0 ∧ (d.out n.val).conn = some true ∧ (d.out n.val).retries.length < 3 ∧
      d.mayStart n.val = true ∧ d.settled n.val) ∧
    (∃ (s : State) (k : Fin 16), s.runs ∧ s.dev.get (Reg.OUT_RETRY_FROZEN k.val) = 0) ∧
    (∃ (s : State) (str : Fin 64), s.runs ∧ s.dev.get (Reg.OUT_STRCNT_FROZEN str.val) = 0) ∧
    (∃ (d : Dev) (str : Fin 64), d.bit2 Reg.OUT_STRLATCH_LO_LATCH Reg.OUT_STRLATCH_HI_LATCH str.val = true) :=
  ⟨⟨stIn .idle [(Reg.OUT_SESS_STATE 15, 11)] fun d => d.modOut 15 fun q0 => { q0 with senseI := -20, linkGone := true }, 15,
     by decide +kernel⟩,
   ⟨stIn .idle [(Reg.OUT_SESS_STATE 15, 11)] fun d => d.modOut 15 fun q0 => { q0 with senseI := -21 }, 15, by decide +kernel⟩,
   ⟨stIn .idle [(Reg.OUT_SESS_STATE 15, 12)] fun d => d.modOut 15 fun q0 => { q0 with opened := true }, 15, 1,
     by decide +kernel⟩,
   ⟨stIn .idle [(Reg.OUT_SESS_STATE 15, 12)] fun d => d.modOut 15 fun q0 => { q0 with opened := true }, 15, 601,
     by decide +kernel⟩,
   ⟨stIn .idle [(Reg.OUT_SESS_STATE 15, 13)], 15, by decide +kernel⟩,
   ⟨stIn .idle [(Reg.OUT_SESS_STATE 15, 13)], 15, by decide +kernel⟩,
   ⟨(stIn .idle [(Reg.OUT_SESS_STATE 15, 14), (Reg.OUT_RETRY_PENDING 15, 1), (Reg.OUT_RETRY_FROZEN 15, 0)] fun d => let d := d.modOut 15 fun q0 => { q0 with retryOwed := true }; d.modOut 15 fun q0 => { q0 with conn := some true }).dev,
     15, by decide +kernel⟩,
   ⟨stIn .idle [(Reg.OUT_RETRY_FROZEN 15, 0)], 15, by decide +kernel⟩,
   ⟨stIn .idle [(Reg.OUT_STRCNT_FROZEN 63, 0)], 63, by decide +kernel⟩,
   ⟨(stIn .serve [(Reg.OUT_STRLATCH_HI_LATCH, 2 ^ 31)]).dev, 63, by decide +kernel⟩⟩

theorem wit_vehicleLinksMatch :
    (∃ (s : State) (n : Fin 16) (id : BitVec 64), s.hears ∧ s.dev.sess n.val = 3 ∧ s.dev.plcOn n.val = true) ∧
    (∃ (s : State) (id : BitVec 64) (sounds : List (List (List Nat))) (r : SlacRun), s.hears ∧
      s.dev.links.run id.toNat = some r ∧ r.stop = none) ∧
    (∃ (s : State) (n : Fin 16) (id : BitVec 64), s.hears ∧ s.dev.links.wins n.val id.toNat = true ∧ s.dev.sess n.val = 3 ∧
      s.dev.settled n.val) ∧
    (∃ (s : State) (n : Fin 16) (id : BitVec 64) (joined : Bool), s.hears ∧ s.dev.links.wins n.val id.toNat = false) ∧
    (∃ (s : State) (n : Fin 16) (id : BitVec 64) (toggles : Nat), s.hears ∧ s.dev.links.wins n.val id.toNat = true) ∧
    (∃ (s : State) (n : Fin 16) (id : BitVec 64) (toggles : Nat), s.hears ∧ s.dev.links.wins n.val id.toNat = false) ∧
    (∃ (s : State) (n : Fin 16), s.hears ∧ s.dev.get (Reg.OUT_CFG_TYPE n.val) = 2 ∧ s.dev.get (Reg.VLK_LINK_LSTATE n.val) ≠ 0 ∧
      s.dev.get (Reg.OUT_RETRY_PENDING n.val) = 0 ∧ s.dev.settled n.val) ∧
    (∃ (s : State) (n : Fin 16) (jabber : Bool), s.hears ∧ s.dev.get (Reg.OUT_CFG_TYPE n.val) = 2 ∧
      s.dev.get (Reg.VLK_LINK_LSTATE n.val) = 5) ∧
    (∃ (s : State) (n : Fin 16) (head : PlcHead) (symbols : List PlcSymbol) (blocks : List PlcBlock), s.runs ∧
      s.dev.plcOn n.val = true) ∧
    (∃ (s : State) (n : Fin 16) (fresh : Bool), s.runs ∧ s.dev.plcOn n.val = true) ∧
    (∃ s : State, s.runs ∧ s.dev.get Reg.VLK_BCNSTAT_STATE ≠ 1) ∧
    (∃ (s : State) (err : Int), s.runs ∧ s.dev.get Reg.VLK_BCNSTAT_STATE = 1 ∧ 8 ≤ s.dev.links.beaconGood) :=
  ⟨⟨stIn .idle [(Reg.OUT_SESS_STATE 15, 3), (Reg.OUT_CFG_TYPE 15, 1), (Reg.VLK_LINK_LSTATE 15, 1)], 15, 1#64, by decide +kernel⟩,
   ⟨stIn .idle [] fun d => { d with links := { d.links with runs := [{ id := 1 }] } }, 1#64, [], { id := 1 }, by decide +kernel⟩,
   ⟨stIn .idle [(Reg.OUT_SESS_STATE 15, 3)] fun d => { d with links := { d.links with runs := [{ id := 1, winner := some 15 }] } },
     15, 1#64, by decide +kernel⟩,
   ⟨stIn .idle [], 15, 1#64, true, by decide +kernel⟩,
   ⟨stIn .idle [] fun d => { d with links := { d.links with runs := [{ id := 1, winner := some 15 }] } }, 15, 1#64, 1,
     by decide +kernel⟩,
   ⟨stIn .idle [], 15, 1#64, 1, by decide +kernel⟩,
   ⟨stIn .idle [(Reg.OUT_CFG_TYPE 15, 2), (Reg.VLK_LINK_LSTATE 15, (0 + 1)), (Reg.OUT_RETRY_PENDING 15, 0)], 15,
     by decide +kernel⟩,
   ⟨stIn .idle [(Reg.OUT_CFG_TYPE 15, 2), (Reg.VLK_LINK_LSTATE 15, 5)], 15, true, by decide +kernel⟩,
   ⟨stIn .idle [(Reg.OUT_CFG_TYPE 15, 1), (Reg.VLK_LINK_LSTATE 15, 1)], 15, { robo := 1 }, [], [], by decide +kernel⟩,
   ⟨stIn .idle [(Reg.OUT_CFG_TYPE 15, 1), (Reg.VLK_LINK_LSTATE 15, 1)], 15, true, by decide +kernel⟩,
   ⟨stIn .idle [(Reg.VLK_BCNSTAT_STATE, (1 + 1))], by decide +kernel⟩,
   ⟨stIn .idle [(Reg.VLK_BCNSTAT_STATE, 1)] fun d => { d with links := { d.links with beaconGood := 8 } }, 1, by decide +kernel⟩⟩

theorem wit_messagesRelaysAndIdentities :
    (∃ (s : State) (n : Fin 16) (src : BitVec 48) (m : V2g), s.hears ∧ s.dev.evccid n.val ≠ 0 ∧ s.dev.evccid n.val ≠ src.toNat) ∧
    (∃ (s : State) (n : Fin 16) (src : BitVec 48) (h : Handshake), s.hears ∧ 4 ≤ s.dev.sess n.val ∧ s.dev.sess n.val ≤ 6 ∧
      s.dev.evccid n.val = src.toNat ∧ s.dev.settled n.val ∧ s.dev.handshakeOk n.val h = false) ∧
    (∃ (s : State) (n : Fin 16) (src : BitVec 48) (h : Handshake), s.hears ∧ 5 ≤ s.dev.sess n.val ∧ s.dev.sess n.val ≤ 13 ∧
      s.dev.evccid n.val = src.toNat ∧ s.dev.handshakeOk n.val h = true) ∧
    (∃ (s : State) (n : Fin 16) (src : BitVec 48) (dynamic : Bool) (sec wh : BitVec 32), s.hears ∧ 5 ≤ s.dev.sess n.val ∧
      s.dev.sess n.val ≤ 13 ∧ s.dev.evccid n.val = src.toNat) ∧
    (∃ (s : State) (n : Fin 16) (src : BitVec 48) (es : List (Nat × Nat)), s.hears ∧ 5 ≤ s.dev.sess n.val ∧
      s.dev.sess n.val ≤ 13 ∧ s.dev.evccid n.val = src.toNat) ∧
    (∃ (s : State) (n : Fin 16) (src : BitVec 48), s.hears ∧ s.dev.sess n.val = 12 ∧ s.dev.evccid n.val = src.toNat) ∧
    (∃ (s : State) (n : Fin 16) (src : BitVec 48) (upd : Bool) (req : List Byte), s.hears ∧ 5 ≤ s.dev.sess n.val ∧
      s.dev.sess n.val ≤ 13 ∧ s.dev.evccid n.val = src.toNat ∧ s.dev.relays n.val upd = true ∧
      s.dev.get Reg.VLK_RELAYCFG_EN ≠ 0) ∧
    (∃ (s : State) (n : Fin 16) (src : BitVec 48), s.hears ∧ s.dev.sess n.val = 4 ∧ s.dev.evccid n.val = 0) ∧
    (∃ (s : State), s.runs ∧ s.dev.get (Reg.PGH_STAT_STATE (s.dev.get Reg.VLK_RELAYCFG_PGH)) = 3 ∧
      3 ≤ s.dev.get (Reg.PGH_STAT_SNDAGENT (s.dev.get Reg.VLK_RELAYCFG_PGH)) ∧
      s.dev.get (Reg.PGH_STAT_SNDAGENT (s.dev.get Reg.VLK_RELAYCFG_PGH)) ≤ 10 ∧
      s.dev.get (Reg.VLK_RELAY_STATE (s.dev.get (Reg.PGH_DATA_DATA (s.dev.get Reg.VLK_RELAYCFG_PGH) 0) % 16)) = 1) ∧
    (∃ (s : State) (n : Fin 16), s.runs ∧ s.dev.get (Reg.VLK_RELAY_STATE n.val) = 1) ∧
    (∃ (s : State) (ix : Fin 4) (curve : Fin 2), s.serves ∧ (s.dev.mode = .commission ∨ s.dev.mode = .idle) ∧
      s.dev.lifecycle ≠ 3) ∧
    (∃ (s : State) (ix : Fin 4) (len : BitVec 14), s.serves ∧ (s.dev.mode = .commission ∨ s.dev.mode = .idle) ∧ 1 ≤ len.toNat ∧
      len.toNat ≤ 8192) ∧
    (∃ (s : State) (ix : Fin 4) (curve : Fin 2), s.serves ∧ (s.dev.mode = .commission ∨ s.dev.mode = .idle) ∧
      s.dev.lifecycle = 3) ∧
    (∃ s : State, s.runs ∧ s.dev.timeKnown = false) ∧
    (∃ s : State, s.runs ∧ s.dev.timeKnown = true) :=
  ⟨⟨stIn .idle [(Reg.VLK_EVID_LO_ID 15, ((1#48).toNat + 1))], 15, 1#48, .other, by decide +kernel⟩,
   ⟨stIn .idle [(Reg.OUT_SESS_STATE 15, 6), (Reg.VLK_EVID_LO_ID 15, (1#48).toNat)], 15, 1#48,
     { v13 := false, suite := .iso2, curve := .p256, ok := true }, by decide +kernel⟩,
   ⟨stIn .idle [(Reg.VLK_EVID_LO_ID 15, (1#48).toNat), (Reg.OUT_SESS_STATE 15, 13), (Reg.OUT_CFG_TYPE 15, 1), (Reg.OUT_CFG_ISO2 15, 1), (Reg.TB_RTC_SEC_SEC, 1577836800)] fun d => { d with box := { d.box with ids := [(0, { chain := some [] })] } },
     15, 1#48, { v13 := false, suite := .iso2, curve := .p256, ok := true }, by decide +kernel⟩,
   ⟨stIn .idle [(Reg.OUT_SESS_STATE 15, 13), (Reg.VLK_EVID_LO_ID 15, (1#48).toNat)], 15, 1#48, true, 1#32, 1#32,
     by decide +kernel⟩,
   ⟨stIn .idle [(Reg.OUT_SESS_STATE 15, 13), (Reg.VLK_EVID_LO_ID 15, (1#48).toNat)], 15, 1#48, [], by decide +kernel⟩,
   ⟨stIn .idle [(Reg.OUT_SESS_STATE 15, 12), (Reg.VLK_EVID_LO_ID 15, (1#48).toNat)], 15, 1#48, by decide +kernel⟩,
   ⟨stIn .idle [(Reg.VLK_EVID_LO_ID 15, (1#48).toNat), (Reg.VLK_RELAYCFG_EN, (0 + 1)), (Reg.OUT_SESS_STATE 15, 13), (Reg.OUT_SESS_PROTO 15, 2)],
     15, 1#48, true, [], by decide +kernel⟩,
   ⟨stIn .idle [(Reg.OUT_SESS_STATE 15, 4), (Reg.VLK_EVID_LO_ID 15, 0)], 15, 1#48, by decide +kernel⟩,
   ⟨stIn .serve [(Reg.PGH_STAT_STATE 0, 3), (Reg.PGH_STAT_SNDAGENT 0, 10), (Reg.VLK_RELAY_STATE 0, 1)], by decide +kernel⟩,
   ⟨stIn .idle [(Reg.VLK_RELAY_STATE 15, 1)], 15, by decide +kernel⟩,
   ⟨stIn .commission [], 3, 1, by decide +kernel⟩,
   ⟨stIn .commission [], 3, 1#14, by decide +kernel⟩,
   ⟨stIn .idle [(Reg.SYS_LIFECYCLE_STATE, 3)], 3, 1, by decide +kernel⟩,
   ⟨stIn .idle [], by decide +kernel⟩,
   ⟨stIn .idle [(Reg.TB_RTC_SEC_SEC, 1577836800)], by decide +kernel⟩⟩

theorem wit_cablesAreGuarded :
    (∃ (s : State) (readings : List (BitVec 16)), s.hears ∧ readings.length = 64) ∧
    (∃ (s : State) (n : Fin 16) (k : Fin 4) (faulted : Bool), s.runs ∧ s.dev.rtdBad n.val k.val ≠ faulted ∧
      (decide (s.dev.rtd n.val k.val < -5000 ∨ 20000 < s.dev.rtd n.val k.val) = faulted)) ∧
    (∃ (s : State) (n : Fin 16), s.runs ∧ s.dev.hasFlow n.val = true ∧ s.dev.get (Reg.CAB_STAT_FLOWFLT n.val) = 0 ∧
      s.dev.get (Reg.CAB_STAT_FLOW n.val) < 100 * s.dev.get (Reg.CAB_FLOWCFG_FMIN n.val) ∧
      1000 * s.dev.get (Reg.CAB_FLOWCFG_MINDUTY n.val) ≤ s.dev.thermalDuty (80 + n.val) ∧ s.dev.cooling n.val = true) ∧
    (∃ (s : State) (n : Fin 16), s.runs ∧ s.dev.hasFlow n.val = true ∧ s.dev.get (Reg.CAB_STAT_FLOWFLT n.val) = 1 ∧
      100 * s.dev.get (Reg.CAB_FLOWCFG_FMIN n.val) ≤ s.dev.get (Reg.CAB_STAT_FLOW n.val)) ∧
    (∃ (s : State) (n : Fin 16), s.runs ∧ s.dev.get (Reg.CAB_STAT_LATCH n.val) = 0 ∧
      (((s.dev.cable n.val).started = true ∧ ((s.dev.get (Reg.CAB_OCFG_TLIM n.val) + s.dev.get (Reg.CAB_OCFG2_TRIPM n.val) : Nat) : Int) * 65536 < (s.dev.cable n.val).hot) ∨ ∃ k : Fin 2, s.dev.rtdBad n.val (2 + k.val) = false ∧ 100 * ((s.dev.get (Reg.CAB_OCFG_CLIM n.val) + s.dev.get (Reg.CAB_OCFG2_TRIPM n.val) : Nat) : Int) < s.dev.rtd n.val (2 + k.val))) ∧
    (∃ (s : State) (n : Fin 16) (c : Int), s.runs ∧ s.dev.get (Reg.CAB_STAT_LATCH n.val) = 1 ∧
      (s.dev.cable n.val).hot < ((s.dev.get (Reg.CAB_OCFG_TLIM n.val) : Int) - s.dev.get (Reg.CAB_OCFG2_HYST n.val)) * 65536 ∧
      s.dev.contact n.val = some c ∧
      c < 100 * ((s.dev.get (Reg.CAB_OCFG_CLIM n.val) : Int) - s.dev.get (Reg.CAB_OCFG2_HYST n.val)) ∧
      s.dev.rtdBad n.val 0 = false ∧ s.dev.rtdBad n.val 1 = false ∧ s.dev.sf6Acts n.val = false) ∧
    (∃ (s : State) (str : Fin 64), s.runs ∧ 3 ≤ (s.dev.str str.val).hotRun ∧ 1 ≤ s.dev.inkState str.val ∧
      s.dev.inkState str.val ≤ 3) ∧
    (∃ (d : Dev) (str : Fin 64), d.strFrozen str.val = true ∧ 1 ≤ d.inkState str.val ∧ d.inkState str.val ≤ 3) ∧
    (∃ (s : State) (str : Fin 64), s.runs ∧ s.dev.strFrozen str.val = true ∧
      toSigned 12 (s.dev.str str.val).up.temp < 10 * (s.dev.get Reg.THM_STRLIM_REL : Int) ∧
      (s.dev.str str.val).up.overTemp = false ∧ s.dev.get (Reg.STR_STRSTAT_FAULT str.val) = 0) ∧
    (∃ (s : State) (n : Fin 16), s.runs ∧ s.dev.get (Reg.CAB_STAT_RUNON n.val) = 1 ∧ s.dev.live n.val = true) :=
  ⟨⟨stIn .idle [], List.replicate 64 (7#16), by decide +kernel⟩,
   ⟨stIn .idle [(Reg.CAB_RTD_TEMP 15 3, 20001)], 15, 3, true, by decide +kernel⟩,
   ⟨stIn .idle [(Reg.CAB_STAT_FLOWFLT 15, 0), (Reg.OUT_CFG_TYPE 15, 1), (Reg.CAB_TGEOM_COOLED 0, 1), (Reg.CAB_FLOWCFG_FMIN 15, 1), (Reg.OUT_SESS_STATE 15, 9)],
     15, by decide +kernel⟩,
   ⟨stIn .idle [(Reg.CAB_STAT_FLOWFLT 15, 1), (Reg.OUT_CFG_TYPE 15, 1), (Reg.CAB_TGEOM_COOLED 0, 1)], 15, by decide +kernel⟩,
   ⟨stIn .idle [(Reg.CAB_STAT_LATCH 15, 0)] fun d => d.setCable 15 { started := true, hot := 65537 }, 15, by decide +kernel⟩,
   ⟨stIn .idle [(Reg.CAB_STAT_LATCH 15, 1), (Reg.CAB_OCFG_TLIM 15, 90), (Reg.CAB_OCFG_CLIM 15, 90)], 15, 0, by decide +kernel⟩,
   ⟨stIn .idle [(Reg.INK_STRING_STATE 63, 3)] fun d => d.modStr 63 fun q0 => { q0 with hotRun := 3 }, 63, by decide +kernel⟩,
   ⟨(stIn .serve [(Reg.THM_STRLATCH_HI_LATCH, 2 ^ 31), (Reg.INK_STRING_STATE 63, 3)]).dev, 63, by decide +kernel⟩,
   ⟨stIn .idle [(Reg.STR_STRSTAT_FAULT 63, 0), (Reg.THM_STRLATCH_HI_LATCH, 2 ^ 31), (Reg.THM_STRLIM_REL, 80)], 63,
     by decide +kernel⟩,
   ⟨stIn .idle [(Reg.CAB_STAT_RUNON 15, 1), (Reg.OUT_SESS_STATE 15, 9)], 15, by decide +kernel⟩⟩

theorem wit_theDieThrottlesAndShutsDown :
    (∃ (s : State) (raw : BitVec 16), s.runs ∧
      (raw.toInt < -880 ∨ 2800 < raw.toInt ∨ (∃ p, s.dev.therm.lastConv = some p ∧ 160 < (raw.toInt - p).natAbs)) ∧
      s.dev.get Reg.THM_STATUS_DIODEFLT = 0) ∧
    (∃ (s : State) (raw : BitVec 16), s.runs ∧ -880 ≤ raw.toInt ∧ raw.toInt ≤ 2800 ∧
      (∀ p, s.dev.therm.lastConv = some p → (raw.toInt - p).natAbs ≤ 160) ∧ s.dev.get Reg.THM_STATUS_DIODEFLT = 0) ∧
    (∃ s : State, s.runs ∧ s.dev.get Reg.THM_STATUS_DIODEFLT = 1 ∧ 1000 ≤ s.dev.therm.goodRun) ∧
    (∃ s : State, s.runs ∧ s.dev.get Reg.THM_STATUS_REGIME = 0 ∧ s.dev.get Reg.THM_STATUS_DIODEFLT = 0) ∧
    (∃ s : State, s.runs ∧ s.dev.get Reg.THM_STATUS_REGIME = 0 ∧ s.dev.get Reg.THM_STATUS_WARN = 0 ∧
      10 * (s.dev.get Reg.THM_RATECFG_WARNRATE : Int) ≤ s.dev.getI Reg.THM_DIODE_RATE) ∧
    (∃ s : State, s.dev.mode = .lastGasp) ∧
    (∃ s : State, s.dev.mode = .thermal ∧ (s.dev.keyholder && s.dev.dup.partEligible) = false) ∧
    (∃ s : State, s.runs ∧ s.dev.mode = .thermal ∧ s.dev.get Reg.THM_DIODE_TEMP < 2 ^ 16) ∧
    (∃ s : State, s.runs ∧ s.dev.mode = .recovery ∧ s.dev.recoveryDwell = true ∧ s.dev.therm.dwellStart.isSome = true) :=
  ⟨⟨stIn .idle [(Reg.THM_STATUS_DIODEFLT, 0)], 2801#16, by decide +kernel⟩,
   ⟨stIn .idle [(Reg.THM_STATUS_DIODEFLT, 0)], 1#16, by decide +kernel⟩,
   ⟨stIn .idle [(Reg.THM_STATUS_DIODEFLT, 1)] fun d => { d with therm := { d.therm with goodRun := 1000 } }, by decide +kernel⟩,
   ⟨stIn .idle [(Reg.THM_STATUS_REGIME, 0), (Reg.THM_STATUS_DIODEFLT, 0)], by decide +kernel⟩,
   ⟨stIn .idle [(Reg.THM_STATUS_REGIME, 0), (Reg.THM_STATUS_WARN, 0)], by decide +kernel⟩,
   ⟨stIn .lastGasp [], by decide +kernel⟩,
   ⟨stIn .thermal [], by decide +kernel⟩,
   ⟨stIn .thermal [], by decide +kernel⟩,
   ⟨stIn .recovery [] fun d => let d := { d with recoveryDwell := true }; { d with therm := { d.therm with dwellStart := some 0 } },
     by decide +kernel⟩⟩

theorem wit_theTallyCounts :
    (∃ (s : State) (own : List (BitVec 24)) (fwd : Option (List (BitVec 24))), s.runs ∧ s.dev.mode = .boot) ∧
    (∃ s : State, s.runs ∧ s.dev.get Reg.THM_STATUS_DIODEFLT = 0) ∧
    (∃ (s : State) (feed : Fin 4) (phase : Fin 3) (positive : Bool) (ns : Nat), s.runs ∧
      (s.dev.get Reg.TAL_ZCCFG_FEED ≠ feed.val ∨ s.dev.get Reg.TAL_ZCCFG_PHASE ≠ phase.val)) ∧
    (∃ (d : Dev) (feed phase ns : Nat) (positive : Bool), (d.get Reg.VLK_BCNCFG_FEED ≠ feed ∨ d.get Reg.VLK_BCNCFG_PHASE ≠ phase)) ∧
    (∃ (d : Dev) (feed phase ns : Nat) (positive : Bool), d.get Reg.VLK_BCNCFG_FEED = feed ∧
      d.get Reg.VLK_BCNCFG_PHASE = phase ∧
      (950000000 ≤ 2 * ns * (if d.get Reg.VLK_BCNCFG_NOMHZ = 1 then 60 else 50) ∧ 2 * ns * (if d.get Reg.VLK_BCNCFG_NOMHZ = 1 then 60 else 50) ≤ 1050000000)) ∧
    (∃ (d : Dev) (feed phase ns : Nat) (positive : Bool), d.get Reg.VLK_BCNCFG_FEED = feed ∧
      d.get Reg.VLK_BCNCFG_PHASE = phase ∧
      ¬ (950000000 ≤ 2 * ns * (if d.get Reg.VLK_BCNCFG_NOMHZ = 1 then 60 else 50) ∧ 2 * ns * (if d.get Reg.VLK_BCNCFG_NOMHZ = 1 then 60 else 50) ≤ 1050000000)) ∧
    (∃ (s : State) (feed : Fin 4) (phase : Fin 3) (positive : Bool) (ns : Nat), s.runs ∧
      s.dev.get Reg.TAL_ZCCFG_FEED = feed.val ∧ s.dev.get Reg.TAL_ZCCFG_PHASE = phase.val) ∧
    (∃ s : State, s.runs ∧ s.dev.get Reg.TAL_STATUS_ZCSTATE ≠ 1) ∧
    (∃ s : State, s.runs ∧ s.dev.get Reg.TAL_CFG_N ≠ 0 ∧ s.dev.get Reg.TAL_CFG_N ≤ s.dev.tally.cycles) :=
  ⟨⟨stIn .boot [], [], none, by decide +kernel⟩,
   ⟨stIn .idle [(Reg.THM_STATUS_DIODEFLT, 0)], by decide +kernel⟩,
   ⟨stIn .idle [(Reg.TAL_ZCCFG_FEED, (3 + 1))], 3, 2, true, 1, by decide +kernel⟩,
   ⟨(stIn .idle [(Reg.VLK_BCNCFG_FEED, (1 + 1))]).dev, 1, 1, 1, true, by decide +kernel⟩,
   ⟨(stIn .idle [(Reg.VLK_BCNCFG_FEED, 1), (Reg.VLK_BCNCFG_PHASE, 1)]).dev, 1, 1, 10000000, true, by decide +kernel⟩,
   ⟨(stIn .idle [(Reg.VLK_BCNCFG_FEED, 1), (Reg.VLK_BCNCFG_PHASE, 1)]).dev, 1, 1, 1, true, by decide +kernel⟩,
   ⟨stIn .idle [(Reg.TAL_ZCCFG_FEED, 3), (Reg.TAL_ZCCFG_PHASE, 2)], 3, 2, true, 1, by decide +kernel⟩,
   ⟨stIn .idle [(Reg.TAL_STATUS_ZCSTATE, (1 + 1))], by decide +kernel⟩,
   ⟨stIn .idle [(Reg.TAL_CFG_N, 2)] fun d => { d with tally := { d.tally with cycles := 2 } }, by decide +kernel⟩⟩

theorem wit_recordsPulsesAndTheJournal :
    (∃ (s : State) (key : List Byte) (r : MeterRec), s.runs ∧ s.dev.box.meter = some key ∧
      (s.dev.tally.recs.find? fun r => r.sig.isNone) = some r) ∧
    (∃ s : State, s.runs ∧ s.dev.box.meter = none) ∧
    (∃ (s : State) (k : Fin 8), s.runs ∧ s.dev.get (Reg.TAL_PULSECFG_EN k.val) = 1 ∧ s.dev.pulseMode = true ∧
      (tget {} s.dev.tally.pulses k.val).high = false ∧ 1000000 * 2 ^ 32 ≤ (tget {} s.dev.tally.pulses k.val).acc) ∧
    (∃ (s : State) (k : Fin 8), s.runs ∧ (tget {} s.dev.tally.pulses k.val).high = true) ∧
    (∃ (s : State) (again : Bool) (corrected rewritten : List (BitVec 16)), s.runs ∧ s.dev.mode ≠ .boot ∧ rewritten ≠ [] ∧
      s.dev.get Reg.MEM_MRAMSTAT_CORR < 2 ^ 16) :=
  ⟨⟨stIn .idle [] fun d => { d with box := { d.box with meter := some [] }, tally := { d.tally with recs := [{ seq := 3, sig := some [] }, { seq := 4 }] } },
     [], { seq := 4 }, by decide +kernel⟩,
   ⟨stIn .idle [], by decide +kernel⟩,
   ⟨stIn .idle [(Reg.TAL_PULSECFG_EN 7, 1)] fun d => { d with tally := { d.tally with pulses := [(7, { acc := 1000000 * 2 ^ 32 })] } },
     7, by decide +kernel⟩,
   ⟨stIn .idle [] fun d => { d with tally := { d.tally with pulses := [(7, { high := true })] } }, 7, by decide +kernel⟩,
   ⟨stIn .idle [], true, [], [1#16], by decide +kernel⟩⟩

theorem wit_safetyFunctionsAct :
    (∃ (s : State) (n : Fin 16), s.dev.mode ≠ .off ∧ s.dev.get (Reg.OUT_ISO_STATUS n.val) = 3) ∧
    (∃ (s : State) (n : Fin 16), s.dev.mode ≠ .off ∧ s.dev.get (Reg.OUT_ISO_STATUS n.val) ≠ 3) ∧
    (∃ (s : State) (n : Fin 16), s.dev.mode ≠ .off ∧ s.dev.live n.val = false) ∧
    (∃ (s : State) (n : Fin 16), s.dev.mode ≠ .off ∧ s.dev.live n.val = true ∧ s.dev.lockHeld n.val = true) ∧
    (∃ (s : State) (n : Fin 16), s.dev.mode ≠ .off ∧ (s.dev.live n.val = false ∨ s.dev.lockHeld n.val = false)) ∧
    (∃ (s : State) (n : Fin 16) (v : Nat), s.dev.mode ≠ .off ∧
      s.dev.get (Reg.SAF_OLIM_VLIM n.val) * (1000 + s.dev.get (Reg.SAF_OCFG_OVM n.val)) < 1000 * v) ∧
    (∃ (s : State) (n : Fin 16) (v : Nat), s.dev.mode ≠ .off ∧
      1000 * v ≤ s.dev.get (Reg.SAF_OLIM_VLIM n.val) * (1000 + s.dev.get (Reg.SAF_OCFG_OVM n.val))) ∧
    (∃ (s : State) (n : Fin 16) (k : Fin 4) (temp : Int) (lost : Bool), s.dev.mode ≠ .off ∧ 1 ≤ k.val ∧ lost = true) ∧
    (∃ (s : State) (n : Fin 16) (k : Fin 4) (temp : Int) (lost : Bool), s.dev.mode ≠ .off ∧ 1 ≤ k.val ∧ k.val = 1 ∧
      100 * (s.dev.get (Reg.SAF_OTEMP_TCOOL n.val) : Int) ≤ temp) ∧
    (∃ (s : State) (n : Fin 16) (k : Fin 4) (temp : Int) (lost : Bool), s.dev.mode ≠ .off ∧ 1 ≤ k.val ∧ k.val ≠ 1 ∧
      100 * (s.dev.get (Reg.SAF_OTEMP_TCONT n.val) : Int) ≤ temp) ∧
    (∃ (s : State) (n : Fin 16) (k : Fin 4) (temp : Int) (lost : Bool), s.dev.mode ≠ .off ∧ 1 ≤ k.val ∧ k.val ≠ 1 ∧
      lost = false ∧ temp < 100 * (s.dev.get (Reg.SAF_OTEMP_TCONT n.val) : Int)) ∧
    (∃ (s : State) (n : Fin 16) (k : Fin 4) (temp : Int) (lost : Bool), s.dev.mode ≠ .off ∧ 1 ≤ k.val ∧ k.val = 1 ∧
      lost = false ∧ temp < 100 * (s.dev.get (Reg.SAF_OTEMP_TCOOL n.val) : Int)) ∧
    (∃ (s : State) (n : Fin 16) (level : Nat) (ce : Bool), s.dev.mode ≠ .off ∧ s.dev.live n.val = true ∧
      s.dev.get (Reg.OUT_CFG_TYPE n.val) = 1 ∧ (10500 < level ∨ level < 1500)) ∧
    (∃ (s : State) (n : Fin 16) (level : Nat) (ce : Bool), s.dev.mode ≠ .off ∧ s.dev.live n.val = true ∧
      s.dev.get (Reg.OUT_CFG_TYPE n.val) = 1 ∧ 1500 ≤ level ∧ level ≤ 10500) ∧
    (∃ (s : State) (n : Fin 16) (level : Nat) (ce : Bool), s.dev.mode ≠ .off ∧ s.dev.live n.val = true ∧
      s.dev.get (Reg.OUT_CFG_TYPE n.val) = 2 ∧ ce = true) ∧
    (∃ (s : State) (n : Fin 16) (level : Nat) (ce : Bool), s.dev.mode ≠ .off ∧ s.dev.live n.val = true ∧
      (s.dev.get (Reg.OUT_CFG_TYPE n.val) = 2 → ce = false) ∧ s.dev.get (Reg.OUT_CFG_TYPE n.val) ≠ 1) ∧
    (∃ (s : State) (n : Fin 16) (level : Nat) (ce : Bool), s.dev.mode ≠ .off ∧ s.dev.live n.val = false) ∧
    (∃ (s : State) (n : Fin 16) (cur : Nat), s.dev.mode ≠ .off ∧
      (s.dev.islandLimit n.val * (100 + s.dev.get (Reg.SAF_OCFG_OCM n.val)) < 100 * cur ∨ 33000 < cur)) ∧
    (∃ (s : State) (n : Fin 16) (cur : Nat), s.dev.mode ≠ .off ∧
      100 * cur ≤ s.dev.islandLimit n.val * (100 + s.dev.get (Reg.SAF_OCFG_OCM n.val)) ∧ cur ≤ 33000) ∧
    (∃ (s : State) (j : Fin 32), s.dev.mode ≠ .off ∧ s.dev.wireOn j.val = true ∧ (s.dev.out (j.val / 2)).closed = true) ∧
    (∃ (s : State) (j : Fin 32), s.dev.mode ≠ .off ∧ (s.dev.wireOn j.val = false ∨ (s.dev.out (j.val / 2)).closed = false)) ∧
    (∃ (s : State) (j : Fin 32), s.dev.mode ≠ .off ∧ s.dev.wireOn j.val = false ∧ s.dev.sess (j.val / 2) ≠ 12) ∧
    (∃ (s : State) (j : Fin 32), s.dev.mode ≠ .off ∧ s.dev.wireOn j.val = false ∧ s.dev.sess (j.val / 2) = 12 ∧
      s.dev.settled (j.val / 2)) ∧
    (∃ (s : State) (n : Fin 16) (k : Fin 8), s.dev.mode ≠ .off ∧ s.dev.duplex = true ∧ s.dev.drives = true) ∧
    (∃ (s : State) (i : Fin 16), s.dev.mode ≠ .off ∧ s.dev.sinRole i.val ≠ 0) ∧
    (∃ (s : State) (x : SafeDemand), s.dev.mode ≠ .off ∧ (s.dev.duplex = false ∨ s.dev.drives = false)) ∧
    (∃ (s : State) (b : Fin 6), s.dev.mode ≠ .off ∧ s.dev.duplex = true ∧ s.dev.drives = true) ∧
    (∃ (s : State) (i : Fin 16), s.dev.mode ≠ .off ∧ s.dev.sinRole i.val = 1) ∧
    (∃ (s : State) (i : Fin 16), s.dev.mode ≠ .off ∧ s.dev.sinRole i.val = 2) ∧
    (∃ (s : State) (i : Fin 16), s.dev.mode ≠ .off ∧ s.dev.sinRole i.val ≠ 1 ∧ s.dev.sinRole i.val ≠ 2) :=
  ⟨⟨stIn .idle [(Reg.OUT_ISO_STATUS 15, 3)], 15, by decide +kernel⟩,
   ⟨stIn .idle [(Reg.OUT_ISO_STATUS 15, (3 + 1))], 15, by decide +kernel⟩,
   ⟨stIn .idle [], 15, by decide +kernel⟩,
   ⟨stIn .idle [(Reg.OUT_SESS_STATE 15, 9), (Reg.OUT_CFG_LOCK 15, 1)] fun d => d.modOut 15 fun q0 => { q0 with senseV := 600 },
     15, by decide +kernel⟩,
   ⟨stIn .idle [], 15, by decide +kernel⟩,
   ⟨stIn .idle [], 15, 1, by decide +kernel⟩,
   ⟨stIn .idle [], 15, 0, by decide +kernel⟩,
   ⟨stIn .idle [], 15, 3, 1, true, by decide +kernel⟩,
   ⟨stIn .idle [], 15, 1, 1, true, by decide +kernel⟩,
   ⟨stIn .idle [], 15, 3, 1, true, by decide +kernel⟩,
   ⟨stIn .idle [], 15, 3, -1, false, by decide +kernel⟩,
   ⟨stIn .idle [], 15, 1, -1, false, by decide +kernel⟩,
   ⟨stIn .idle [(Reg.OUT_SESS_STATE 15, 9), (Reg.OUT_CFG_TYPE 15, 1)], 15, 1, true, by decide +kernel⟩,
   ⟨stIn .idle [(Reg.OUT_SESS_STATE 15, 9), (Reg.OUT_CFG_TYPE 15, 1)], 15, 10500, true, by decide +kernel⟩,
   ⟨stIn .idle [(Reg.OUT_SESS_STATE 15, 9), (Reg.OUT_CFG_TYPE 15, 2)], 15, 1, true, by decide +kernel⟩,
   ⟨stIn .idle [(Reg.OUT_SESS_STATE 15, 9), (Reg.OUT_CFG_TYPE 15, 2)], 15, 1, false, by decide +kernel⟩,
   ⟨stIn .idle [], 15, 1, true, by decide +kernel⟩,
   ⟨stIn .idle [], 15, 1, by decide +kernel⟩,
   ⟨stIn .idle [], 15, 0, by decide +kernel⟩,
   ⟨stIn .idle [(Reg.SAF_SOUTSTAT_BITS, 2 ^ 31)] fun d => d.modOut (31 / 2) fun q0 => { q0 with closed := true }, 31,
     by decide +kernel⟩,
   ⟨stIn .idle [], 31, by decide +kernel⟩,
   ⟨stIn .idle [(Reg.OUT_SESS_STATE (31 / 2), (12 + 1))], 31, by decide +kernel⟩,
   ⟨stIn .idle [(Reg.OUT_SESS_STATE (31 / 2), 12)], 31, by decide +kernel⟩,
   ⟨stIn .idle [(Reg.DUP_CFG_EN, 1), (Reg.DUP_STATUS_ROLE, 1)], 15, 7, by decide +kernel⟩,
   ⟨stIn .idle [(Reg.SAF_SINCFG_ROLE 15, 1)], 15, by decide +kernel⟩,
   ⟨stIn .idle [], .outlet 15 1, by decide +kernel⟩,
   ⟨stIn .idle [(Reg.DUP_CFG_EN, 1), (Reg.DUP_STATUS_ROLE, 1)], 5, by decide +kernel⟩,
   ⟨stIn .idle [(Reg.SAF_SINCFG_ROLE 15, 1)], 15, by decide +kernel⟩,
   ⟨stIn .idle [(Reg.SAF_SINCFG_ROLE 15, 2)], 15, by decide +kernel⟩,
   ⟨stIn .idle [], 15, by decide +kernel⟩⟩

theorem wit_theIslandDiagnosesAndClears :
    (∃ (s : State) (k : Fin 8) (differ : Bool), s.dev.mode ≠ .off ∧ s.dev.get (Reg.SAF_SINCFG_PAIR (2 * k.val)) ≠ 1) ∧
    (∃ (s : State) (k : Fin 8), s.dev.mode ≠ .off ∧ s.dev.get (Reg.SAF_SINCFG_PAIR (2 * k.val)) = 1) ∧
    (∃ (s : State) (j : Fin 32), s.dev.mode ≠ .off ∧ s.dev.bit Reg.SAF_SOUTSTAT_BITS j.val = true ∧ s.dev.drives = true ∧
      (s.dev.safOut (j.val / 2)).releasing = none ∧ s.dev.get (Reg.SAF_OSTAT_ACT (j.val / 2)) = 0) ∧
    (∃ (s : State) (j : Fin 32), ∃ fell : Bool, s.dev.mode ≠ .off ∧
      (s.dev.bit Reg.SAF_SOUTSTAT_BITS j.val = false ∨ s.dev.drives = false ∨ (s.dev.safOut (j.val / 2)).releasing.isSome = true ∨ s.dev.get (Reg.SAF_OSTAT_ACT (j.val / 2)) ≠ 0)) ∧
    (∃ (s : State) (j : Fin 32), ∃ on, s.dev.mode ≠ .off ∧ on ≠ (s.dev.out (j.val / 2)).contReq) ∧
    (∃ (s : State) (j : Fin 32), s.dev.mode ≠ .off ∧ s.dev.drives = true ∧ (s.dev.out (j.val / 2)).contReq = true) ∧
    (∃ (s : State) (j : Fin 32), s.dev.mode ≠ .off ∧ s.dev.drives = false) ∧
    (∃ (s : State) (j : Fin 32), s.dev.mode ≠ .off ∧ (s.dev.out (j.val / 2)).contReq = false) ∧
    (∃ (s : State) (n : Fin 16) (ma : Nat) (elapsed : Bool), s.dev.mode ≠ .off ∧ (s.dev.safOut n.val).releasing = none) ∧
    (∃ (s : State) (n : Fin 16) (ma : Nat) (elapsed : Bool), ∃ t, s.dev.mode ≠ .off ∧ (s.dev.safOut n.val).releasing = some t ∧
      (elapsed = true ∨ 10 * ma ≤ t ∨ ma < 5000)) ∧
    (∃ (s : State) (n : Fin 16) (ma : Nat) (elapsed : Bool), ∃ t, s.dev.mode ≠ .off ∧ (s.dev.safOut n.val).releasing = some t ∧
      elapsed = false ∧ t < 10 * ma ∧ 5000 ≤ ma) ∧
    (∃ (s : State) (n : Fin 16), s.dev.mode ≠ .off ∧ s.dev.live n.val = false ∧
      s.dev.saf.compOut.testBit (8 * n.val + 4) = false) ∧
    (∃ (s : State) (n : Fin 16), s.dev.mode ≠ .off ∧ s.dev.live n.val = false ∧
      s.dev.saf.compOut.testBit (8 * n.val + 7) = false) ∧
    (∃ (s : State) (n : Fin 16), s.dev.mode ≠ .off ∧ s.dev.live n.val = false ∧
      (∀ i < 16, s.dev.sinRole i = 2 → (s.dev.sinMask i).testBit n.val = true → s.dev.sinDemands i = false) ∧
      s.dev.saf.compOut.testBit (8 * n.val + 5) = false) ∧
    (∃ (s : State) (n : Fin 16), ∃ k : Fin 8, s.dev.mode ≠ .off ∧ s.dev.live n.val = false ∧ (k = 1 ∨ k = 2 ∨ k = 3 ∨ k = 6)) ∧
    (∃ (s : State) (n : Fin 16) (k : Fin 8), s.dev.mode ≠ .off ∧ s.dev.live n.val = true) ∧
    (∃ (s : State) (code : BitVec 16), s.serves ∧ s.dev.mode = .safeHold ∧ code = 0xC35A#16) ∧
    (∃ (s : State) (code : BitVec 16), s.serves ∧ s.dev.mode = .safeHold ∧ code ≠ 0xC35A#16) ∧
    (∃ (s : State) (code mask : BitVec 16), s.serves ∧ code ≠ 0xC35A#16) ∧
    (∃ (s : State) (code mask : BitVec 16), s.serves ∧ code = 0xC35A#16) ∧
    (∃ (d : Dev) (n ma : Nat), d.soutOn n = true ∧ ma < 5000) ∧
    (∃ (d : Dev) (n ma : Nat), d.soutOn n = true ∧ 5000 ≤ ma) ∧
    (∃ (d : Dev) (n : Fin 16), (d.safOut n.val).leaving = true ∧ d.safeStands n.val = false ∧ d.live n.val = false) ∧
    (∃ s : State, s.dev.mode ≠ .off ∧ s.dev.duplex = true) ∧
    (∃ s : State, s.dev.mode ≠ .off ∧ s.dev.duplex = false) :=
  ⟨⟨stIn .idle [(Reg.SAF_SINCFG_PAIR (2 * 7), (1 + 1))], 7, true, by decide +kernel⟩,
   ⟨stIn .idle [(Reg.SAF_SINCFG_PAIR (2 * 7), 1)], 7, by decide +kernel⟩,
   ⟨stIn .idle [(Reg.SAF_SOUTSTAT_BITS, (2 ^ 31)), (Reg.SAF_OSTAT_ACT (31 / 2), 0)], 31, by decide +kernel⟩,
   ⟨stIn .idle [], 31, false, by decide +kernel⟩,
   ⟨stIn .idle [], 31, true, by decide +kernel⟩,
   ⟨stIn .idle [] fun d => d.modOut (31 / 2) fun q0 => { q0 with contReq := true }, 31, by decide +kernel⟩,
   ⟨stIn .idle [(Reg.DUP_CFG_EN, 1), (Reg.DUP_STATUS_ROLE, 2)], 31, by decide +kernel⟩,
   ⟨stIn .idle [], 31, by decide +kernel⟩,
   ⟨stIn .idle [], 15, 1, true, by decide +kernel⟩,
   ⟨stIn .idle [] fun d => d.modSafOut 15 fun q0 => { q0 with releasing := some 100 }, 15, 10, true, 100, by decide +kernel⟩,
   ⟨stIn .idle [] fun d => d.modSafOut 15 fun q0 => { q0 with releasing := some 49999 }, 15, 5000, false, 49999,
     by decide +kernel⟩,
   ⟨stIn .idle [], 15, by decide +kernel⟩,
   ⟨stIn .idle [], 15, by decide +kernel⟩,
   ⟨stIn .idle [], 15, by decide +kernel⟩,
   ⟨stIn .idle [], 15, 6, by decide +kernel⟩,
   ⟨stIn .idle [(Reg.OUT_SESS_STATE 15, 9)], 15, 7, by decide +kernel⟩,
   ⟨stIn .safeHold [], 0xC35A#16, by decide +kernel⟩,
   ⟨stIn .safeHold [], 1#16, by decide +kernel⟩,
   ⟨stIn .idle [], 1#16, 1#16, by decide +kernel⟩,
   ⟨stIn .idle [], 0xC35A#16, 1#16, by decide +kernel⟩,
   ⟨(stIn .serve [(Reg.SAF_SOUTSTAT_BITS, 2 ^ 31)]).dev, 15, 4999, by decide +kernel⟩,
   ⟨(stIn .serve [(Reg.SAF_SOUTSTAT_BITS, 2 ^ 31)]).dev, 15, 5000, by decide +kernel⟩,
   ⟨(stIn .idle [] fun d => d.modSafOut 15 fun q0 => { q0 with leaving := true }).dev, 15, by decide +kernel⟩,
   ⟨stIn .idle [(Reg.DUP_CFG_EN, 1)], by decide +kernel⟩,
   ⟨stIn .idle [], by decide +kernel⟩⟩

theorem wit_safeConnectionsWatchAndSend :
    (∃ (s : State) (carrier : Fin 7) (bytes : List Byte) (k : Fin 16), s.dev.mode ≠ .off ∧
      s.dev.get (Reg.SAF_CONNCFG_MODE k.val) = 1 ∧ s.dev.get (Reg.SAF_CONNCFG_DIR k.val) = 0 ∧
      s.dev.get (Reg.SAF_CONNSTAT_STATE k.val) ≠ 0 ∧ s.dev.get (Reg.SAF_CONNID_ID k.val) = (safeFields bytes).conn ∧
      s.dev.get (Reg.SAF_CONNCFG_CARA k.val) = carrier.val ∧ safeCrcOk bytes = false) ∧
    (∃ (s : State) (carrier : Fin 7) (bytes : List Byte) (k : Fin 16), s.dev.mode ≠ .off ∧
      s.dev.get (Reg.SAF_CONNCFG_MODE k.val) = 1 ∧ s.dev.get (Reg.SAF_CONNCFG_DIR k.val) = 0 ∧
      s.dev.get (Reg.SAF_CONNSTAT_STATE k.val) ≠ 0 ∧ s.dev.get (Reg.SAF_CONNID_ID k.val) = (safeFields bytes).conn ∧
      s.dev.get (Reg.SAF_CONNCFG_CARA k.val) = carrier.val ∧ safeCrcOk bytes = true ∧
      (safeFields bytes).wd = s.dev.get (Reg.SAF_CONNTIM_WD k.val) ∧ (safeFields bytes).len ≤ 32 ∧
      (s.dev.safConn k.val).started = false) ∧
    (∃ (s : State) (k : Fin 16), s.dev.mode ≠ .off ∧ s.dev.get (Reg.SAF_CONNCFG_DIR k.val) = 0 ∧
      s.dev.get (Reg.SAF_CONNSTAT_STATE k.val) = 2) ∧
    (∃ (s : State) (k : Fin 16), s.dev.mode ≠ .off ∧ s.dev.get (Reg.SAF_CONNCFG_DIR k.val) = 0 ∧
      s.dev.get (Reg.SAF_CONNSTAT_STATE k.val) = 1) ∧
    (∃ (s : State) (k : Fin 16), s.dev.mode ≠ .off ∧ s.dev.get (Reg.SAF_CONNCFG_MODE k.val) = 1 ∧
      s.dev.get (Reg.SAF_CONNCFG_DIR k.val) = 1 ∧ s.dev.get (Reg.SAF_CONNCFG_CARA k.val) < 2 ∧
      (s.dev.safConn k.val).sentAt = none ∧ (s.dev.safConn k.val).started = true) ∧
    (∃ (s : State) (k : Fin 16) (t : Nat), s.dev.mode ≠ .off ∧ (s.dev.safConn k.val).sentAt = some t ∧ s.dev.now < t + 1000000) :=
  ⟨⟨stIn .idle [(Reg.SAF_CONNCFG_MODE 15, 1), (Reg.SAF_CONNCFG_DIR 15, 0), (Reg.SAF_CONNSTAT_STATE 15, (0 + 1)), (Reg.SAF_CONNCFG_CARA 15, 6)],
     6, [], 15, by decide +kernel⟩,
   ⟨stIn .idle [(Reg.SAF_CONNCFG_MODE 15, 1), (Reg.SAF_CONNCFG_DIR 15, 0), (Reg.SAF_CONNSTAT_STATE 15, (0 + 1)), (Reg.SAF_CONNCFG_CARA 15, 6), (Reg.SAF_CONNID_ID 15, 7), (Reg.SAF_CONNTIM_WD 15, 20)],
     6, safeEncode 7 1 20 0 [1], 15, by decide +kernel⟩,
   ⟨stIn .idle [(Reg.SAF_CONNCFG_DIR 15, 0), (Reg.SAF_CONNSTAT_STATE 15, 2)], 15, by decide +kernel⟩,
   ⟨stIn .idle [(Reg.SAF_CONNCFG_DIR 15, 0), (Reg.SAF_CONNSTAT_STATE 15, 1)], 15, by decide +kernel⟩,
   ⟨stIn .idle [(Reg.SAF_CONNCFG_MODE 15, 1), (Reg.SAF_CONNCFG_DIR 15, 1)] fun d => d.modSafConn 15 fun q0 => { q0 with started := true },
     15, by decide +kernel⟩,
   ⟨stIn .idle [] fun d => d.modSafConn 15 fun q0 => { q0 with sentAt := some 1 }, 15, 1, by decide +kernel⟩⟩

theorem wit_theLodgerFollowsAndCompares :
    (∃ (s : State) (period : Nat) (on : Bool) (sense : List (Int × Int × Int)) (poison : List (Fin 128)) (late : List (Fin 64)), s.runs ∧
      s.dev.lodger = true) ∧
    (∃ (s : State) (period : Nat) (inputs : List Fwd) (sense : List (Int × Int × Int)) (poison : List (Fin 128)) (late : List (Fin 64)), s.runs ∧
      s.dev.duplex = false) ∧
    (∃ s : State, s.runs ∧ s.dev.lodger = true ∧ s.dev.synced = true ∧ s.dev.dup.missing = false) ∧
    (∃ s : State, s.runs ∧ (s.dev.lodger = false ∨ s.dev.synced = false ∨ s.dev.dup.missing = true)) ∧
    (∃ (s : State) (j : Fin 8), s.runs ∧ s.dev.lodger = true ∧ plausibleRow j.val = true) ∧
    (∃ (s : State) (j : Fin 8), s.runs ∧ (s.dev.lodger = false ∨ plausibleRow j.val = false)) ∧
    (∃ (s : State) (period : Nat) (heard : List (Fin 64 × Option (BitVec 68))) (touched : BitVec 16), s.runs ∧
      s.dev.lodger = true ∧ s.dev.synced = false) ∧
    (∃ (s : State) (period : Nat) (str : Fin 64), s.runs ∧ s.dev.lodger = true ∧ s.dev.synced = true ∧
      s.dev.dup.dispute = none ∧ s.dev.dup.rejoin = none ∧ period ≤ s.dev.dup.fwdPeriod ∧ s.dev.present str.val = true ∧
      s.dev.computed str.val ≠ none ∧ 16 ≤ s.dev.courseArc (str.val / 4)) ∧
    (∃ (s : State) (p : Nat) (pass : Bool) (digest : BitVec 64), s.runs ∧ s.dev.keyholder = true) ∧
    (∃ (s : State) (pass : Bool) (digest : BitVec 64) (p mine : Nat) (own : Bool), s.runs ∧ s.dev.keyholder = true ∧
      s.dev.dup.dispute = some (p, own, mine)) ∧
    (∃ (s : State) (pass : Bool) (digest : BitVec 64), s.runs ∧ s.dev.dup.dispute = none) ∧
    (∃ (s : State) (k : Nat) (clean : Bool), s.runs ∧ s.dev.lodger = true ∧ s.dev.dup.rejoin = some (k, clean) ∧ 3 ≤ k) ∧
    (∃ (s : State) (k : Nat) (clean : Bool), s.runs ∧ s.dev.lodger = true ∧ s.dev.dup.rejoin = some (k, clean) ∧ k < 3) ∧
    (∃ (s : State) (fails : BitVec 5), s.runs ∧ s.dev.lodger = true) ∧
    (∃ (s : State) (m : PartnerHealth) (eligible synced : Bool), s.runs ∧ s.dev.keyholder = true) ∧
    (∃ (s : State) (m : PartnerHealth) (eligible synced : Bool), s.runs ∧ s.dev.keyholder = false ∧ s.dev.duplex = true) ∧
    (∃ (s : State) (m : PartnerHealth) (eligible synced : Bool), s.runs ∧ s.dev.keyholder = false ∧ s.dev.duplex = false) ∧
    (∃ s : State, s.runs ∧ s.dev.keyholder = true ∧ s.dev.get Reg.DUP_STATUS_REDUCED = 0 ∧
      (s.dev.dup.partEligible = false ∨ s.dev.dup.partSynced = false)) ∧
    (∃ s : State, s.runs ∧ s.dev.keyholder = true ∧ s.dev.get Reg.DUP_STATUS_REDUCED = 0 ∧ s.dev.dup.partEligible = true ∧
      s.dev.dup.partSynced = true) :=
  ⟨⟨stIn .idle [(Reg.DUP_CFG_EN, 1), (Reg.DUP_STATUS_ROLE, 2)], 1, true, [], [], [], by decide +kernel⟩,
   ⟨stIn .idle [], 1, [], [], [], [], by decide +kernel⟩,
   ⟨stIn .idle [(Reg.DUP_CFG_EN, 1), (Reg.DUP_STATUS_ROLE, 2), (Reg.DUP_STATUS_SYNCED, 1)], by decide +kernel⟩,
   ⟨stIn .idle [], by decide +kernel⟩,
   ⟨stIn .idle [(Reg.DUP_CFG_EN, 1), (Reg.DUP_STATUS_ROLE, 2)], 7, by decide +kernel⟩,
   ⟨stIn .idle [], 7, by decide +kernel⟩,
   ⟨stIn .idle [(Reg.DUP_CFG_EN, 1), (Reg.DUP_STATUS_ROLE, 2)], 1, [], 1#16, by decide +kernel⟩,
   ⟨stIn .idle [(Reg.DUP_CFG_EN, 1), (Reg.DUP_STATUS_ROLE, 2), (Reg.DUP_STATUS_SYNCED, 1), (Reg.STR_STRCFG_PRESENT 63, 1)] fun d => let d := d.modStr 63 fun q0 => { q0 with inflight := 1 }; let d := d.set (Reg.INK_COURSE_ARC 15) 31; { d with dup := { d.dup with fwdPeriod := 1 } },
     1, 63, by decide +kernel⟩,
   ⟨stIn .idle [(Reg.DUP_CFG_EN, 1), (Reg.DUP_STATUS_ROLE, 1)], 1, true, 1#64, by decide +kernel⟩,
   ⟨stIn .idle [(Reg.DUP_CFG_EN, 1), (Reg.DUP_STATUS_ROLE, 1)] fun d => { d with dup := { d.dup with dispute := some (1, true, 1) } },
     true, 1#64, 1, 1, true, by decide +kernel⟩,
   ⟨stIn .idle [], true, 1#64, by decide +kernel⟩,
   ⟨stIn .idle [(Reg.DUP_CFG_EN, 1), (Reg.DUP_STATUS_ROLE, 2)] fun d => { d with dup := { d.dup with rejoin := some (3, true) } },
     3, true, by decide +kernel⟩,
   ⟨stIn .idle [(Reg.DUP_CFG_EN, 1), (Reg.DUP_STATUS_ROLE, 2)] fun d => { d with dup := { d.dup with rejoin := some (1, true) } },
     1, true, by decide +kernel⟩,
   ⟨stIn .idle [(Reg.DUP_CFG_EN, 1), (Reg.DUP_STATUS_ROLE, 2)], 1#5, by decide +kernel⟩,
   ⟨stIn .idle [(Reg.DUP_CFG_EN, 1), (Reg.DUP_STATUS_ROLE, 1)], { score := 50, uid := 7, station := 3 }, true, true,
     by decide +kernel⟩,
   ⟨stIn .idle [(Reg.DUP_CFG_EN, 1)], { score := 50, uid := 7, station := 3 }, true, true, by decide +kernel⟩,
   ⟨stIn .idle [], { score := 50, uid := 7, station := 3 }, true, true, by decide +kernel⟩,
   ⟨stIn .idle [(Reg.DUP_CFG_EN, 1), (Reg.DUP_STATUS_ROLE, 1), (Reg.DUP_STATUS_REDUCED, 0)], by decide +kernel⟩,
   ⟨stIn .idle [(Reg.DUP_CFG_EN, 1), (Reg.DUP_STATUS_ROLE, 1), (Reg.DUP_STATUS_REDUCED, 0)] fun d => let d := { d with dup := { d.dup with partEligible := true } }; { d with dup := { d.dup with partSynced := true } },
     by decide +kernel⟩⟩

theorem wit_theKeyChangesHands :
    (∃ s : State, s.runs ∧ s.dev.renews = true) ∧
    (∃ s : State, s.runs ∧ s.dev.renews = false ∧ s.dev.keyholder = true) ∧
    (∃ (s : State) (pin : Bool) (uid : BitVec 64) (station : BitVec 8), s.runs ∧ s.dev.duplex = true) ∧
    (∃ (s : State) (pin : Bool) (uid : BitVec 64) (station : BitVec 8), s.runs ∧ s.dev.duplex = false) ∧
    (∃ s : State, s.runs ∧ s.dev.get Reg.DUP_LEASE_VALID ≠ 1) ∧
    (∃ (s : State) (c : Sched), s.runs ∧ s.dev.get Reg.DUP_LEASE_VALID = 1 ∧ s.dev.sentUp = some c) ∧
    (∃ s : State, s.runs ∧ s.dev.get Reg.DUP_LEASE_VALID = 1 ∧ s.dev.sentUp = none) ∧
    (∃ s : State, s.dev.mode ≠ .off ∧ s.dev.duplex = true ∧ s.dev.dup.ownAt ≠ none) ∧
    (∃ s : State, s.dev.mode ≠ .off ∧ (s.dev.duplex = false ∨ s.dev.dup.ownAt = none)) ∧
    (∃ d : Dev, d.dup.surrender = true ∧ (d.mode = .idle ∨ d.mode = .serve)) ∧
    (∃ d : Dev, d.dup.surrender = true ∧ d.mode ≠ .idle ∧ d.mode ≠ .serve ∧ d.mode ≠ .island) ∧
    (∃ (s : State) (heard : Bool) (wires : BitVec 32) (gap : Nat), s.runs ∧ s.dev.quiet heard = true ∧ s.dev.mayTake = true) ∧
    (∃ (s : State) (heard : Bool) (wires : BitVec 32) (gap : Nat), s.runs ∧ (s.dev.quiet heard = false ∨ s.dev.mayTake = false)) ∧
    (∃ (s : State) (heard : Bool), s.runs ∧ s.dev.quiet heard = true ∧ s.dev.dup.leaseAt = none ∧
      (s.dev.get64 Reg.DUP_PARTNER_LO_UID Reg.DUP_PARTNER_HI_UID = 0 ∨ s.dev.get64 Reg.SYS_UID_LO_UID Reg.SYS_UID_HI_UID < s.dev.get64 Reg.DUP_PARTNER_LO_UID Reg.DUP_PARTNER_HI_UID)) ∧
    (∃ (s : State) (heard : Bool), s.runs ∧
      (s.dev.quiet heard = false ∨ s.dev.dup.leaseAt ≠ none ∨ (s.dev.get64 Reg.DUP_PARTNER_LO_UID Reg.DUP_PARTNER_HI_UID ≠ 0 ∧ s.dev.get64 Reg.DUP_PARTNER_LO_UID Reg.DUP_PARTNER_HI_UID ≤ s.dev.get64 Reg.SYS_UID_LO_UID Reg.SYS_UID_HI_UID))) ∧
    (∃ (s : State) (heard : Bool), s.serves ∧ s.dev.quiet heard = true ∧ s.dev.get Reg.DUP_STATUS_ELIGIBLE = 0) ∧
    (∃ (s : State) (heard : Bool), s.serves ∧ (s.dev.quiet heard = false ∨ s.dev.get Reg.DUP_STATUS_ELIGIBLE ≠ 0)) ∧
    (∃ s : State, s.serves ∧ s.dev.keyholder = true ∧ s.dev.dup.partEligible = true) ∧
    (∃ s : State, s.serves ∧ (s.dev.keyholder && s.dev.dup.partEligible) = false) ∧
    (∃ s : State, s.serves ∧ s.dev.lodger = true ∧ s.dev.dup.rejoin = none) ∧
    (∃ s : State, s.serves ∧ s.dev.lodger = true ∧ s.dev.dup.rejoin ≠ none) ∧
    (∃ s : State, s.serves ∧ s.dev.lodger = false) ∧
    (∃ s : State, s.runs ∧ s.dev.lodger = true) ∧
    (∃ s : State, s.runs ∧ s.dev.lodger = false) :=
  ⟨⟨stIn .serve [(Reg.DUP_CFG_EN, 1), (Reg.DUP_STATUS_ROLE, 1)], by decide +kernel⟩,
   ⟨stIn .thermal [(Reg.DUP_CFG_EN, 1), (Reg.DUP_STATUS_ROLE, 1)], by decide +kernel⟩,
   ⟨stIn .idle [(Reg.DUP_CFG_EN, 1)], true, 1#64, 1#8, by decide +kernel⟩,
   ⟨stIn .idle [], true, 1#64, 1#8, by decide +kernel⟩,
   ⟨stIn .idle [(Reg.DUP_LEASE_VALID, (1 + 1))], by decide +kernel⟩,
   ⟨stIn .idle [(Reg.DUP_LEASE_VALID, 1)] fun d => { d with sentUp := some {} }, {}, by decide +kernel⟩,
   ⟨stIn .idle [(Reg.DUP_LEASE_VALID, 1)], by decide +kernel⟩,
   ⟨stIn .idle [(Reg.DUP_CFG_EN, 1)] fun d => { d with dup := { d.dup with ownAt := some 5 } }, by decide +kernel⟩,
   ⟨stIn .idle [], by decide +kernel⟩,
   ⟨(stIn .idle [] fun d => { d with dup := { d.dup with surrender := true } }).dev, by decide +kernel⟩,
   ⟨(stIn .thermal [] fun d => { d with dup := { d.dup with surrender := true } }).dev, by decide +kernel⟩,
   ⟨stIn .standby [(Reg.DUP_CFG_EN, 1), (Reg.DUP_STATUS_ROLE, 2), (Reg.DUP_STATUS_SYNCED, 1)], false, 1#32, 1,
     by decide +kernel⟩,
   ⟨stIn .idle [], true, 1#32, 1, by decide +kernel⟩,
   ⟨stIn .standby [(Reg.DUP_CFG_EN, 1), (Reg.DUP_STATUS_ROLE, 2)], false, by decide +kernel⟩,
   ⟨stIn .idle [], true, by decide +kernel⟩,
   ⟨stIn .standby [(Reg.DUP_STATUS_ELIGIBLE, 0), (Reg.DUP_CFG_EN, 1), (Reg.DUP_STATUS_ROLE, 2)], false, by decide +kernel⟩,
   ⟨stIn .idle [], true, by decide +kernel⟩,
   ⟨stIn .idle [(Reg.DUP_CFG_EN, 1), (Reg.DUP_STATUS_ROLE, 1)] fun d => { d with dup := { d.dup with partEligible := true } },
     by decide +kernel⟩,
   ⟨stIn .idle [], by decide +kernel⟩,
   ⟨stIn .idle [(Reg.DUP_CFG_EN, 1), (Reg.DUP_STATUS_ROLE, 2)], by decide +kernel⟩,
   ⟨stIn .idle [(Reg.DUP_CFG_EN, 1), (Reg.DUP_STATUS_ROLE, 2)] fun d => { d with dup := { d.dup with rejoin := some (0, false) } },
     by decide +kernel⟩,
   ⟨stIn .idle [], by decide +kernel⟩,
   ⟨stIn .idle [(Reg.DUP_CFG_EN, 1), (Reg.DUP_STATUS_ROLE, 2)], by decide +kernel⟩,
   ⟨stIn .idle [], by decide +kernel⟩⟩

theorem wit_fabricLinksComeUp :
    (∃ (s : State) (p : Fin 6), s.runs ∧ s.dev.portOn p.val = true ∧ 2 ≤ s.dev.portState p.val ∧ s.dev.portState p.val ≤ 5) ∧
    (∃ (s : State) (p : Fin 6) (h : Hail), s.runs ∧ s.dev.portOn p.val = true ∧ 2 ≤ s.dev.portState p.val ∧
      s.dev.portState p.val ≤ 4 ∧ h.level ≠ s.dev.get Reg.FAB_ID_LEVEL) ∧
    (∃ (s : State) (p : Fin 6) (h : Hail), s.runs ∧ s.dev.portOn p.val = true ∧ s.dev.portState p.val = 2 ∧
      h.level = s.dev.get Reg.FAB_ID_LEVEL ∧
      ¬(s.dev.addr? = some h.addr ∧ h.uid < s.dev.uid ∧ s.dev.get Reg.FAB_STATUS_ADDRSRC = 1)) ∧
    (∃ (s : State) (p : Fin 6) (chain key digest sig : List Byte) (enc : Bool), s.runs ∧ s.dev.portOn p.val = true ∧
      (s.dev.portState p.val = 3 ∨ s.dev.portState p.val = 5)) ∧
    (∃ (s : State) (p : Fin 6) (chain key digest sig : List Byte) (enc : Bool), s.runs ∧
      (s.dev.portOn p.val = false ∨ (s.dev.portState p.val ≠ 3 ∧ s.dev.portState p.val ≠ 5))) ∧
    (∃ (s : State) (p : Fin 6), s.runs ∧ s.dev.portUp p.val = true ∧ s.dev.get (Reg.FAB_PORT_ENC p.val) = 1 ∧
      (2 ^ 32 ≤ (s.dev.fport p.val).txCtr ∨ 2 ^ 32 ≤ (s.dev.fport p.val).rxCtr ∨ (s.dev.fport p.val).keyAt + 86400000000000 ≤ s.dev.now)) ∧
    (∃ (s : State) (p : Fin 6), s.runs ∧ s.dev.portUp p.val = true ∧ s.dev.get (Reg.FAB_PORT_ENC p.val) = 1 ∧
      (s.dev.fport p.val).txCtr < 2 ^ 32 ∧ (s.dev.fport p.val).rxCtr < 2 ^ 32 ∧
      s.dev.now < (s.dev.fport p.val).keyAt + 86400000000000) ∧
    (∃ (s : State) (p : Fin 6) (lane : Fin 2), s.runs ∧ s.dev.portOn p.val = true ∧
      s.dev.bit (Reg.FAB_PORT_LANES p.val) lane.val = true ∧ 1 ≤ s.dev.portState p.val ∧ s.dev.portState p.val ≤ 5) ∧
    (∃ (s : State) (p : Fin 6) (lane : Fin 2), s.runs ∧ s.dev.portOn p.val = true ∧ s.dev.portState p.val = 1) ∧
    (∃ (s : State) (p : Fin 6) (f : FabFrame) (check : List Byte), s.runs ∧ s.dev.isTwin p.val = false ∧
      s.dev.portState p.val < 2) ∧
    (∃ (s : State) (p : Fin 6) (f : FabFrame) (check : List Byte), s.runs ∧ s.dev.isTwin p.val = false ∧
      2 ≤ s.dev.portState p.val ∧
      (minLen f.typ = none ∨ 1024 < f.payload.length ∨ (f.enc = false ∧ check ≠ leBytes 4 (crc32Ieee f.bytes)) ∨ s.dev.mayCarry p.val f = false)) ∧
    (∃ (s : State) (p : Fin 6) (f : FabFrame) (check : List Byte), ∃ n, s.runs ∧ s.dev.isTwin p.val = false ∧
      2 ≤ s.dev.portState p.val ∧ minLen f.typ = some n ∧ n ≤ f.payload.length ∧ f.payload.length ≤ 1024 ∧ f.enc = false ∧
      check = leBytes 4 (crc32Ieee f.bytes) ∧ s.dev.mayCarry p.val f = true ∧ f.dst = 254) ∧
    (∃ (s : State) (p : Fin 6) (tries : Nat) (f : FabFrame), s.runs ∧ s.dev.isTwin p.val = false ∧ 2 ≤ s.dev.portState p.val ∧
      tries < 8) ∧
    (∃ (s : State) (p : Fin 6) (tries : Nat) (f : FabFrame), s.runs ∧ s.dev.isTwin p.val = false ∧ 2 ≤ s.dev.portState p.val ∧
      8 ≤ tries) :=
  ⟨⟨stIn .idle [(Reg.FAB_CFG_PORTEN, (2 ^ 5)), (Reg.FAB_PORT_STATE 5, 5)], 5, by decide +kernel⟩,
   ⟨stIn .idle [(Reg.FAB_CFG_PORTEN, (2 ^ 5)), (Reg.FAB_PORT_STATE 5, 4)], 5, { level := 1 }, by decide +kernel⟩,
   ⟨stIn .idle [(Reg.FAB_CFG_PORTEN, (2 ^ 5)), (Reg.FAB_PORT_STATE 5, 2)], 5, {}, by decide +kernel⟩,
   ⟨stIn .idle [(Reg.FAB_CFG_PORTEN, (2 ^ 5)), (Reg.FAB_PORT_STATE 5, 3)], 5, [], [], [], [], true, by decide +kernel⟩,
   ⟨stIn .idle [], 5, [], [], [], [], true, by decide +kernel⟩,
   ⟨stIn .idle [(Reg.FAB_PORT_STATE 5, 4), (Reg.FAB_PORT_ENC 5, 1)] fun d => { d with fab := { d.fab with ports := [(5, { txCtr := 2 ^ 32 })] } },
     5, by decide +kernel⟩,
   ⟨stIn .idle [(Reg.FAB_PORT_STATE 5, 4), (Reg.FAB_PORT_ENC 5, 1)], 5, by decide +kernel⟩,
   ⟨stIn .idle [(Reg.FAB_CFG_PORTEN, (2 ^ 5)), (Reg.FAB_PORT_LANES 5, (2 ^ 1)), (Reg.FAB_PORT_STATE 5, 5)], 5, 1,
     by decide +kernel⟩,
   ⟨stIn .idle [(Reg.FAB_CFG_PORTEN, (2 ^ 5)), (Reg.FAB_PORT_STATE 5, 1)], 5, 1, by decide +kernel⟩,
   ⟨stIn .idle [], 5, {}, [], by decide +kernel⟩,
   ⟨stIn .idle [(Reg.FAB_PORT_STATE 5, 2)], 5, {}, [], by decide +kernel⟩,
   ⟨stIn .idle [(Reg.FAB_PORT_STATE 5, 2)], 5, { dst := 254, typ := 1, payload := List.replicate 64 0 },
     leBytes 4 (crc32Ieee (FabFrame.bytes { dst := 254, typ := 1, payload := List.replicate 64 0 })), 64, by decide +kernel⟩,
   ⟨stIn .idle [(Reg.FAB_PORT_STATE 5, 2)], 5, 1, {}, by decide +kernel⟩,
   ⟨stIn .idle [(Reg.FAB_PORT_STATE 5, 2)], 5, 8, {}, by decide +kernel⟩⟩

theorem wit_fabricTimeAndPosts :
    (∃ (s : State) (a : Nat), s.runs ∧ s.dev.addr? = some a) ∧
    (∃ s : State, s.runs ∧ s.dev.addr? = none) ∧
    (∃ (s : State) (src : Fin 32) (seq : BitVec 16) (links : List (Fin 32)), s.runs ∧ s.dev.addr? ≠ some src.val ∧
      (s.dev.peer src.val).lsaSeq = none) ∧
    (∃ (s : State) (p : Fin 6) (t1 t2 t3 t4 : Int) (synced inIsland : Bool), s.runs ∧ (s.dev.portUp p.val = false)) ∧
    (∃ (s : State) (p : Fin 6) (t1 t2 t3 t4 : Int) (synced inIsland : Bool), s.runs ∧ s.dev.portUp p.val = true ∧
      s.dev.get Reg.FAB_STATUS_TIMESTATE ≠ 2 ∧ s.dev.get (Reg.FAB_ROUTE_REACH (s.dev.get Reg.FAB_STATUS_TIMESRC)) = 1 ∧
      s.dev.get (Reg.FAB_ROUTE_PORT (s.dev.get Reg.FAB_STATUS_TIMESRC)) = p.val) ∧
    (∃ (s : State) (p : Fin 6) (t1 t2 t3 t4 : Int) (synced inIsland : Bool), s.runs ∧ s.dev.portUp p.val = true ∧
      (s.dev.get Reg.FAB_STATUS_TIMESTATE = 2 ∨ s.dev.get (Reg.FAB_ROUTE_REACH (s.dev.get Reg.FAB_STATUS_TIMESRC)) = 0 ∨ s.dev.get (Reg.FAB_ROUTE_PORT (s.dev.get Reg.FAB_STATUS_TIMESRC)) ≠ p.val)) ∧
    (∃ s : State, s.runs ∧ (∀ e, s.dev.fab.step = some e → 1000000 < e.natAbs)) ∧
    (∃ s : State, s.runs ∧ (s.dev.multi = false ∨ ∀ e, s.dev.fab.step = some e → e.natAbs ≤ 1000000)) ∧
    (∃ (s : State) (e : Int), s.runs ∧ s.dev.fab.step = some e ∧ e.natAbs ≤ 1000000 ∧ s.dev.midRound = true) ∧
    (∃ (s : State) (e : Int), s.runs ∧ s.dev.fab.step = some e ∧ e.natAbs ≤ 1000000 ∧ s.dev.midRound = false) ∧
    (∃ (s : State) (e : Int), s.runs ∧ s.dev.multi = true ∧ s.dev.fab.step = some e ∧ 1000000 < e.natAbs) ∧
    (∃ (s : State) (a b : Nat), s.runs ∧ s.dev.addr? = some a ∧ s.dev.timeSource = some b ∧
      s.dev.get Reg.FAB_STATUS_TIMESRC ≠ b) ∧
    (∃ (s : State) (q : Post), s.runs ∧ s.dev.multi = true ∧ q.addr < 32 ∧ q.station ≠ s.dev.get Reg.FAB_CFG_STATION ∧
      q.round * s.dev.roundNs + 5000000 < s.dev.time) ∧
    (∃ (s : State) (q : Post), s.runs ∧ s.dev.multi = true ∧ q.addr < 32 ∧ q.station ≠ s.dev.get Reg.FAB_CFG_STATION ∧
      s.dev.time ≤ q.round * s.dev.roundNs + 5000000) ∧
    (∃ (s : State) (q : Post), s.runs ∧
      (s.dev.multi = false ∨ 32 ≤ q.addr ∨ (q.station = s.dev.get Reg.FAB_CFG_STATION ∧ s.dev.addr? = some q.addr))) ∧
    (∃ s : State, s.serves ∧ s.dev.mode = .commission ∧ s.dev.lifecycle = 3) ∧
    (∃ s : State, s.serves ∧ s.dev.mode = .commission ∧ s.dev.lifecycle ≠ 3) ∧
    (∃ s : State, ∃ len : BitVec 13, s.serves ∧ s.dev.mode = .commission ∧ 1 ≤ len.toNat ∧ len.toNat ≤ 4096) ∧
    (∃ s : State, ∃ len : BitVec 13, s.serves ∧ s.dev.mode = .commission ∧ (len.toNat = 0 ∨ 4096 < len.toNat)) ∧
    (∃ (s : State) (c : Instr), s.serves ∧ s.dev.mode ≠ .commission ∧
      (c = .fabCertcmdGenerate ∨ c = .fabCertcmdErase ∨ ∃ len, c = .fabCertcmdInstall len)) :=
  ⟨⟨stIn .idle [(Reg.FAB_STATUS_ADDRSRC, 1), (Reg.FAB_STATUS_ADDR, 1)], 1, by decide +kernel⟩,
   ⟨stIn .idle [], by decide +kernel⟩,
   ⟨stIn .idle [], 31, 1#16, [], by decide +kernel⟩,
   ⟨stIn .idle [], 5, 1, 1, 1, 1, true, true, by decide +kernel⟩,
   ⟨stIn .idle [(Reg.FAB_PORT_STATE 5, 4), (Reg.FAB_STATUS_TIMESTATE, 1), (Reg.FAB_ROUTE_REACH 0, 1), (Reg.FAB_ROUTE_PORT 0, 5)],
     5, 1, 1, 1, 1, true, true, by decide +kernel⟩,
   ⟨stIn .idle [(Reg.FAB_PORT_STATE 5, 4), (Reg.FAB_STATUS_TIMESTATE, 2)], 5, 1, 1, 1, 1, true, true, by decide +kernel⟩,
   ⟨stIn .idle [], by decide +kernel⟩,
   ⟨stIn .idle [], by decide +kernel⟩,
   ⟨stIn .idle [(Reg.INK_CFG_ROUNDPER, 100), (Reg.TB_TB2CFG_PERIOD, 100), (Reg.TB_TIME_LO_TIME, 5000000)] fun d => { d with fab := { d.fab with step := some 1 } },
     1, by decide +kernel⟩,
   ⟨stIn .idle [] fun d => { d with fab := { d.fab with step := some 1 } }, 1, by decide +kernel⟩,
   ⟨stIn .idle [(Reg.FAB_SITECFG_STATIONS, 2)] fun d => { d with fab := { d.fab with step := some 1000001 } }, 1000001,
     by decide +kernel⟩,
   ⟨stIn .idle [(Reg.FAB_STATUS_TIMESRC, 1), (Reg.FAB_STATUS_ADDRSRC, 1), (Reg.FAB_ROUTE_REACH 3, 1)] fun d => { d with fab := { d.fab with peers := [(3, { known := true, synced := true })] } },
     0, 3, by decide +kernel⟩,
   ⟨stIn .idle [(Reg.FAB_SITECFG_STATIONS, 2), (Reg.TB_TIME_LO_TIME, 5000001)], { addr := 31, station := 9 }, by decide +kernel⟩,
   ⟨stIn .idle [(Reg.FAB_SITECFG_STATIONS, 2)], { addr := 31, station := 9 }, by decide +kernel⟩,
   ⟨stIn .idle [], {}, by decide +kernel⟩,
   ⟨stIn .commission [(Reg.SYS_LIFECYCLE_STATE, 3)], by decide +kernel⟩,
   ⟨stIn .commission [], by decide +kernel⟩,
   ⟨stIn .commission [], 1#13, by decide +kernel⟩,
   ⟨stIn .commission [], 4097#13, by decide +kernel⟩,
   ⟨stIn .idle [], .fabCertcmdInstall 1, ⟨by decide +kernel, by decide +kernel, .inr (.inr ⟨1, rfl⟩)⟩⟩⟩

theorem wit_sramWritesGoToTheirBytes :
    (∃ (s : State) (agent : Fin 32) (b : Fin 64) (w : Fin 32768), ∃ (mask : BitVec 64) (set_ bad : Bool), s.runs ∧
      s.dev.mayAccess agent.val b.val = false) ∧
    (∃ (s : State) (agent : Fin 32) (b : Fin 64) (w : Fin 32768), ∃ (data : BitVec 64) (mask : BitVec 8) (bad : Bool), s.runs ∧
      s.dev.mayAccess agent.val b.val = false) ∧
    (∃ (s : State) (agent : Fin 32) (b : Fin 64) (w : Fin 32768) (mask : BitVec 64) (set_ : Bool), s.runs ∧
      s.dev.mayAccess agent.val b.val = true ∧ s.dev.bankPwr b.val = 0 ∧ s.dev.poisoned b.val w.val = false) ∧
    (∃ (s : State) (agent : Fin 32) (b : Fin 64) (w : Fin 32768) (mask : BitVec 64) (set_ bad : Bool), s.runs ∧
      s.dev.mayAccess agent.val b.val = true ∧ s.dev.bankPwr b.val = 0 ∧ (bad = true ∨ s.dev.poisoned b.val w.val = true)) ∧
    (∃ (s : State) (agent : Fin 32) (b : Fin 64) (w : Fin 32768) (data : BitVec 64) (mask : BitVec 8), s.runs ∧
      s.dev.mayAccess agent.val b.val = true ∧ s.dev.bankPwr b.val = 0 ∧ s.dev.poisoned b.val w.val = false) ∧
    (∃ (s : State) (agent : Fin 32) (b : Fin 64) (w : Fin 32768) (data : BitVec 64) (mask : BitVec 8), ∃ bad : Bool, s.runs ∧
      s.dev.mayAccess agent.val b.val = true ∧ s.dev.bankPwr b.val = 0 ∧ (bad = true ∨ s.dev.poisoned b.val w.val = true)) ∧
    (∃ (s : State) (agent : Fin 32) (b : Fin 64) (w : Fin 32768), ∃ (mask : BitVec 64) (set_ bad : Bool), s.runs ∧
      s.dev.mayAccess agent.val b.val = true ∧ s.dev.bankPwr b.val ≠ 0 ∧ s.dev.bankPwr b.val ≠ 3) ∧
    (∃ (s : State) (agent : Fin 32) (b : Fin 64) (w : Fin 32768), ∃ (data : BitVec 64) (mask : BitVec 8) (bad : Bool), s.runs ∧
      s.dev.mayAccess agent.val b.val = true ∧ s.dev.bankPwr b.val ≠ 0 ∧ s.dev.bankPwr b.val ≠ 3) ∧
    (∃ (s : State) (agent : Fin 32) (b : Fin 64) (w : Fin 32768), ∃ (mask : BitVec 64) (set_ bad : Bool), s.runs ∧
      s.dev.mayAccess agent.val b.val = true ∧ s.dev.bankPwr b.val = 3) ∧
    (∃ (s : State) (agent : Fin 32) (b : Fin 64) (w : Fin 32768), ∃ (data : BitVec 64) (mask : BitVec 8) (bad : Bool), s.runs ∧
      s.dev.mayAccess agent.val b.val = true ∧ s.dev.bankPwr b.val = 3) ∧
    (∃ (s : State) (mask : BitVec 32) (b o old : Nat), s.serves ∧ b = s.dev.get Reg.MEM_HOSTWIN_BANK ∧
      o = 4 * s.dev.get Reg.MEM_ATOMADDR_OFFSET ∧ old = ofLe (s.dev.sramBytes b o 4) ∧ s.dev.poisoned b (o / 8) = false ∧
      s.dev.bankPwr b = 0) ∧
    (∃ (s : State) (mask : BitVec 32), s.serves ∧ s.dev.bankPwr (s.dev.get Reg.MEM_HOSTWIN_BANK) ≠ 0) :=
  ⟨⟨stIn .idle [], 3, 63, 32767, 1#64, true, false, by decide +kernel⟩,
   ⟨stIn .idle [], 3, 63, 32767, 1#64, 1#8, false, by decide +kernel⟩,
   ⟨stIn .idle [(Reg.MEM_BANKOWN_PWR 63, 0), (Reg.MEM_BANKOWN_OWNER 63, 3)], 3, 63, 32767, 1#64, true, by decide +kernel⟩,
   ⟨stIn .idle [(Reg.MEM_BANKOWN_PWR 63, 0), (Reg.MEM_BANKOWN_OWNER 63, 3)], 3, 63, 32767, 1#64, true, true, by decide +kernel⟩,
   ⟨stIn .idle [(Reg.MEM_BANKOWN_PWR 63, 0), (Reg.MEM_BANKOWN_OWNER 63, 3)], 3, 63, 32767, 1#64, 1#8, by decide +kernel⟩,
   ⟨stIn .idle [(Reg.MEM_BANKOWN_PWR 63, 0), (Reg.MEM_BANKOWN_OWNER 63, 3)], 3, 63, 32767, 1#64, 1#8, true, by decide +kernel⟩,
   ⟨stIn .idle [(Reg.MEM_BANKOWN_OWNER 63, 3), (Reg.MEM_BANKOWN_PWR 63, 1)], 3, 63, 32767, 1#64, true, false, by decide +kernel⟩,
   ⟨stIn .idle [(Reg.MEM_BANKOWN_OWNER 63, 3), (Reg.MEM_BANKOWN_PWR 63, 1)], 3, 63, 32767, 1#64, 1#8, false, by decide +kernel⟩,
   ⟨stIn .idle [(Reg.MEM_BANKOWN_OWNER 63, 3), (Reg.MEM_BANKOWN_PWR 63, 3)], 3, 63, 32767, 1#64, true, false, by decide +kernel⟩,
   ⟨stIn .idle [(Reg.MEM_BANKOWN_OWNER 63, 3), (Reg.MEM_BANKOWN_PWR 63, 3)], 3, 63, 32767, 1#64, 1#8, false, by decide +kernel⟩,
   ⟨stIn .idle [], 1#32, 0, 0, 0, by decide +kernel⟩,
   ⟨stIn .idle [(Reg.MEM_BANKOWN_PWR 0, 1)], 1#32, by decide +kernel⟩⟩

theorem wit_banksMoveAndTheStrongboxIsWiped :
    (∃ (s : State) (b : Fin 64) (new compare : Fin 32) (dma : Bool), s.runs ∧
      (s.dev.holder b.val ≠ compare.val ∨ s.dev.handable b.val = false ∨ new.val = 31 ∨ dma = true)) ∧
    (∃ (s : State) (b : Fin 64) (new compare : Fin 32) (dma : Bool), s.runs ∧ s.dev.holder b.val = compare.val ∧
      s.dev.handable b.val = true ∧ dma = false ∧ new.val ≠ 31 ∧ new.val ≠ 0 ∧ s.dev.owner b.val = 0 ∧ s.dev.bankPwr b.val ≠ 0) ∧
    (∃ (s : State) (b : Fin 64) (new compare : Fin 32) (dma : Bool), s.runs ∧ s.dev.holder b.val = compare.val ∧
      s.dev.handable b.val = true ∧ dma = false ∧ new.val ≠ 31 ∧ new.val ≠ 0 ∧
      (s.dev.owner b.val ≠ 0 ∨ s.dev.bankPwr b.val = 0)) ∧
    (∃ (s : State) (b : Fin 64) (new compare : Fin 32) (dma : Bool), s.runs ∧ s.dev.holder b.val = compare.val ∧
      s.dev.handable b.val = true ∧ dma = false ∧ new.val = 0) ∧
    (∃ (s : State) (b : Fin 64) (bad : List (Fin 32768)), s.runs ∧ (s.dev.bankPwr b.val = 0 ∨ s.dev.retired b.val = true)) ∧
    (∃ (s : State) (b : Fin 64) (bad : List (Fin 32768)), s.runs ∧ s.dev.retired b.val = false ∧
      (∀ x ∈ s.dev.mem.waiting, x.bank ≠ b.val) ∧ s.dev.bankPwr b.val = 1) ∧
    (∃ (s : State) (b : Fin 64) (bad : List (Fin 32768)), s.runs ∧ s.dev.retired b.val = false ∧
      (∀ x ∈ s.dev.mem.waiting, x.bank ≠ b.val) ∧
      ((s.dev.bankPwr b.val = 2 ∧ s.dev.owner b.val ≠ 0) ∨ s.dev.bankPwr b.val = 3) ∧
      (∀ x, s.dev.mem.move = some x → x.bank ≠ b.val)) ∧
    (∃ (s : State) (agent : Fin 32) (b : Fin 64), s.runs ∧ agent.val ≠ 0 ∧ s.dev.owner b.val = agent.val ∧
      s.dev.bankPwr b.val = 0 ∧ s.dev.retired b.val = false) ∧
    (∃ (s : State) (agent : Fin 32) (b : Fin 64), s.runs ∧ s.dev.owner b.val ≠ agent.val) ∧
    (∃ (s : State) (b : Fin 64) (w : Fin 32768) (synd : BitVec 8), s.runs ∧ s.dev.bankPwr b.val = 0 ∧
      s.dev.poisoned b.val w.val = false) ∧
    (∃ (s : State) (b : Fin 64) (w : Fin 32768) (synd : BitVec 8), ∃ r : Fin 3, s.runs ∧ s.dev.bankPwr b.val = 0 ∧
      (r = 2 ∨ s.dev.poisoned b.val w.val = true)) ∧
    (∃ (s : State) (b : Fin 64) (w : Fin 32768) (r : Fin 3) (synd : BitVec 8), s.runs ∧ s.dev.bankPwr b.val ≠ 0) ∧
    (∃ (s : State) (x : Migration), s.runs ∧ s.dev.mem.move = some x ∧ x.bank < 64 ∧ x.spare < 64 ∧ x.bank ≠ x.spare ∧
      s.dev.get Reg.MEM_RETSTAT_STATE = 2) ∧
    (∃ s : State, s.runs ∧ (s.dev.mem.move = none ∨ s.dev.get Reg.MEM_RETSTAT_STATE ≠ 2)) ∧
    (∃ (s : State) (k : Fin 4), s.runs ∧ s.dev.bit Reg.MEM_TAMPCFG_EN k.val = true) ∧
    (∃ (s : State) (k : Fin 4), s.runs ∧ s.dev.bit Reg.MEM_TAMPCFG_EN k.val = false) ∧
    (∃ (s : State) (k : Fin 4) (pin : Bool), s.runs ∧
      s.dev.bit Reg.MEM_TAMPSTAT_LEVEL k.val ≠ decide (pin = s.dev.bit Reg.MEM_TAMPCFG_POL k.val)) ∧
    (∃ (s : State) (k : Fin 4) (pin : Bool), s.runs ∧
      s.dev.bit Reg.MEM_TAMPSTAT_LEVEL k.val = decide (pin = s.dev.bit Reg.MEM_TAMPCFG_POL k.val)) :=
  ⟨⟨stIn .idle [], 63, 31, 31, true, by decide +kernel⟩,
   ⟨stIn .idle [(Reg.MEM_BANKOWN_OWNER 63, 0), (Reg.MEM_BANKOWN_PWR 63, 2)], 63, 4, 0, false, by decide +kernel⟩,
   ⟨stIn .idle [(Reg.MEM_BANKOWN_OWNER 63, 3)], 63, 4, 3, false, by decide +kernel⟩,
   ⟨stIn .idle [(Reg.MEM_BANKOWN_OWNER 63, 3)], 63, 0, 3, false, by decide +kernel⟩,
   ⟨stIn .idle [(Reg.MEM_BANKOWN_PWR 63, 0)], 63, [], by decide +kernel⟩,
   ⟨stIn .idle [(Reg.MEM_BANKOWN_PWR 63, 1)], 63, [], by decide +kernel⟩,
   ⟨stIn .idle [(Reg.MEM_BANKOWN_PWR 63, 2), (Reg.MEM_BANKOWN_OWNER 63, 3)], 63, [],
     ⟨by decide +kernel, by decide +kernel, (fun _ h => nomatch h), by decide +kernel, (fun _ h => nomatch h)⟩⟩,
   ⟨stIn .idle [(Reg.MEM_BANKOWN_OWNER 63, 31), (Reg.MEM_BANKOWN_PWR 63, 0)], 31, 63, by decide +kernel⟩,
   ⟨stIn .idle [(Reg.MEM_BANKOWN_OWNER 63, (31 + 1))], 31, 63, by decide +kernel⟩,
   ⟨stIn .idle [(Reg.MEM_BANKOWN_PWR 63, 0)], 63, 32767, 1#8, by decide +kernel⟩,
   ⟨stIn .idle [(Reg.MEM_BANKOWN_PWR 63, 0)], 63, 32767, 1#8, 2, by decide +kernel⟩,
   ⟨stIn .idle [(Reg.MEM_BANKOWN_PWR 63, (0 + 1))], 63, 32767, 2, 1#8, by decide +kernel⟩,
   ⟨stIn .idle [(Reg.MEM_RETSTAT_STATE, 2)] fun d => { d with mem := { d.mem with move := some { bank := 63, spare := 62 } } },
     { bank := 63, spare := 62 }, by decide +kernel⟩,
   ⟨stIn .idle [], by decide +kernel⟩,
   ⟨stIn .idle [(Reg.MEM_TAMPCFG_EN, (2 ^ 3))], 3, by decide +kernel⟩,
   ⟨stIn .idle [], 3, by decide +kernel⟩,
   ⟨stIn .idle [(Reg.MEM_TAMPCFG_POL, 8)], 3, true, by decide +kernel⟩,
   ⟨stIn .idle [], 3, true, by decide +kernel⟩⟩

theorem wit_transactionsOpenCommitAndAbort :
    (∃ (s : State) (a : Fin 11), s.serves ∧
      (s.dev.txn.isSome = true ∨ s.dev.holding.isSome = true ∨ s.dev.mode.transacts = false)) ∧
    (∃ (s : State) (a : Fin 11), s.serves ∧ s.dev.txn = none ∧ s.dev.holding = none ∧ s.dev.mode.transacts = true) ∧
    (∃ (s : State) (a : Fin 11) (h : BitVec 16) (p : Bool), ∃ code : Nat, s.serves ∧
      ((code = 2 ∧ ∀ t, s.dev.txn = some t → t.handle ≠ h.toNat) ∨ (code = 9 ∧ ∃ t, s.dev.txn = some t ∧ t.handle = h.toNat ∧ t.agent ≠ a.val))) ∧
    (∃ (s : State) (a : Fin 11) (h : BitVec 16) (p : Bool), ∃ t code addr, s.serves ∧ s.dev.txn = some t ∧ t.handle = h.toNat ∧
      t.agent = a.val ∧
      ((s.dev.txnExpired t = true ∧ code = 7 ∧ addr = Reg.TXN_COMMIT_HANDLE.addr) ∨ (s.dev.txnExpired t = false ∧ s.dev.commitFault (t.lockHit.or (s.dev.lockOf t.writes)) t.writes = some (code, addr)))) ∧
    (∃ (s : State) (a : Fin 11) (h : BitVec 16) (p : Bool), ∃ t, s.serves ∧ s.dev.txn = some t ∧ t.handle = h.toNat ∧
      t.agent = a.val ∧ s.dev.txnExpired t = false ∧ s.dev.commitFault (t.lockHit.or (s.dev.lockOf t.writes)) t.writes = none ∧
      s.dev.holding.isSome = true ∧ touches t.writes (fun k => siteField (k / 32)) = true) ∧
    (∃ (s : State) (a : Fin 11) (h : BitVec 16) (p : Bool), ∃ t, s.serves ∧ s.dev.txn = some t ∧ t.handle = h.toNat ∧
      t.agent = a.val ∧ s.dev.txnExpired t = false ∧ s.dev.commitFault (t.lockHit.or (s.dev.lockOf t.writes)) t.writes = none ∧
      (s.dev.duplex = false ∨ s.dev.drives = true ∨ s.dev.get Reg.DUP_LEASE_VALID ≠ 1) ∧ s.dev.sentUp = none ∧
      (touches t.writes (fun k => siteField (k / 32)) = false ∨ s.dev.holding = none ∧ s.dev.preparing = none ∧ s.dev.peersAsked = [])) ∧
    (∃ (s : State) (a : Fin 11) (h : BitVec 16) (p : Bool), ∃ t, s.serves ∧ s.dev.txn = some t ∧ t.handle = h.toNat ∧
      t.agent = a.val ∧ s.dev.txnExpired t = false ∧ s.dev.commitFault (t.lockHit.or (s.dev.lockOf t.writes)) t.writes = none ∧
      (s.dev.duplex = false ∨ s.dev.drives = true ∨ s.dev.get Reg.DUP_LEASE_VALID ≠ 1) ∧
      touches t.writes (fun k => siteField (k / 32)) = true ∧ s.dev.holding = none ∧ s.dev.preparing = none ∧
      s.dev.sentUp = none ∧ s.dev.peersAsked ≠ []) ∧
    (∃ (s : State) (a : Fin 11) (h : BitVec 16) (p : Bool), ∃ t, s.serves ∧ s.dev.txn = some t ∧ t.handle = h.toNat ∧
      t.agent = a.val ∧ s.dev.txnExpired t = false ∧ s.dev.commitFault (t.lockHit.or (s.dev.lockOf t.writes)) t.writes = none ∧
      s.dev.duplex = true ∧ s.dev.drives = false ∧ s.dev.get Reg.DUP_LEASE_VALID = 1 ∧ s.dev.sentUp = none ∧
      (touches t.writes (fun k => siteField (k / 32)) = false ∨ s.dev.holding = none ∧ s.dev.preparing = none)) ∧
    (∃ s : State, s.runs ∧ s.dev.txn = none) ∧
    (∃ s : State, ∃ t, s.runs ∧ s.dev.txn = some t) ∧
    (∃ (s : State) (ok : Bool), s.runs ∧ s.dev.persisting = none) ∧
    (∃ (s : State) (ok : Bool), ∃ img other good, s.runs ∧ s.dev.persisting = some img ∧ s.dev.persistDue = false ∧
      other = decide (s.dev.get Reg.SYS_TAB_ACTIVE = 0) ∧ good = (ok && (s.dev.putFlash (copyBase other) img).copyOk other)) :=
  ⟨⟨stIn .idle [] fun d => { d with txn := some {} }, 10, by decide +kernel⟩,
   ⟨stIn .idle [], 10, by decide +kernel⟩,
   ⟨stIn .idle [] fun d => { d with txn := some { agent := 3, handle := 5 } }, 10, 5#16, true, 9,
     ⟨by decide +kernel, .inr ⟨rfl, _, rfl, rfl, by decide +kernel⟩⟩⟩,
   ⟨stIn .idle [] fun d => { d with txn := some { agent := 10, handle := 1 } }, 10, 1#16, true, { agent := 10, handle := 1 }, 7,
     Reg.TXN_COMMIT_HANDLE.addr, by decide +kernel⟩,
   ⟨saneIn (some { agent := 10, handle := 1, writes := siteWrite }) (some {}) {}, 10, 1#16, true,
     { agent := 10, handle := 1, writes := siteWrite },
     ⟨by decide +kernel, by decide +kernel, rfl, rfl, by decide +kernel, lockFree _ _ (by decide +kernel) (commits _ _ _), by decide +kernel, by decide +kernel⟩⟩,
   ⟨saneIn (some { agent := 10, handle := 1, writes := siteWrite }) (none) { peers := [(1, { role := 2 })] }, 10, 1#16, true,
     { agent := 10, handle := 1, writes := siteWrite },
     ⟨by decide +kernel, by decide +kernel, rfl, rfl, by decide +kernel, lockFree _ _ (by decide +kernel) (commits _ _ _), by decide +kernel, by decide +kernel, by decide +kernel⟩⟩,
   ⟨saneIn (some { agent := 10, handle := 1, writes := siteWrite }) (none) {}, 10, 1#16, true,
     { agent := 10, handle := 1, writes := siteWrite },
     ⟨by decide +kernel, by decide +kernel, rfl, rfl, by decide +kernel, lockFree _ _ (by decide +kernel) (commits _ _ _), by decide +kernel, by decide +kernel, by decide +kernel, by decide +kernel, by decide +kernel, by decide +kernel⟩⟩,
   ⟨duoIn (some { agent := 10, handle := 1, writes := siteWrite }) (none) {}, 10, 1#16, true,
     { agent := 10, handle := 1, writes := siteWrite },
     ⟨by decide +kernel, by decide +kernel, rfl, rfl, by decide +kernel, lockFree _ _ (by decide +kernel) (duoCommits _ _ _), by decide +kernel, by decide +kernel, by decide +kernel, by decide +kernel, by decide +kernel⟩⟩,
   ⟨stIn .idle [], by decide +kernel⟩,
   ⟨stIn .idle [(Reg.TXN_TIMEOUT_TIMEOUT, 1)] fun d => { d with txn := some { agent := 10, handle := 1 } },
     { agent := 10, handle := 1 }, by decide +kernel⟩,
   ⟨stIn .idle [], true, by decide +kernel⟩,
   ⟨stIn .idle [] fun d => { d with persisting := some [1, 2, 3] }, true, [1, 2, 3],
     decide ((stIn .idle [] fun d => { d with persisting := some [1, 2, 3] }).dev.get Reg.SYS_TAB_ACTIVE = 0),
     (true && ((stIn .idle [] fun d => { d with persisting := some [1, 2, 3] }).dev.putFlash (copyBase ((decide ((stIn .idle [] fun d => { d with persisting := some [1, 2, 3] }).dev.get Reg.SYS_TAB_ACTIVE = 0)))) ([1, 2, 3])).copyOk ((decide ((stIn .idle [] fun d => { d with persisting := some [1, 2, 3] }).dev.get Reg.SYS_TAB_ACTIVE = 0)))),
     by decide +kernel⟩⟩

theorem wit_siteChangesTakeTwoPhases :
    (∃ (s : State) (x : BitVec 8) (h : BitVec 16) (ws : List (Nat × Nat)) (tb : Tbl (Option Nat)), s.runs ∧
      tb = ws.foldl (fun t w => tput none t w.1 (some w.2)) [] ∧ s.dev.drives = false) ∧
    (∃ (s : State) (x : BitVec 8) (h : BitVec 16) (ws : List (Nat × Nat)) (tb : Tbl (Option Nat)), s.runs ∧
      tb = ws.foldl (fun t w => tput none t w.1 (some w.2)) [] ∧ s.dev.drives = true ∧
      ((s.dev.preparing.isSome = true ∧ s.dev.get Reg.FAB_CFG_STATION ≤ x.toNat) ∨ (s.dev.preparing = none ∧ ∃ p, s.dev.holding = some p ∧ p.station ≤ x.toNat))) ∧
    (∃ (s : State) (x : BitVec 8) (h : BitVec 16) (ws : List (Nat × Nat)) (tb : Tbl (Option Nat)), ∃ p, s.runs ∧
      tb = ws.foldl (fun t w => tput none t w.1 (some w.2)) [] ∧ s.dev.drives = true ∧ s.dev.preparing = some p ∧
      p.sched.agent ≠ 11 ∧ x.toNat < s.dev.get Reg.FAB_CFG_STATION) ∧
    (∃ (s : State) (x : BitVec 8) (h : BitVec 16) (ws : List (Nat × Nat)) (tb : Tbl (Option Nat)), s.runs ∧
      tb = ws.foldl (fun t w => tput none t w.1 (some w.2)) [] ∧ s.dev.drives = true ∧ s.dev.preparing = none ∧
      (∀ p, s.dev.holding = some p → x.toNat < p.station) ∧
      (tb.any fun w => !siteField (w.1 / 32) || (fieldAt w.1).isNone) = true) ∧
    (∃ (s : State) (x : BitVec 8) (h : BitVec 16) (ws : List (Nat × Nat)) (tb : Tbl (Option Nat)), ∃ code addr, s.runs ∧
      tb = ws.foldl (fun t w => tput none t w.1 (some w.2)) [] ∧ s.dev.drives = true ∧ s.dev.preparing = none ∧
      (∀ p, s.dev.holding = some p → x.toNat < p.station) ∧
      (tb.any fun w => !siteField (w.1 / 32) || (fieldAt w.1).isNone) = false ∧
      s.dev.commitFault (s.dev.lockOf tb) tb = some (code, addr)) ∧
    (∃ (s : State) (x : BitVec 8) (h : BitVec 16) (ws : List (Nat × Nat)) (tb : Tbl (Option Nat)), s.runs ∧
      tb = ws.foldl (fun t w => tput none t w.1 (some w.2)) [] ∧ s.dev.drives = true ∧ s.dev.preparing = none ∧
      (∀ p, s.dev.holding = some p → x.toNat < p.station) ∧
      (tb.any fun w => !siteField (w.1 / 32) || (fieldAt w.1).isNone) = false ∧ s.dev.commitFault (s.dev.lockOf tb) tb = none) ∧
    (∃ (s : State) (x : BitVec 8) (c : BitVec 4), s.runs ∧ (∀ p, s.dev.preparing = some p → p.awaited.contains x.toNat = false)) ∧
    (∃ (s : State) (x : BitVec 8) (c : BitVec 4), ∃ p, s.runs ∧ s.dev.preparing = some p ∧ p.sched.agent ≠ 11 ∧
      p.awaited.contains x.toNat = true ∧ c.toNat ≠ 0) ∧
    (∃ (s : State) (x : BitVec 8) (c : BitVec 4), ∃ p, ∃ got, s.runs ∧ s.dev.preparing = some p ∧ p.sched.agent ≠ 11 ∧
      p.awaited.contains x.toNat = true ∧ c.toNat = 0 ∧
      got = (if p.answered.contains x.toNat then p.answered else p.answered ++ [x.toNat]) ∧ p.awaited.all got.contains = false) ∧
    (∃ (s : State) (x : BitVec 8) (c : BitVec 4), ∃ p, ∃ got, s.runs ∧ s.dev.preparing = some p ∧ p.sched.agent ≠ 11 ∧
      p.awaited.contains x.toNat = true ∧ c.toNat = 0 ∧
      got = (if p.answered.contains x.toNat then p.answered else p.answered ++ [x.toNat]) ∧ p.awaited.all got.contains = true) ∧
    (∃ s : State, s.runs ∧ (∀ p, s.dev.preparing = some p → p.awaited.filter (fun y => !p.answered.contains y) = [])) ∧
    (∃ s : State, ∃ p y ys, s.runs ∧ s.dev.preparing = some p ∧ p.sched.agent ≠ 11 ∧
      p.awaited.filter (fun y => !p.answered.contains y) = y :: ys) ∧
    (∃ s : State, s.runs ∧ s.dev.holding = none) ∧
    (∃ s : State, s.runs ∧ s.dev.holding.isSome = true) ∧
    (∃ (s : State) (x : BitVec 8) (r : Nat), s.runs ∧ (∀ p, s.dev.holding = some p → p.station ≠ x.toNat)) ∧
    (∃ (s : State) (x : BitVec 8) (r : Nat), ∃ p, s.runs ∧ s.dev.holding = some p ∧ p.station = x.toNat) ∧
    (∃ (d : Dev) (r : Nat), ∃ x, x ∈ (d.makeRoom r).scheds) ∧
    (∃ (d : Dev) (r : Nat), (∀ x ∈ d.scheds, x.round ≠ r)) ∧
    (∃ (s : State) (x : BitVec 8) (c : BitVec 4), ∃ p, s.runs ∧ s.dev.preparing = some p ∧ p.sched.agent = 11 ∧
      p.awaited.contains x.toNat = true ∧ c.toNat ≠ 0) :=
  ⟨⟨stIn .idle [(Reg.DUP_CFG_EN, 1), (Reg.DUP_STATUS_ROLE, 2)], 1#8, 1#16, [], [], by decide +kernel⟩,
   ⟨stIn .idle [] fun d => { d with preparing := some {} }, 1#8, 1#16, [], [],
     ⟨by decide +kernel, rfl, by decide +kernel, .inl ⟨by decide +kernel, by decide +kernel⟩⟩⟩,
   ⟨stIn .idle [(Reg.FAB_CFG_STATION, 2)] fun d => { d with preparing := some {} }, 1#8, 1#16, [], [], {}, by decide +kernel⟩,
   ⟨stIn .idle [], 1#8, 1#16, [(7, 1)], [(7, some 1)],
     ⟨by decide +kernel, rfl, by decide +kernel, by decide +kernel, (fun p h => nomatch h), by decide +kernel⟩⟩,
   ⟨stIn .idle [], 1#8, 1#16, [(Reg.PRS_SITECFG_WIN.key, 15)], siteWrite, 6, Reg.INK_CFG_ROUNDPER.addr,
     ⟨by decide +kernel, rfl, by decide +kernel, by decide +kernel, (fun p h => nomatch h), by decide +kernel, by decide +kernel⟩⟩,
   ⟨saneIn (none) (none) {}, 1#8, 1#16, [(Reg.PRS_SITECFG_WIN.key, 15)], siteWrite,
     ⟨by decide +kernel, rfl, by decide +kernel, by decide +kernel, (fun p h => nomatch h), by decide +kernel, lockFree _ _ (by decide +kernel) (commits _ _ _)⟩⟩,
   ⟨stIn .idle [], 1#8, 1#4, by decide +kernel⟩,
   ⟨stIn .idle [] fun d => { d with preparing := some { awaited := [1] } }, 1#8, 1#4, { awaited := [1] }, by decide +kernel⟩,
   ⟨stIn .idle [] fun d => { d with preparing := some { awaited := [1, 2] } }, 1#8, 0#4, { awaited := [1, 2] }, [1],
     by decide +kernel⟩,
   ⟨stIn .idle [] fun d => { d with preparing := some { awaited := [1] } }, 1#8, 0#4, { awaited := [1] }, [1],
     by decide +kernel⟩,
   ⟨stIn .idle [], by decide +kernel⟩,
   ⟨stIn .idle [] fun d => { d with preparing := some { awaited := [1] } }, { awaited := [1] }, 1, [], by decide +kernel⟩,
   ⟨stIn .idle [], by decide +kernel⟩,
   ⟨stIn .idle [] fun d => { d with holding := some {} }, by decide +kernel⟩,
   ⟨stIn .idle [], 1#8, 1, by decide +kernel⟩,
   ⟨stIn .idle [] fun d => { d with holding := some { station := 1 } }, 1#8, 1, { station := 1 }, by decide +kernel⟩,
   ⟨(stIn .idle [] fun d => { d with scheds := [{ round := 2 }] }).dev, 2, { round := 3 }, by decide +kernel⟩,
   ⟨(stIn .idle [] fun d => { d with scheds := [{ round := 3 }] }).dev, 2,
     fun x h e => by simp [stIn] at h; subst h; exact absurd e (by decide +kernel)⟩,
   ⟨stIn .idle [] fun d => { d with preparing := some { sched := { agent := 11 }, awaited := [1] } }, 1#8, 1#4,
     { sched := { agent := 11 }, awaited := [1] }, by decide +kernel⟩⟩

theorem wit_pigeonholesGoRound :
    (∃ (s : State) (a : Fin 13) (h : Fin 32) (len : BitVec 16) (bytes : List Byte) (addr : Fin 32) (ep : BitVec 16), s.runs ∧
      256 < len.toNat) ∧
    (∃ (s : State) (a : Fin 13) (h : Fin 32) (len : BitVec 16) (bytes : List Byte) (addr : Fin 32) (ep : BitVec 16), s.runs ∧
      len.toNat ≤ 256 ∧ s.dev.get (Reg.PGH_STAT_STATE h.val) ≠ 0) ∧
    (∃ (s : State) (a : Fin 13) (h : Fin 32) (len : BitVec 16) (bytes : List Byte) (addr : Fin 32) (ep : BitVec 16), s.runs ∧
      len.toNat ≤ 256 ∧ s.dev.get (Reg.PGH_STAT_STATE h.val) = 0) ∧
    (∃ (s : State) (a : Fin 13) (h : Fin 32), s.runs ∧ s.dev.get (Reg.PGH_STAT_STATE h.val) = 1 ∧
      s.dev.get (Reg.PGH_CFG_RCV h.val) ≠ a.val) ∧
    (∃ (s : State) (a : Fin 13) (h : Fin 32), s.runs ∧ s.dev.get (Reg.PGH_STAT_STATE h.val) = 1 ∧
      s.dev.get (Reg.PGH_CFG_RCV h.val) = a.val) ∧
    (∃ (s : State) (a : Fin 13) (h : Fin 32), s.runs ∧ s.dev.get (Reg.PGH_STAT_STATE h.val) ≠ 3 ∧
      s.dev.get (Reg.PGH_STAT_SNDAGENT h.val) = a.val) ∧
    (∃ (s : State) (a : Fin 13) (h : Fin 32), s.runs ∧ s.dev.get (Reg.PGH_STAT_STATE h.val) = 3 ∧
      s.dev.get (Reg.PGH_STAT_SNDAGENT h.val) ≠ a.val) ∧
    (∃ (s : State) (a : Fin 13) (h : Fin 32), s.runs ∧ s.dev.get (Reg.PGH_STAT_STATE h.val) ≠ 3 ∧
      s.dev.get (Reg.PGH_STAT_SNDAGENT h.val) ≠ a.val) ∧
    (∃ (s : State) (a : Fin 13) (h : Fin 32), s.runs ∧ s.dev.get (Reg.PGH_STAT_STATE h.val) = 3 ∧
      s.dev.get (Reg.PGH_STAT_SNDAGENT h.val) = a.val) ∧
    (∃ (s : State) (a : Fin 13) (h : Fin 32), s.runs ∧ a.val < 3) ∧
    (∃ (s : State) (a : Fin 13) (h : Fin 32), s.runs ∧ 3 ≤ a.val) ∧
    (∃ (s : State) (a : Fin 13) (h : Fin 32) (code : BitVec 16), s.runs ∧ s.dev.get (Reg.PGH_CFG_RCV h.val) = a.val ∧
      (s.dev.get (Reg.PGH_STAT_STATE h.val) = 1 ∨ s.dev.get (Reg.PGH_STAT_STATE h.val) = 2)) ∧
    (∃ (s : State) (a : Fin 13) (h : Fin 32) (code : BitVec 16), s.runs ∧ s.dev.get (Reg.PGH_CFG_RCV h.val) = a.val ∧
      s.dev.get (Reg.PGH_STAT_STATE h.val) ≠ 1 ∧ s.dev.get (Reg.PGH_STAT_STATE h.val) ≠ 2) ∧
    (∃ (s : State) (a : Fin 13) (h : Fin 32) (code : BitVec 16), s.runs ∧ s.dev.get (Reg.PGH_CFG_RCV h.val) ≠ a.val ∧
      (s.dev.get (Reg.PGH_STAT_STATE h.val) = 1 ∨ s.dev.get (Reg.PGH_STAT_STATE h.val) = 2)) ∧
    (∃ (s : State) (a : Fin 13) (h : Fin 32) (code : BitVec 16), s.runs ∧ s.dev.get (Reg.PGH_CFG_RCV h.val) ≠ a.val ∧
      s.dev.get (Reg.PGH_STAT_STATE h.val) ≠ 1 ∧ s.dev.get (Reg.PGH_STAT_STATE h.val) ≠ 2) :=
  ⟨⟨stIn .idle [], 12, 31, 257#16, [], 31, 1#16, by decide +kernel⟩,
   ⟨stIn .idle [(Reg.PGH_STAT_STATE 31, (0 + 1))], 12, 31, 1#16, [], 31, 1#16, by decide +kernel⟩,
   ⟨stIn .idle [(Reg.PGH_STAT_STATE 31, 0)], 12, 31, 1#16, [], 31, 1#16, by decide +kernel⟩,
   ⟨stIn .idle [(Reg.PGH_STAT_STATE 31, 1), (Reg.PGH_CFG_RCV 31, (12 + 1))], 12, 31, by decide +kernel⟩,
   ⟨stIn .idle [(Reg.PGH_STAT_STATE 31, 1), (Reg.PGH_CFG_RCV 31, 12)], 12, 31, by decide +kernel⟩,
   ⟨stIn .idle [(Reg.PGH_STAT_STATE 31, (3 + 1)), (Reg.PGH_STAT_SNDAGENT 31, 12)], 12, 31, by decide +kernel⟩,
   ⟨stIn .idle [(Reg.PGH_STAT_STATE 31, 3), (Reg.PGH_STAT_SNDAGENT 31, (12 + 1))], 12, 31, by decide +kernel⟩,
   ⟨stIn .idle [(Reg.PGH_STAT_STATE 31, (3 + 1)), (Reg.PGH_STAT_SNDAGENT 31, (12 + 1))], 12, 31, by decide +kernel⟩,
   ⟨stIn .idle [(Reg.PGH_STAT_STATE 31, 3), (Reg.PGH_STAT_SNDAGENT 31, 12)], 12, 31, by decide +kernel⟩,
   ⟨stIn .idle [], 2, 31, by decide +kernel⟩,
   ⟨stIn .idle [], 12, 31, by decide +kernel⟩,
   ⟨stIn .idle [(Reg.PGH_CFG_RCV 31, 12), (Reg.PGH_STAT_STATE 31, 1)], 12, 31, 1#16, by decide +kernel⟩,
   ⟨stIn .idle [(Reg.PGH_CFG_RCV 31, 12), (Reg.PGH_STAT_STATE 31, (2 + 1))], 12, 31, 1#16, by decide +kernel⟩,
   ⟨stIn .idle [(Reg.PGH_CFG_RCV 31, (12 + 1)), (Reg.PGH_STAT_STATE 31, 1)], 12, 31, 1#16, by decide +kernel⟩,
   ⟨stIn .idle [(Reg.PGH_CFG_RCV 31, (12 + 1)), (Reg.PGH_STAT_STATE 31, (2 + 1))], 12, 31, 1#16, by decide +kernel⟩⟩

theorem wit_eventsClearAndTheFlashWorks :
    (∃ s : State, s.runs ∧ (s.dev.mode = .boot ∨ s.dev.mode = .selftest)) ∧
    (∃ s : State, s.serves ∧ s.dev.nvm.isSome = true) ∧
    (∃ s : State, s.serves ∧ s.dev.nvm = none ∧ s.dev.mode.nvmRefuses = true) ∧
    (∃ s : State, s.serves ∧ s.dev.nvm = none ∧ s.dev.mode.nvmRefuses = false) ∧
    (∃ (s : State) (ok : Bool), s.runs ∧ s.dev.nvm = none) ∧
    (∃ (s : State) (ok : Bool), ∃ x, s.runs ∧ s.dev.nvm = some x ∧ ok = false) ∧
    (∃ (s : State) (ok : Bool), ∃ x, s.runs ∧ s.dev.nvm = some x ∧ ok = true ∧ x.op = 1) ∧
    (∃ (s : State) (ok : Bool), ∃ x, s.runs ∧ s.dev.nvm = some x ∧ ok = true ∧ x.op = 2) ∧
    (∃ (s : State) (ok : Bool), ∃ x, s.runs ∧ s.dev.nvm = some x ∧ ok = true ∧ x.op = 3) ∧
    (∃ (s : State) (ok : Bool), ∃ x, ∃ b good, s.runs ∧ s.dev.nvm = some x ∧ ok = true ∧ (x.op = 4 ∨ x.op = 5) ∧
      b = decide (x.copy = 1) ∧ good = s.dev.copyOk b) :=
  ⟨⟨stIn .boot [], by decide +kernel⟩,
   ⟨stIn .idle [] fun d => { d with nvm := some {} }, by decide +kernel⟩,
   ⟨stIn .thermal [], by decide +kernel⟩,
   ⟨stIn .idle [], by decide +kernel⟩,
   ⟨stIn .idle [], true, by decide +kernel⟩,
   ⟨stIn .idle [] fun d => { d with nvm := some { op := 1 } }, false, { op := 1 }, by decide +kernel⟩,
   ⟨stIn .idle [] fun d => { d with nvm := some { op := 1 } }, true, { op := 1 }, by decide +kernel⟩,
   ⟨stIn .idle [] fun d => { d with nvm := some { op := 2 } }, true, { op := 2 }, by decide +kernel⟩,
   ⟨stIn .idle [] fun d => { d with nvm := some { op := 3 } }, true, { op := 3 }, by decide +kernel⟩,
   ⟨stIn .idle [] fun d => { d with nvm := some { op := 4 } }, true, { op := 4 }, false, false, by decide +kernel⟩⟩

theorem wit_registerAccessesAnswer :
    (∃ (s : State) (g : Fin 11) (a v : BitVec 32) (env : HostEnv), s.serves ∧
      (a.toNat % 4 ≠ 0 ∨ inAperture a.toNat = false ∧ regAt a.toNat = none)) ∧
    (∃ (s : State) (g : Fin 11) (a v : BitVec 32) (env : HostEnv), ∃ r fs, s.serves ∧ a.toNat % 4 = 0 ∧
      inAperture a.toNat = false ∧ regAt a.toNat = some r ∧ fs = r.fields.filter (txnField a.toNat) ∧ fs ≠ [] ∧
      s.dev.txn = none) ∧
    (∃ (s : State) (g : Fin 11) (a v : BitVec 32) (env : HostEnv), ∃ r fs, ∃ t, s.serves ∧ a.toNat % 4 = 0 ∧
      inAperture a.toNat = false ∧ regAt a.toNat = some r ∧ fs = r.fields.filter (txnField a.toNat) ∧ fs ≠ [] ∧
      s.dev.txn = some t ∧ s.dev.txnExpired t = false ∧ t.agent ≠ g.val) ∧
    (∃ (s : State) (g : Fin 11) (a v : BitVec 32) (env : HostEnv), ∃ r fs, ∃ t, s.serves ∧ a.toNat % 4 = 0 ∧
      inAperture a.toNat = false ∧ regAt a.toNat = some r ∧ fs = r.fields.filter (txnField a.toNat) ∧ fs ≠ [] ∧
      s.dev.txn = some t ∧ s.dev.txnExpired t = false ∧ t.agent = g.val ∧ (fs.map (·.lo)).Nodup) ∧
    (∃ (s : State) (g : Fin 11) (a v : BitVec 32) (env : HostEnv), ∃ r, s.serves ∧ a.toNat % 4 = 0 ∧
      inAperture a.toNat = false ∧ regAt a.toNat = some r ∧ r.fields.filter (txnField a.toNat) = [] ∧
      s.dev.special g.val a.toNat v.toNat env = none ∧ s.dev.plainRange a.toNat v.toNat = false ∧
      indexAt (Reg.PGH_STAGE_DATA 0).addr 4 64 a.toNat = none ∧ indexAt (Reg.HST_EPOCH_EPOCH 0).addr 4 3 a.toNat = none ∧
      a.toNat ≠ Reg.TAL_RECSEL_SEQ.addr ∧ (r.fields.map (·.lo)).Nodup) ∧
    (∃ (s : State) (a : BitVec 32) (words : List (BitVec 32)) (n : Nat) (whole : Bool) (env : HostEnv), s.serves ∧
      s.dev.spiOn = false) ∧
    (∃ (s : State) (a v : BitVec 32) (env : HostEnv), ∃ (words : List (BitVec 32)), s.serves ∧ s.dev.spiOn = true) ∧
    (∃ (s : State) (a v : BitVec 32) (env : HostEnv), ∃ (n : Nat), s.serves ∧ s.dev.spiOn = true) ∧
    (∃ (s : State) (a v : BitVec 32) (env : HostEnv), ∃ x st code, s.serves ∧ s.dev.spiOn = true ∧
      s.dev.begin.writeWord 2 a.toNat v.toNat env = (x, st, code)) ∧
    (∃ (s : State) (a v : BitVec 32) (env : HostEnv), ∃ x r, s.serves ∧ s.dev.spiOn = true ∧
      s.dev.begin.readWord 2 a.toNat env = (x, r)) :=
  ⟨⟨stIn .idle [], 10, 1#32, 1#32, {}, by decide +kernel⟩,
   ⟨stIn .idle [], 10, BitVec.ofNat 32 Reg.PRS_SITECFG_WIN.addr, 1#32, {},
     { addr := 1074331656, dims := [], fields := [{ lo := 2, width := 8, acc := .rw, lock := .open, src := .tab, reset := 0, tabDefault := 20 }, { lo := 0, width := 2, acc := .rw, lock := .open, src := .tab, reset := 0, tabDefault := 1 }] },
     RegDesc.fields { addr := 1074331656, dims := [], fields := [{ lo := 2, width := 8, acc := .rw, lock := .open, src := .tab, reset := 0, tabDefault := 20 }, { lo := 0, width := 2, acc := .rw, lock := .open, src := .tab, reset := 0, tabDefault := 1 }] },
     by decide +kernel⟩,
   ⟨stIn .idle [(Reg.TXN_TIMEOUT_TIMEOUT, 1)] fun d => { d with txn := some { agent := 3 } }, 10,
     BitVec.ofNat 32 Reg.PRS_SITECFG_WIN.addr, 1#32, {},
     { addr := 1074331656, dims := [], fields := [{ lo := 2, width := 8, acc := .rw, lock := .open, src := .tab, reset := 0, tabDefault := 20 }, { lo := 0, width := 2, acc := .rw, lock := .open, src := .tab, reset := 0, tabDefault := 1 }] },
     RegDesc.fields { addr := 1074331656, dims := [], fields := [{ lo := 2, width := 8, acc := .rw, lock := .open, src := .tab, reset := 0, tabDefault := 20 }, { lo := 0, width := 2, acc := .rw, lock := .open, src := .tab, reset := 0, tabDefault := 1 }] },
     { agent := 3 }, by decide +kernel⟩,
   ⟨stIn .idle [(Reg.TXN_TIMEOUT_TIMEOUT, 1)] fun d => { d with txn := some { agent := 10 } }, 10,
     BitVec.ofNat 32 Reg.PRS_SITECFG_WIN.addr, 1#32, {},
     { addr := 1074331656, dims := [], fields := [{ lo := 2, width := 8, acc := .rw, lock := .open, src := .tab, reset := 0, tabDefault := 20 }, { lo := 0, width := 2, acc := .rw, lock := .open, src := .tab, reset := 0, tabDefault := 1 }] },
     RegDesc.fields { addr := 1074331656, dims := [], fields := [{ lo := 2, width := 8, acc := .rw, lock := .open, src := .tab, reset := 0, tabDefault := 20 }, { lo := 0, width := 2, acc := .rw, lock := .open, src := .tab, reset := 0, tabDefault := 1 }] },
     { agent := 10 }, by decide +kernel⟩,
   ⟨stIn .idle [], 10, 0x401E0004#32, 1#32, {},
     { addr := 0x401E0004, dims := [], fields := [{ lo := 0, width := 32, acc := .rw, lock := .open, src := .por, reset := 0, tabDefault := 0 }] },
     by decide +kernel⟩,
   ⟨stIn .serve [] fun d => { d with tab := { d.tab with loaded := true } }, 1#32, [], 1, true, {}, by decide +kernel⟩,
   ⟨stIn .idle [(Reg.HST_PORTCFG_EN 2, 1)], 1#32, 1#32, {}, [(1#32)], by decide +kernel⟩,
   ⟨stIn .idle [(Reg.HST_PORTCFG_EN 2, 1)], 1#32, 1#32, {}, 1, by decide +kernel⟩,
   ⟨stIn .idle [(Reg.HST_PORTCFG_EN 2, 1)], 1#32, 1#32, {},
     ((stIn .idle [(Reg.HST_PORTCFG_EN 2, 1)]).dev.begin.writeWord 2 (1#32).toNat (1#32).toNat {}).1,
     ((stIn .idle [(Reg.HST_PORTCFG_EN 2, 1)]).dev.begin.writeWord 2 (1#32).toNat (1#32).toNat {}).2.1,
     ((stIn .idle [(Reg.HST_PORTCFG_EN 2, 1)]).dev.begin.writeWord 2 (1#32).toNat (1#32).toNat {}).2.2,
     ⟨by decide +kernel, by decide +kernel, rfl⟩⟩,
   ⟨stIn .idle [(Reg.HST_PORTCFG_EN 2, 1)], 1#32, 1#32, {},
     ((stIn .idle [(Reg.HST_PORTCFG_EN 2, 1)]).dev.begin.readWord 2 (1#32).toNat {}).1,
     ((stIn .idle [(Reg.HST_PORTCFG_EN 2, 1)]).dev.begin.readWord 2 (1#32).toNat {}).2,
     ⟨by decide +kernel, by decide +kernel, rfl⟩⟩⟩

theorem wit_hostPortsAnswer :
    (∃ (s : State) (p : Fin 2) (h : UdpHead) (n : BitVec 16) (a : BitVec 32) (bytes : List Byte) (env : HostEnv), s.serves ∧
      s.dev.ethUp p.val = false) ∧
    (∃ (s : State) (p : Fin 2) (h : UdpHead) (n : BitVec 16) (a : BitVec 32) (bytes : List Byte) (env : HostEnv), ∃ k, s.serves ∧
      s.dev.ethUp p.val = true ∧ s.dev.allowed h.src.toNat = true ∧ s.dev.keptFor p.val h = some k) ∧
    (∃ (s : State) (p : Fin 2) (h : UdpHead) (n : BitVec 16) (a : BitVec 32) (bytes : List Byte) (env : HostEnv), s.serves ∧
      s.dev.ethUp p.val = true ∧ s.dev.allowed h.src.toNat = true ∧ s.dev.keptFor p.val h = none ∧ 8 < h.busy) ∧
    (∃ (s : State) (p : Fin 2) (h : UdpHead) (n : BitVec 16) (a : BitVec 32) (bytes : List Byte) (env : HostEnv), s.serves ∧
      s.dev.ethUp p.val = true ∧ s.dev.allowed h.src.toNat = true ∧ s.dev.keptFor p.val h = none ∧ h.busy ≤ 8 ∧ n.toNat = 0) ∧
    (∃ (s : State) (p : Fin 2) (h : UdpHead) (n : BitVec 16) (a : BitVec 32) (bytes : List Byte) (env : HostEnv), s.serves ∧
      s.dev.ethUp p.val = true ∧ s.dev.allowed h.src.toNat = true ∧ s.dev.keptFor p.val h = none ∧ h.busy ≤ 8 ∧
      (n.toNat = 0 ∨ 256 < n.toNat ∨ bytes.length ≠ 4 * n.toNat)) ∧
    (∃ (s : State) (p : Fin 2) (h : UdpHead) (n : BitVec 16) (a : BitVec 32) (bytes : List Byte) (env : HostEnv), ∃ x r, s.serves ∧
      s.dev.ethUp p.val = true ∧ s.dev.allowed h.src.toNat = true ∧ s.dev.keptFor p.val h = none ∧ h.busy ≤ 8 ∧
      s.dev.epochNow p.val 0 = h.epoch.toNat ∧ 1 ≤ n.toNat ∧ n.toNat ≤ 256 ∧ a.toNat ≠ Reg.TXN_BEGIN_HANDLE.addr ∧
      Dev.readWords env p.val n.toNat a.toNat s.dev.begin [] = (x, r)) ∧
    (∃ (s : State) (p : Fin 2) (h : UdpHead) (n : BitVec 16) (a : BitVec 32) (bytes : List Byte) (env : HostEnv), ∃ x r, s.serves ∧
      s.dev.ethUp p.val = true ∧ s.dev.allowed h.src.toNat = true ∧ s.dev.keptFor p.val h = none ∧ h.busy ≤ 8 ∧
      s.dev.epochNow p.val 0 = h.epoch.toNat ∧ 1 ≤ n.toNat ∧ n.toNat ≤ 256 ∧ bytes.length = 4 * n.toNat ∧
      Dev.writeWords env p.val (dataWords bytes) a.toNat s.dev.begin 0 = (x, r)) ∧
    (∃ (s : State) (p : Fin 2) (h : UdpHead) (n : BitVec 16) (a : BitVec 32) (bytes : List Byte) (env : HostEnv), s.serves ∧
      s.dev.ethUp p.val = true ∧ s.dev.allowed h.src.toNat = true ∧ s.dev.keptFor p.val h = none ∧ h.busy ≤ 8 ∧
      s.dev.epochNow p.val 0 = h.epoch.toNat ∧ bytes.length ≤ 1024 ∧ 32 ≤ a.toNat) ∧
    (∃ (s : State) (p : Fin 2) (h : UdpHead) (n : BitVec 16) (a : BitVec 32) (bytes : List Byte) (env : HostEnv), s.serves ∧
      s.dev.ethUp p.val = true ∧ s.dev.allowed h.src.toNat = true ∧ s.dev.keptFor p.val h = none ∧ h.busy ≤ 8 ∧
      s.dev.epochNow p.val 0 = h.epoch.toNat ∧ bytes.length ≤ 256 ∧ a.toNat < 32 ∧ s.dev.get (Reg.PGH_STAT_STATE a.toNat) = 0) ∧
    (∃ (s : State) (p : Fin 2) (h : UdpHead) (n : BitVec 16) (a : BitVec 32) (bytes : List Byte) (env : HostEnv), s.serves ∧
      s.dev.ethUp p.val = true ∧ s.dev.allowed h.src.toNat = true ∧ s.dev.keptFor p.val h = none ∧ h.busy ≤ 8 ∧
      s.dev.epochNow p.val 0 = h.epoch.toNat ∧ bytes.length ≤ 256 ∧ a.toNat < 32 ∧ s.dev.get (Reg.PGH_STAT_STATE a.toNat) ≠ 0) ∧
    (∃ (s : State) (p : Fin 2) (h : UdpHead) (magic : BitVec 16) (version op : BitVec 8), s.serves ∧ s.dev.ethUp p.val = true ∧
      s.dev.allowed h.src.toNat = false) ∧
    (∃ (s : State) (p : Fin 2) (h : UdpHead) (magic : BitVec 16) (version op : BitVec 8), s.serves ∧ s.dev.ethUp p.val = true ∧
      s.dev.allowed h.src.toNat = true ∧ magic.toNat = 0x4658 ∧ version.toNat = 1 ∧ 1 ≤ op.toNat ∧ op.toNat ≤ 4) ∧
    (∃ (s : State) (p : Fin 2) (h : UdpHead) (magic : BitVec 16) (version op : BitVec 8), s.serves ∧ s.dev.ethUp p.val = true ∧
      s.dev.allowed h.src.toNat = true ∧ (magic.toNat ≠ 0x4658 ∨ version.toNat ≠ 1 ∨ op.toNat = 0 ∨ 4 < op.toNat) ∧
      s.dev.keptFor p.val h = none ∧ h.busy ≤ 8) ∧
    (∃ (s : State) (p : Fin 2), s.serves ∧
      (s.dev.ethUp p.val = false ∨ s.dev.get (Reg.HST_NOTIFY_ADDR p.val) = 0 ∨ s.dev.notifyDue.testBit p.val = false)) ∧
    (∃ (s : State) (p : Fin 2), s.serves ∧ s.dev.ethUp p.val = true ∧ s.dev.get (Reg.HST_NOTIFY_ADDR p.val) ≠ 0 ∧
      s.dev.notifyDue.testBit p.val = true ∧ (∀ t, tget none s.dev.lastNotify p.val = some t → t + 10000000 ≤ s.dev.now)) ∧
    (∃ (s : State) (p : Fin 2) (mac : List Byte) (src target : BitVec 32) (payload : List Byte), s.serves ∧
      (s.dev.ethUp p.val = false ∨ target.toNat ≠ s.dev.get (Reg.HST_IP_ADDR p.val))) ∧
    (∃ (s : State) (p : Fin 2) (mac : List Byte) (src target : BitVec 32) (payload : List Byte), s.serves ∧
      s.dev.ethUp p.val = true ∧ target.toNat = s.dev.get (Reg.HST_IP_ADDR p.val) ∧ s.dev.allowed src.toNat = false) ∧
    (∃ (s : State) (p : Fin 2) (mac : List Byte) (src target : BitVec 32) (payload : List Byte), s.serves ∧
      s.dev.ethUp p.val = true ∧ target.toNat = s.dev.get (Reg.HST_IP_ADDR p.val) ∧ s.dev.allowed src.toNat = true) ∧
    (∃ (s : State) (p : Fin 2) (up : Bool) (speed : Fin 2), s.serves ∧ s.dev.get (Reg.HST_STAT_LINK p.val) = flag up ∧
      (up = false ∨ s.dev.get (Reg.HST_STAT_SPEED p.val) = speed.val)) ∧
    (∃ (s : State) (p : Fin 2) (up : Bool) (speed : Fin 2), s.serves ∧
      (s.dev.get (Reg.HST_STAT_LINK p.val) ≠ flag up ∨ up = true ∧ s.dev.get (Reg.HST_STAT_SPEED p.val) ≠ speed.val)) :=
  ⟨⟨stIn .idle [], 1, { src := 0x0A000001, udp := 5000, tag := 1, epoch := 0, busy := 1 }, 1#16, 1#32, [], {},
     by decide +kernel⟩,
   ⟨stIn .idle [(Reg.HST_PORTCFG_EN 1, 1), (Reg.HST_STAT_LINK 1, 1)] fun d => { d with kept := [{ port := 1, src := 0x0A000001, udp := 5000, tag := 1 }] },
     1, { src := 0x0A000001, udp := 5000, tag := 1, epoch := 0, busy := 1 }, 1#16, 1#32, [], {},
     { port := 1, src := 0x0A000001, udp := 5000, tag := 1 }, by decide +kernel⟩,
   ⟨stIn .idle [(Reg.HST_PORTCFG_EN 1, 1), (Reg.HST_STAT_LINK 1, 1)], 1,
     { src := 0x0A000001, udp := 5000, tag := 1, epoch := 0, busy := 9 }, 1#16, 1#32, [], {}, by decide +kernel⟩,
   ⟨stIn .idle [(Reg.HST_PORTCFG_EN 1, 1), (Reg.HST_STAT_LINK 1, 1)], 1,
     { src := 0x0A000001, udp := 5000, tag := 1, epoch := 0, busy := 1 }, 0#16, 1#32, [], {}, by decide +kernel⟩,
   ⟨stIn .idle [(Reg.HST_PORTCFG_EN 1, 1), (Reg.HST_STAT_LINK 1, 1)], 1,
     { src := 0x0A000001, udp := 5000, tag := 1, epoch := 0, busy := 1 }, 1#16, 1#32, [1, 2, 3], {}, by decide +kernel⟩,
   ⟨stIn .idle [(Reg.HST_PORTCFG_EN 1, 1), (Reg.HST_STAT_LINK 1, 1)], 1,
     { src := 0x0A000001, udp := 5000, tag := 1, epoch := 0, busy := 1 }, 1#16, 1#32, [], {},
     (Dev.readWords {} 1 (1#16).toNat (1#32).toNat (stIn .idle [(Reg.HST_PORTCFG_EN 1, 1), (Reg.HST_STAT_LINK 1, 1)]).dev.begin []).1,
     (Dev.readWords {} 1 (1#16).toNat (1#32).toNat (stIn .idle [(Reg.HST_PORTCFG_EN 1, 1), (Reg.HST_STAT_LINK 1, 1)]).dev.begin []).2,
     ⟨by decide +kernel, by decide +kernel, by decide +kernel, by decide +kernel, by decide +kernel, by decide +kernel, by decide +kernel, by decide +kernel, by decide +kernel, rfl⟩⟩,
   ⟨stIn .idle [(Reg.HST_PORTCFG_EN 1, 1), (Reg.HST_STAT_LINK 1, 1)], 1,
     { src := 0x0A000001, udp := 5000, tag := 1, epoch := 0, busy := 1 }, 1#16, 1#32, [1, 0, 0, 0], {},
     (Dev.writeWords {} 1 (dataWords [1, 0, 0, 0]) (1#32).toNat (stIn .idle [(Reg.HST_PORTCFG_EN 1, 1), (Reg.HST_STAT_LINK 1, 1)]).dev.begin 0).1,
     (Dev.writeWords {} 1 (dataWords [1, 0, 0, 0]) (1#32).toNat (stIn .idle [(Reg.HST_PORTCFG_EN 1, 1), (Reg.HST_STAT_LINK 1, 1)]).dev.begin 0).2,
     ⟨by decide +kernel, by decide +kernel, by decide +kernel, by decide +kernel, by decide +kernel, by decide +kernel, by decide +kernel, by decide +kernel, by decide +kernel, rfl⟩⟩,
   ⟨stIn .idle [(Reg.HST_PORTCFG_EN 1, 1), (Reg.HST_STAT_LINK 1, 1)], 1,
     { src := 0x0A000001, udp := 5000, tag := 1, epoch := 0, busy := 1 }, 1#16, 32#32, [], {}, by decide +kernel⟩,
   ⟨stIn .idle [(Reg.HST_PORTCFG_EN 1, 1), (Reg.HST_STAT_LINK 1, 1), (Reg.PGH_STAT_STATE (1#32).toNat, 0)], 1,
     { src := 0x0A000001, udp := 5000, tag := 1, epoch := 0, busy := 1 }, 1#16, 1#32, [], {}, by decide +kernel⟩,
   ⟨stIn .idle [(Reg.HST_PORTCFG_EN 1, 1), (Reg.HST_STAT_LINK 1, 1), (Reg.PGH_STAT_STATE (1#32).toNat, (0 + 1))], 1,
     { src := 0x0A000001, udp := 5000, tag := 1, epoch := 0, busy := 1 }, 1#16, 1#32, [], {}, by decide +kernel⟩,
   ⟨stIn .idle [(Reg.HST_PORTCFG_EN 1, 1), (Reg.HST_STAT_LINK 1, 1), (Reg.HST_ALLOW_ADDR 0, 7)], 1,
     { src := 0x0A000001, udp := 5000, tag := 1, epoch := 0, busy := 1 }, 1#16, 1#8, 1#8, by decide +kernel⟩,
   ⟨stIn .idle [(Reg.HST_PORTCFG_EN 1, 1), (Reg.HST_STAT_LINK 1, 1)], 1,
     { src := 0x0A000001, udp := 5000, tag := 1, epoch := 0, busy := 1 }, 0x4658#16, 1#8, 4#8, by decide +kernel⟩,
   ⟨stIn .idle [(Reg.HST_PORTCFG_EN 1, 1), (Reg.HST_STAT_LINK 1, 1)], 1,
     { src := 0x0A000001, udp := 5000, tag := 1, epoch := 0, busy := 1 }, 1#16, 1#8, 1#8, by decide +kernel⟩,
   ⟨stIn .idle [], 1, by decide +kernel⟩,
   ⟨stIn .idle [(Reg.HST_PORTCFG_EN 1, 1), (Reg.HST_STAT_LINK 1, 1), (Reg.HST_NOTIFY_ADDR 1, (0 + 1))] fun d => { d with notifyDue := 2 },
     1, ⟨by decide +kernel, by decide +kernel, by decide +kernel, by decide +kernel, (fun t h => nomatch h)⟩⟩,
   ⟨stIn .idle [], 1, [], 1#32, 1#32, [], by decide +kernel⟩,
   ⟨stIn .idle [(Reg.HST_PORTCFG_EN 1, 1), (Reg.HST_STAT_LINK 1, 1), (Reg.HST_ALLOW_ADDR 0, 7)], 1, [], 1#32, 0#32, [],
     by decide +kernel⟩,
   ⟨stIn .idle [(Reg.HST_PORTCFG_EN 1, 1), (Reg.HST_STAT_LINK 1, 1)], 1, [], 1#32, 0#32, [], by decide +kernel⟩,
   ⟨stIn .idle [(Reg.HST_STAT_LINK 1, flag true), (Reg.HST_STAT_SPEED 1, 1)], 1, true, 1, by decide +kernel⟩,
   ⟨stIn .idle [(Reg.HST_STAT_LINK 1, (flag true + 1))], 1, true, 1, by decide +kernel⟩⟩

theorem wit_supplyAndSwitchesAct :
    (∃ (s : State) (mv : Int) (out : Bool), beyondAbsMax mv = false ∧ (out = decide (mv < 16000 ∨ 32000 < mv)) ∧
      s.dev.get Reg.PWR_STATUS_RANGE = flag out) ∧
    (∃ (s : State) (mv : Int) (out : Bool), beyondAbsMax mv = false ∧ (out = decide (mv < 16000 ∨ 32000 < mv)) ∧
      s.dev.get Reg.PWR_STATUS_RANGE ≠ flag out) ∧
    (∃ (s : State) (r : Fin 4) (mv : Nat), s.dev.mode ≠ .off ∧ r.val < 3 ∧ s.dev.bit Reg.PWR_STATUS_RAILFLT r.val = true) ∧
    (∃ (s : State) (r : Fin 4) (mv : Nat), s.dev.mode ≠ .off ∧ r.val < 3 ∧ s.dev.bit Reg.PWR_STATUS_RAILFLT r.val = false) ∧
    (∃ (s : State) (ch : Fin 48), s.runs ∧ s.dev.get (Reg.AUX_CHOUT_FAULT ch.val) ≠ 0) ∧
    (∃ (s : State) (ch : Fin 48), s.runs ∧ s.dev.get (Reg.AUX_CHOUT_FAULT ch.val) = 0 ∧
      s.dev.get (Reg.AUX_CHCFG_MODE ch.val) = 0 ∧ s.dev.get (Reg.AUX_CHOUT_DUTY ch.val) = 0 ∧
      (s.dev.auxShared ch.val = false ∨ s.dev.drives = true)) ∧
    (∃ (s : State) (ch : Fin 48), s.runs ∧ s.dev.get (Reg.AUX_CHOUT_FAULT ch.val) = 0 ∧
      (s.dev.get (Reg.AUX_CHCFG_MODE ch.val) ≠ 0 ∨ s.dev.get (Reg.AUX_CHOUT_DUTY ch.val) ≠ 0 ∨ (s.dev.auxShared ch.val = true ∧ s.dev.drives = false))) ∧
    (∃ (s : State) (currents : List Nat) (total : Nat), s.runs ∧ total = (currents.take 48).foldl (· + ·) 0 ∧ total ≤ 1600) ∧
    (∃ (s : State) (currents : List Nat) (total : Nat), s.runs ∧ total = (currents.take 48).foldl (· + ·) 0 ∧ 1600 < total) ∧
    (∃ (s : State) (ch : Fin 48) (duty : BitVec 14), s.serves ∧ 10000 < duty.toNat) ∧
    (∃ (s : State) (ch : Fin 48) (duty : BitVec 14), s.serves ∧ duty.toNat ≤ 10000 ∧
      (s.dev.get (Reg.AUX_CHCFG_USER ch.val) ≠ 0 ∨ s.dev.drives = false)) ∧
    (∃ (s : State) (ch : Fin 48) (duty : BitVec 14), s.serves ∧ duty.toNat ≤ 10000 ∧ s.dev.get (Reg.AUX_CHCFG_USER ch.val) = 0 ∧
      s.dev.drives = true) ∧
    (∃ (s : State) (ch : Fin 48), s.serves ∧ tget 0 s.dev.auxFaultAt ch.val = s.dev.period + 1) ∧
    (∃ (s : State) (ch : Fin 48), s.serves ∧ tget 0 s.dev.auxFaultAt ch.val ≠ s.dev.period + 1) :=
  ⟨⟨stIn .idle [(Reg.PWR_STATUS_RANGE, flag (decide (1 < 16000 ∨ 32000 < 1)))], 1, decide (1 < 16000 ∨ 32000 < 1),
     by decide +kernel⟩,
   ⟨stIn .idle [(Reg.PWR_STATUS_RANGE, (flag (decide (1 < 16000 ∨ 32000 < 1)) + 1))], 1, decide (1 < 16000 ∨ 32000 < 1),
     by decide +kernel⟩,
   ⟨stIn .idle [(Reg.PWR_STATUS_RAILFLT, 4)], 2, 1, by decide +kernel⟩,
   ⟨stIn .idle [], 2, 1, by decide +kernel⟩,
   ⟨stIn .idle [(Reg.AUX_CHOUT_FAULT 47, (0 + 1))], 47, by decide +kernel⟩,
   ⟨stIn .idle [(Reg.AUX_CHOUT_FAULT 47, 0), (Reg.AUX_CHCFG_MODE 47, 0), (Reg.AUX_CHOUT_DUTY 47, 0)], 47, by decide +kernel⟩,
   ⟨stIn .idle [(Reg.AUX_CHOUT_FAULT 47, 0), (Reg.AUX_CHOUT_DUTY 47, 10000)], 47, by decide +kernel⟩,
   ⟨stIn .idle [], [], ([].take 48).foldl (· + ·) 0, by decide +kernel⟩,
   ⟨stIn .idle [], [1600, 1], 1601, by decide +kernel⟩,
   ⟨stIn .idle [], 47, 10001#14, by decide +kernel⟩,
   ⟨stIn .idle [(Reg.AUX_CHCFG_USER 47, 1)], 47, 10000#14, by decide +kernel⟩,
   ⟨stIn .idle [(Reg.AUX_CHCFG_USER 47, 0)], 47, 1#14, by decide +kernel⟩,
   ⟨stIn .idle [] fun d => { d with auxFaultAt := [(47, 1)] }, 47, by decide +kernel⟩,
   ⟨stIn .idle [], 47, by decide +kernel⟩⟩

theorem wit_canPortsQueueAndSend :
    (∃ (s : State) (k : Fin 4) (f : CanFrame), s.hears ∧
      (2 ≤ s.dev.get (Reg.CAN_PSTAT_STATE k.val) ∨ s.dev.get (Reg.CAN_CFG_EN k.val) = 0)) ∧
    (∃ (s : State) (k : Fin 4) (f : CanFrame), s.hears ∧ s.dev.get (Reg.CAN_PSTAT_STATE k.val) < 2 ∧
      s.dev.get (Reg.CAN_CFG_EN k.val) ≠ 0 ∧
      (f.rtr = true ∨ s.dev.tab.ties = [] ∧ s.dev.tab.conns = [] ∧ s.dev.tab.canMap = []) ∧ s.dev.filterHit k.val f = false) ∧
    (∃ (s : State) (k : Fin 4) (f : CanFrame), s.hears ∧ s.dev.get (Reg.CAN_PSTAT_STATE k.val) < 2 ∧
      s.dev.get (Reg.CAN_CFG_EN k.val) ≠ 0 ∧
      (f.rtr = true ∨ s.dev.tab.ties = [] ∧ s.dev.tab.conns = [] ∧ s.dev.tab.canMap = []) ∧ s.dev.filterHit k.val f = true ∧
      (s.dev.canPort k.val).fifo.length < 64) ∧
    (∃ (s : State) (k : Fin 4) (f : CanFrame), s.hears ∧ s.dev.get (Reg.CAN_PSTAT_STATE k.val) < 2 ∧
      s.dev.get (Reg.CAN_CFG_EN k.val) ≠ 0 ∧
      (f.rtr = true ∨ s.dev.tab.ties = [] ∧ s.dev.tab.conns = [] ∧ s.dev.tab.canMap = []) ∧ s.dev.filterHit k.val f = true ∧
      64 ≤ (s.dev.canPort k.val).fifo.length) ∧
    (∃ (s : State) (k : Fin 4) (ok : Bool), s.runs ∧ (s.dev.canMaySend k.val = false ∨ (s.dev.canPort k.val).offer = none)) ∧
    (∃ (s : State) (k : Fin 4) (ok : Bool), ∃ host f, s.runs ∧ s.dev.canMaySend k.val = true ∧
      (s.dev.canPort k.val).offer = some (host, f)) ∧
    (∃ (s : State) (k : Fin 4), s.serves ∧ s.dev.get (Reg.CAN_TXCMD_STATE k.val) = 1) ∧
    (∃ (s : State) (k : Fin 4), s.serves ∧ s.dev.get (Reg.CAN_TXCMD_STATE k.val) ≠ 1) ∧
    (∃ (s : State) (k : Fin 4) (tec rec : Nat), s.runs ∧ 2 ≤ s.dev.get (Reg.CAN_PSTAT_STATE k.val)) ∧
    (∃ (s : State) (k : Fin 4) (tec rec : Nat), s.runs ∧ s.dev.get (Reg.CAN_PSTAT_STATE k.val) < 2) ∧
    (∃ (s : State) (k : Fin 4) (tec rec : Nat), s.runs ∧ s.dev.get (Reg.CAN_PSTAT_STATE k.val) ≠ 2) ∧
    (∃ (s : State) (k : Fin 4) (tec rec : Nat), s.runs ∧ s.dev.get (Reg.CAN_PSTAT_STATE k.val) = 2) :=
  ⟨⟨stIn .idle [(Reg.CAN_PSTAT_STATE 3, 2)], 3, {}, by decide +kernel⟩,
   ⟨stIn .idle [(Reg.CAN_CFG_EN 3, (0 + 1))], 3, {}, by decide +kernel⟩,
   ⟨stIn .idle [(Reg.CAN_CFG_EN 3, (0 + 1)), (Reg.CAN_FILT_EN 3 0, 1)], 3, { id := 5, rtr := true }, by decide +kernel⟩,
   ⟨stIn .idle [(Reg.CAN_CFG_EN 3, (0 + 1)), (Reg.CAN_FILT_EN 3 0, 1)] fun d => d.modCan 3 fun q0 => { q0 with fifo := List.replicate 64 {} },
     3, { id := 5, rtr := true }, by decide +kernel⟩,
   ⟨stIn .idle [], 3, true, by decide +kernel⟩,
   ⟨stIn .idle [(Reg.CAN_CFG_EN 3, 1)] fun d => d.modCan 3 fun q0 => { q0 with host := some { id := 5 } }, 3, true, true,
     { id := 5 }, by decide +kernel⟩,
   ⟨stIn .idle [(Reg.CAN_TXCMD_STATE 3, 1)], 3, by decide +kernel⟩,
   ⟨stIn .idle [(Reg.CAN_TXCMD_STATE 3, (1 + 1))], 3, by decide +kernel⟩,
   ⟨stIn .idle [(Reg.CAN_PSTAT_STATE 3, 2)], 3, 1, 1, by decide +kernel⟩,
   ⟨stIn .idle [], 3, 1, 1, by decide +kernel⟩,
   ⟨stIn .idle [(Reg.CAN_PSTAT_STATE 3, (2 + 1))], 3, 1, 1, by decide +kernel⟩,
   ⟨stIn .idle [(Reg.CAN_PSTAT_STATE 3, 2)], 3, 1, 1, by decide +kernel⟩⟩

end Sys2Proof.Tests
end

section
/-! The safe outputs' release and the TAP: an enable line that falls silent, the outputs that a cold reset held, and the TAP's
instructions (R17, R79, R629). -/

namespace Sys2Proof.Proofs

open Sys2Proof.Machine Sys2Proof.Laws

section

variable (d : Dev)

/-! ### The safe outputs of an outlet -/

theorem finish_soutOn (n : Nat) : d.finish.soutOn n = d.soutOn n := by
  simp only [Dev.soutOn, finish_bit d _ (f := Reg.SAF_SOUTSTAT_BITS) (by decide)]

/-- Both outputs of an outlet read as they were set. -/
theorem soutOn_setSout_same {n : Nat} (on : Bool) (h : n < 16) : (d.setSout n on).soutOn n = on := by
  have lo : 2 * n < Reg.SAF_SOUTSTAT_BITS.width := show 2 * n < 32 by omega
  have hi : 2 * n + 1 < Reg.SAF_SOUTSTAT_BITS.width := show 2 * n + 1 < 32 by omega
  simp only [Dev.soutOn, Dev.setSout, bit_setBit_same _ on hi, bit_setBit_other _ on (by omega : 2 * n ≠ 2 * n + 1) lo,
    bit_setBit_same _ on lo, Bool.or_self]

/-- The outputs of two outlets share no bit. -/
theorem soutOn_setSout_other {n m : Nat} (on : Bool) (h : m < 16) (hm : m ≠ n) : (d.setSout n on).soutOn m = d.soutOn m := by
  have frame : ∀ i < 32, i ≠ 2 * n → i ≠ 2 * n + 1 →
      (d.setSout n on).bit Reg.SAF_SOUTSTAT_BITS i = d.bit Reg.SAF_SOUTSTAT_BITS i := fun i hi h0 h1 =>
    (bit_setBit_other _ on h1 hi).trans (bit_setBit_other _ on h0 hi)
  simp only [Dev.soutOn, frame (2 * m) (by omega) (by omega) (by omega), frame (2 * m + 1) (by omega) (by omega) (by omega)]

@[simp] theorem outputsOff_soutOn (n m : Nat) : (d.outputsOff n).soutOn m = (d.setSout n false).soutOn m := rfl

@[simp] theorem outputsOff_coldHold (n : Nat) : (d.outputsOff n).coldHold = d.coldHold := rfl

/-! ### The enable lines (R17) -/

theorem enableLineTimeout_writes (j : Nat) :
    Writes [Reg.SAF_SOUTSTAT_BITS.key] d (enableLineTimeout j d.begin) :=
  (Writes.start _ d).set _ (by simp)

theorem enableLineTimeout_bit_same {j : Nat} (h : j < 32) : (enableLineTimeout j d).bit Reg.SAF_SOUTSTAT_BITS j = false :=
  bit_setBit_same d false h

theorem enableLineTimeout_bit_other {i j : Nat} (hi : i < 32) (h : i ≠ j) :
    (enableLineTimeout j d).bit Reg.SAF_SOUTSTAT_BITS i = d.bit Reg.SAF_SOUTSTAT_BITS i :=
  bit_setBit_other d false h hi

/-! ### The outputs that a cold reset held (R79) -/

variable {d} in
theorem coldResetOutputRelease_held {n : Nat} (h : d.coldHold.contains n = true) :
    coldResetOutputRelease n d = { d with coldHold := d.coldHold.filter fun m => m ≠ n }.outputsOff n := if_pos h

/-! ### The TAP (R629) -/

theorem word_of_regs {d d' : Dev} (h : d'.regs = d.regs) (a : Nat) : d'.word a = d.word a := by
  simp only [Dev.word, h]

/-- The instruction that the TAP holds once `i` is shifted in: `i` itself, or BYPASS for one that is not honoured. -/
def tapTakes (i : Jtag) : Jtag :=
  if i.restricted && !decide (d.lifecycle = 0 ∨ d.lifecycle = 3) then .bypass else i

theorem jtagInstruction_eq (i : Jtag) :
    jtagInstruction i d =
      if tapTakes d i = .idcode then { d with jtag := tapTakes d i }.emit (.jtag (d.word 0x40000000 ||| 1))
      else { d with jtag := tapTakes d i } := rfl

theorem jtagInstruction_writes (i : Jtag) :
    Writes [] { d with jtag := tapTakes d i } (jtagInstruction i d.begin) := by
  have start : Writes [] { d with jtag := tapTakes d i } { d.begin with jtag := tapTakes d.begin i } := Writes.start [] _
  rw [jtagInstruction_eq]
  split
  · exact start.emit _
  · exact start

/-- IDCODE acts on no ball, so every life-cycle state honours it. -/
theorem tapTakes_idcode : tapTakes d .idcode = .idcode := rfl

theorem jtagInstruction_idcode_emitted :
    (jtagInstruction .idcode d.begin).emitted = [.jtag (d.word 0x40000000 ||| 1)] := by
  rw [jtagInstruction_eq, if_pos (tapTakes_idcode _), word_of_regs (d := d) (d' := d.begin) rfl]
  rfl

end

/-- Settles O12: each command through what its effect writes; the end of the command changes neither the bits of the safe outputs,
nor what a cold reset holds, nor a message that no driver puts on a wire. -/
theorem outputsReleaseAndTap : Obligations.outputsReleaseAndTap := by
  unfold Obligations.outputsReleaseAndTap
  refine ⟨fun s j hs => ?_, fun s n hn => ?_, fun s i => ?_⟩
  · refine completes_island (f := enableLineTimeout j.val) rfl hs ⟨(enableLineTimeout_writes s.dev j).finish, ?_, fun i hi hij => ?_⟩
    · rw [finish_bit _ _ (by decide)]
      exact enableLineTimeout_bit_same _ j.isLt
    · rw [finish_bit _ _ (by decide)]
      exact enableLineTimeout_bit_other _ hi hij
  · refine completes_hard (f := coldResetOutputRelease n.val) rfl ?_
    rw [coldResetOutputRelease_held (show s.dev.begin.coldHold.contains n.val = true from hn)]
    refine ⟨?_, ?_, fun m hm => ?_⟩
    · rw [finish_soutOn, outputsOff_soutOn, soutOn_setSout_same _ _ n.isLt]
    · simp
    · rw [finish_soutOn, outputsOff_soutOn, soutOn_setSout_other _ _ m.isLt (Fin.val_ne_of_ne hm)]
      rfl
  · refine completes_hard (f := jtagInstruction i) rfl ⟨(jtagInstruction_writes s.dev i).finish, fun hi => ?_⟩
    have sent := jtagInstruction_idcode_emitted s.dev
    rw [hi, finish_emitted_free _ ?_, sent]
    simp [sent, Msg.driven, Msg.onDn]

end Sys2Proof.Proofs
end

section
/-! Restarts of the stewards: what a restart carries through, a session's resumption from its checkpoint, and the commands that
restart stewards (R35, R75, R76, R85 to R87, R535). -/

namespace Sys2Proof.Proofs

open Sys2Proof.Machine Sys2Proof.Laws

/-! ### What a restart carries through -/

/-- The registers that a restart may write beside those of an event: the reset cause, and what lies past EVT_RAW. -/
def restartKey (k : Nat) : Bool :=
  decide (k = Reg.SYS_RESETCAUSE_KIND.key ∨ k = Reg.SYS_RESETCAUSE_STEWARD.key ∨ 32 * 0x40010010 ≤ k)

/-- What every stage of a restart carries through: the system registers but for the reset cause, the events raised so far, SRAM,
flash, and whether a warm reset runs; and no transaction opens. -/
structure Carries (d x : Dev) : Prop where
  regs : Agree (fun k => restartKey k || eventKey k) d x
  raised : ∀ e < 128, d.raw e = true → x.raw e = true
  sram : x.sram = d.sram
  flash : x.flash = d.flash
  warming : x.warming = d.warming
  txn : d.txn = none → x.txn = none

theorem restartKey_of_le {k : Nat} (h : 32 * 0x40010010 ≤ k) : restartKey k = true := decide_eq_true (.inr (.inr h))

theorem restartKey_ne_raw {k e : Nat} (hk : restartKey k = true) (he : e < 128) : (Reg.EVT_RAW_BITS (e / 32)).key ≠ k := by
  rcases of_decide_eq_true hk with rfl | rfl | h
  all_goals
    simp only [Reg.EVT_RAW_BITS, Reg.SYS_RESETCAUSE_KIND, Reg.SYS_RESETCAUSE_STEWARD]
    omega

namespace Carries

variable {d x y : Dev}

theorem refl (d : Dev) : Carries d d := ⟨Agree.refl _ d, fun _ _ h => h, rfl, rfl, rfl, id⟩

theorem trans (h : Carries d x) (g : Carries x y) : Carries d y :=
  ⟨h.regs.trans g.regs, fun e he hr => g.raised e he (h.raised e he hr), g.sram.trans h.sram, g.flash.trans h.flash,
    g.warming.trans h.warming, fun ht => g.txn (h.txn ht)⟩

/-- A change of what `Carries` does not speak of. -/
theorem of_same (hr : x.regs = d.regs) (hs : x.sram = d.sram) (hf : x.flash = d.flash) (hw : x.warming = d.warming)
    (ht : d.txn = none → x.txn = none) : Carries d x :=
  ⟨Agree.of_regs hr, fun e _ h => (raw_of_regs hr e).trans h, hs, hf, hw, ht⟩

theorem set (d : Dev) {f : Fld} (v : Nat) (hf : restartKey f.key = true) : Carries d (d.set f v) :=
  ⟨Agree.set d f v (by simp only [hf, Bool.true_or]), fun _ he h => (raw_set d v (restartKey_ne_raw hf he)).trans h,
    rfl, rfl, rfl, id⟩

theorem raise (d : Dev) {e : Nat} (det : Nat) (he : e < 128) : Carries d (d.raise e det) where
  regs := fun k hk => agree_raise d det he k (Bool.or_eq_false_iff.1 hk).2
  raised := fun _ he0 h => raw_raiseN_keep he0 40 d e det h
  sram := by rw [withEvents_raise]; rfl
  flash := by rw [withEvents_raise]; rfl
  warming := by rw [withEvents_raise]; rfl
  txn := (txn_raise d e det).trans

theorem ite {c : Prop} [Decidable c] (h : Carries d x) (g : Carries d y) : Carries d (if c then x else y) := by
  split
  · exact h
  · exact g

theorem foldl {α : Type} (f : Dev → α → Dev) (h : ∀ d a, Carries d (f d a)) :
    ∀ (l : List α) (d : Dev), Carries d (l.foldl f d)
  | [], d => refl d
  | a :: l, d => (h d a).trans (foldl f h l (f d a))

theorem forAll (n : Nat) (d : Dev) (f : Dev → Nat → Dev) (h : ∀ d i, Carries d (f d i)) : Carries d (forAll n d f) :=
  foldl f h _ d

theorem get (h : Carries d x) {f : Fld} (hr : restartKey f.key = false) (he : eventKey f.key = false) : x.get f = d.get f :=
  h.regs.get (by simp only [hr, he, Bool.or_self])

theorem modMem (d : Dev) (f : MemCtx → MemCtx) : Carries d (d.modMem f) := of_same rfl rfl rfl rfl id

theorem modOut (d : Dev) (n : Nat) (f : OutCtx → OutCtx) : Carries d (d.modOut n f) := of_same rfl rfl rfl rfl id

theorem mode (h : Carries d x) : x.mode = d.mode := mode_of_get (h.get (by decide) (by decide))

end Carries

section

variable (d : Dev)

/-! ### The stages of a restart (R75, R76, R85) -/

theorem abortTxn_carries (code : Nat) : Carries d (d.abortTxn code) := by
  unfold Dev.abortTxn
  split
  · exact .refl d
  · refine .trans ?_ (.raise _ 0 (by decide))
    unfold Dev.txnShow
    iterate 4 refine .trans ?_ (.set _ _ (by decide))
    exact .of_same rfl rfl rfl rfl fun _ => rfl

theorem restartKey_bankPwr (b : Nat) : restartKey (Reg.MEM_BANKOWN_PWR b).key = true :=
  restartKey_of_le (by simp only [Reg.MEM_BANKOWN_PWR]; omega)

theorem abandonMove_carries : Carries d d.abandonMove := by
  unfold Dev.abandonMove
  split
  · refine .trans (.trans ?_ (.ite (.set _ _ (restartKey_bankPwr _)) (.refl _))) (.set _ _ (by decide))
    exact (Carries.modMem d _).trans (.set _ _ (restartKey_bankPwr _))
  · exact .refl d

theorem epochFlags_carries (agent addr : Nat) : Carries d (d.epochFlags agent addr) := by
  refine .forAll 32 d _ fun d h => ?_
  have changed : restartKey (Reg.PGH_STAT_RCV_EPOCH_CHANGED h).key = true :=
    restartKey_of_le (by simp only [Reg.PGH_STAT_RCV_EPOCH_CHANGED]; omega)
  have stale : restartKey (Reg.PGH_STAT_STALE h).key = true := restartKey_of_le (by simp only [Reg.PGH_STAT_STALE]; omega)
  exact .trans (.ite (.set _ _ changed) (.refl _)) (.ite (.set _ _ stale) (.refl _))

theorem setEpoch_carries (agent addr v : Nat) : Carries d (d.setEpoch agent addr v) := by
  unfold Dev.setEpoch
  have own : restartKey (Reg.HST_EPOCH_EPOCH agent).key = true := restartKey_of_le (by simp only [Reg.HST_EPOCH_EPOCH]; omega)
  split
  · exact .refl d
  · refine .trans ?_ (epochFlags_carries _ agent addr)
    split
    · exact .set _ _ own
    · exact .of_same rfl rfl rfl rfl id

theorem nextEpochs_carries (agents : List Nat) : Carries d (d.nextEpochs agents) :=
  .foldl _ (fun d a => setEpoch_carries d a 0 _) agents d

theorem noteReset_carries (kind steward : Nat) : Carries d (d.noteReset kind steward) :=
  ((Carries.set d kind (by decide)).trans (.set _ steward (by decide))).trans (.raise _ 0 (by decide))

theorem restart_carries (agents : List Nat) (kind steward : Nat) : Carries d (d.restart agents kind steward) :=
  (((abortTxn_carries d 13).trans (abandonMove_carries _)).trans (nextEpochs_carries _ agents)).trans
    (noteReset_carries _ kind steward)

theorem restart_txn (agents : List Nat) (kind steward : Nat) : (d.restart agents kind steward).txn = none :=
  (((abandonMove_carries _).trans (nextEpochs_carries _ agents)).trans (noteReset_carries _ kind steward)).txn (txn_abortTxn d 13)

theorem restart_raw_one (agents : List Nat) (kind steward : Nat) : (d.restart agents kind steward).raw 1 = true :=
  raw_raise _ 0 (by decide)

theorem restart_kind (agents : List Nat) (kind steward : Nat) :
    (d.restart agents kind steward).get Reg.SYS_RESETCAUSE_KIND = kind % 8 := by
  unfold Dev.restart Dev.noteReset
  rw [get_raise _ _ (by decide) (by decide), get_set_other _ _ (by decide), get_set_same]
  rfl

theorem restart_steward (agents : List Nat) (kind steward : Nat) :
    (d.restart agents kind steward).get Reg.SYS_RESETCAUSE_STEWARD = steward % 8 := by
  unfold Dev.restart Dev.noteReset
  rw [get_raise _ _ (by decide) (by decide), get_set_same]
  rfl

/-! ### A session resumes from its checkpoint (R35) -/

/-- The registers of a session that its resumption writes. -/
def resumeKeys (n : Nat) : List Nat := [(Reg.OUT_SESS_PROTO n).key, (Reg.OUT_EVMAX_VMAX n).key, (Reg.OUT_EVMAX_IMAX n).key]

/-- Those of all sixteen sessions. -/
def allResumeKeys : List Nat := (List.range 16).flatMap resumeKeys

/-- A session that its steward's restart resumes: it stands in the state of its last checkpoint. -/
def resumes (n : Nat) : Prop := 4 ≤ d.sess n ∧ d.sess n ≤ 13 ∧ (tget {} d.ckpts n : Ckpt).state = d.sess n

/-- The outlet as the checkpoint `c` restores it. -/
def restored (c : Ckpt) (o : OutCtx) : OutCtx :=
  { o with vt := c.vt, demand := if c.state = 9 then some (c.ireq, c.vtgt) else o.demand }

variable {d}

theorem resumes_iff {n : Nat} :
    (decide (4 ≤ d.sess n ∧ d.sess n ≤ 13) && decide ((tget {} d.ckpts n : Ckpt).state = d.sess n)) = true ↔ resumes d n := by
  simp only [resumes, Bool.and_eq_true, decide_eq_true_eq, and_assoc]

theorem resume_of_resumes {n : Nat} (h : resumes d n) : d.resume n =
    (((d.set (Reg.OUT_SESS_PROTO n) (tget {} d.ckpts n : Ckpt).proto).set (Reg.OUT_EVMAX_VMAX n)
      (tget {} d.ckpts n : Ckpt).vmax).set (Reg.OUT_EVMAX_IMAX n) (tget {} d.ckpts n : Ckpt).imax).modOut n
      (restored (tget {} d.ckpts n)) := by
  unfold Dev.resume
  simp only [resumes_iff.2 h, Bool.not_true, Bool.false_eq_true, if_false]
  rfl

theorem resume_of_not {n : Nat} (h : ¬ resumes d n) : d.resume n = d :=
  if_pos (by simp only [Bool.eq_false_iff.2 (mt resumes_iff.1 h), Bool.not_false])

variable (d)

theorem modOut_agree (p : Nat → Bool) (n : Nat) (f : OutCtx → OutCtx) : Agree p d (d.modOut n f) := .of_regs rfl

theorem resume_agree (n : Nat) : Agree (fun k => decide (k ∈ resumeKeys n)) d (d.resume n) := by
  by_cases h : resumes d n
  · rw [resume_of_resumes h]
    have wrote : ∀ (d : Dev) (f : Fld) (v : Nat), f.key ∈ resumeKeys n →
        Agree (fun k => decide (k ∈ resumeKeys n)) d (d.set f v) :=
      fun d f v hf => .set d f v (decide_eq_true hf)
    exact (((wrote d _ _ (by simp [resumeKeys])).trans (wrote _ _ _ (by simp [resumeKeys]))).trans
      (wrote _ _ _ (by simp [resumeKeys]))).trans (modOut_agree _ _ n _)
  · rw [resume_of_not h]
    exact .refl _ d

/-- No session changes its state. -/
theorem resume_sess (n m : Nat) : (d.resume n).sess m = d.sess m := (resume_agree d n).get <| decide_eq_false <| by
  simp only [resumeKeys, List.mem_cons, List.not_mem_nil, or_false, Reg.OUT_SESS_STATE, Reg.OUT_SESS_PROTO,
    Reg.OUT_EVMAX_VMAX, Reg.OUT_EVMAX_IMAX]
  omega

theorem resumeKeys_past {n k : Nat} (h : k ∈ resumeKeys n) : 32 * 0x40010010 ≤ k := by
  simp only [resumeKeys, List.mem_cons, List.not_mem_nil, or_false, Reg.OUT_SESS_PROTO, Reg.OUT_EVMAX_VMAX, Reg.OUT_EVMAX_IMAX] at h
  omega

theorem resume_carries (n : Nat) : Carries d (d.resume n) := by
  by_cases h : resumes d n
  · rw [resume_of_resumes h]
    refine .trans ?_ (.modOut _ n _)
    iterate 3 refine .trans ?_ (.set _ _ (restartKey_of_le (resumeKeys_past (n := n) (by simp [resumeKeys]))))
    exact .refl d
  · rw [resume_of_not h]
    exact .refl d

/-- Resuming a session touches registers and contexts of outlets alone. -/
theorem resume_fields (n : Nat) : ∃ r o, d.resume n = { d with regs := r, outs := o } := by
  by_cases h : resumes d n
  · exact ⟨_, _, resume_of_resumes h⟩
  · exact ⟨_, _, resume_of_not h⟩

theorem resumeOf_carries (k : Nat) : Carries d (d.resumeOf k) :=
  .forAll 16 d _ fun d n => .ite (resume_carries d n) (.refl d)

/-- A register before those of the sessions reads as before. -/
theorem resumeOf_get {f : Fld} (k : Nat) (h : f.key < 32 * 0x40010010) : (d.resumeOf k).get f = d.get f := by
  refine get_forAll d 16 f _ fun n _ d => ?_
  have kept : (d.resume n).get f = d.get f :=
    (resume_agree d n).get (decide_eq_false fun hk => absurd (resumeKeys_past hk) (Nat.not_le.2 h))
  split
  · exact kept
  · rfl

/-! ### All sessions resume -/

/-- The session of outlet `n` stands in `x` as in `d`. -/
structure SameSession (n : Nat) (d x : Dev) : Prop where
  sess : x.sess n = d.sess n
  ckpt : (tget {} x.ckpts n : Ckpt) = tget {} d.ckpts n
  proto : x.get (Reg.OUT_SESS_PROTO n) = d.get (Reg.OUT_SESS_PROTO n)
  vmax : x.get (Reg.OUT_EVMAX_VMAX n) = d.get (Reg.OUT_EVMAX_VMAX n)
  imax : x.get (Reg.OUT_EVMAX_IMAX n) = d.get (Reg.OUT_EVMAX_IMAX n)
  out : x.out n = d.out n

theorem SameSession.refl (n : Nat) : SameSession n d d := ⟨rfl, rfl, rfl, rfl, rfl, rfl⟩

variable {d}

theorem SameSession.trans {n : Nat} {x y : Dev} (h : SameSession n d x) (g : SameSession n x y) : SameSession n d y :=
  ⟨g.sess.trans h.sess, g.ckpt.trans h.ckpt, g.proto.trans h.proto, g.vmax.trans h.vmax, g.imax.trans h.imax, g.out.trans h.out⟩

theorem SameSession.finish {n : Nat} (hn : n < 16) : SameSession n d d.finish := by
  have free : ∀ n < 16, (Reg.OUT_SESS_STATE n).key ∉ summaryKeys ++ curtailKeys ∧
      (Reg.OUT_SESS_PROTO n).key ∉ summaryKeys ++ curtailKeys ∧ (Reg.OUT_EVMAX_VMAX n).key ∉ summaryKeys ++ curtailKeys ∧
      (Reg.OUT_EVMAX_IMAX n).key ∉ summaryKeys ++ curtailKeys := by decide
  obtain ⟨sess, proto, vmax, imax⟩ := free n hn
  exact ⟨finish_get d sess, by rw [finish_ckpts], finish_get d proto, finish_get d vmax, finish_get d imax,
    by simp only [Dev.out, finish_outs]⟩

/-- Resuming the session of one outlet leaves that of another alone. -/
theorem SameSession.resume {n m : Nat} (h : n ≠ m) : SameSession n d (d.resume m) := by
  have kept : ∀ f : Fld, f.key ∉ resumeKeys m → (d.resume m).get f = d.get f := fun f hf =>
    (resume_agree d m).get (decide_eq_false hf)
  have apart : (Reg.OUT_SESS_PROTO n).key ∉ resumeKeys m ∧ (Reg.OUT_EVMAX_VMAX n).key ∉ resumeKeys m ∧
      (Reg.OUT_EVMAX_IMAX n).key ∉ resumeKeys m := by
    simp only [resumeKeys, List.mem_cons, List.not_mem_nil, or_false, Reg.OUT_SESS_PROTO, Reg.OUT_EVMAX_VMAX, Reg.OUT_EVMAX_IMAX]
    omega
  obtain ⟨proto, vmax, imax⟩ := apart
  refine ⟨resume_sess d m n, ?_, kept _ proto, kept _ vmax, kept _ imax, ?_⟩
  · obtain ⟨r, o, hx⟩ := resume_fields d m
    rw [hx]
  · by_cases hr : resumes d m
    · rw [resume_of_resumes hr]
      exact out_setOut_other _ _ h
    · rw [resume_of_not hr]

theorem SameSession.foldl_resume {n : Nat} : ∀ {l : List Nat} (d : Dev), n ∉ l → SameSession n d (l.foldl Dev.resume d)
  | [], d, _ => .refl d n
  | m :: _, d, h => (SameSession.resume (List.ne_of_not_mem_cons h)).trans
      (foldl_resume (d.resume m) (List.not_mem_of_not_mem_cons h))

/-- What happens to other outlets before and after a session resumes does not matter to it. -/
theorem resumed_of_sameSession {n : Nat} {x y z : Dev} (before : SameSession n d x) (h : x.resumed n y)
    (after : SameSession n y z) : d.resumed n z := by
  simp only [Dev.resumed, before.sess, before.ckpt, before.proto, before.vmax, before.imax, before.out] at h
  simp only [Dev.resumed, after.sess, after.proto, after.vmax, after.imax, after.out]
  exact h

theorem resume_resumed (n : Nat) : d.resumed n (d.resume n) := by
  refine ⟨resume_sess d n n, ?_⟩
  by_cases h : resumes d n
  · have apart : (Reg.OUT_SESS_PROTO n).key ≠ (Reg.OUT_EVMAX_VMAX n).key ∧
        (Reg.OUT_SESS_PROTO n).key ≠ (Reg.OUT_EVMAX_IMAX n).key ∧
        (Reg.OUT_EVMAX_VMAX n).key ≠ (Reg.OUT_EVMAX_IMAX n).key := by
      simp only [Reg.OUT_SESS_PROTO, Reg.OUT_EVMAX_VMAX, Reg.OUT_EVMAX_IMAX]
      omega
    obtain ⟨pv, pi, vi⟩ := apart
    rw [if_pos (show _ ∧ _ ∧ _ from h), resume_of_resumes h]
    rintro c rfl
    simp only [get_modOut]
    refine ⟨?_, ?_, get_set_same _ _ _, out_setOut_same _ _ _⟩
    · rw [get_set_other _ _ pi, get_set_other _ _ pv, get_set_same]
    · rw [get_set_other _ _ vi, get_set_same]
  · rw [if_neg (show ¬(_ ∧ _ ∧ _) from h), resume_of_not h]
    exact ⟨rfl, rfl, rfl, rfl⟩

/-- Each of the sessions resumes as it would alone. -/
theorem forAll_resume_resumed {n k : Nat} (h : n < k) : d.resumed n (forAll k d Dev.resume) := by
  obtain ⟨l, r, hs⟩ := List.append_of_mem (List.mem_range.2 h)
  have once : (l ++ n :: r).Nodup := hs ▸ List.nodup_range
  have hl : n ∉ l := fun hm => (List.nodup_append.1 once).2.2 n hm n (by simp) rfl
  have hr : n ∉ r := (List.nodup_cons.1 (List.nodup_append.1 once).2.1).1
  unfold forAll
  rw [hs, List.foldl_append, List.foldl_cons]
  exact resumed_of_sameSession (.foldl_resume d hl) (resume_resumed n) (.foldl_resume _ hr)

variable (d)

theorem forAll_resume_agree : Agree (fun k => decide (k ∈ allResumeKeys)) d (forAll 16 d Dev.resume) :=
  .forAll 16 d _ fun n hn d k hk => resume_agree d n k <| decide_eq_false fun hm =>
    of_decide_eq_false hk (List.mem_flatMap.2 ⟨n, List.mem_range.2 hn, hm⟩)

theorem forAll_resume_fields (k : Nat) : ∃ r o, forAll k d Dev.resume = { d with regs := r, outs := o } := by
  unfold forAll
  generalize List.range k = l
  induction l generalizing d with
  | nil => exact ⟨d.regs, d.outs, rfl⟩
  | cons n l ih =>
    obtain ⟨r, o, h⟩ := resume_fields d n
    obtain ⟨r', o', h'⟩ := ih (d.resume n)
    exact ⟨r', o', by rw [List.foldl_cons, h', h]⟩

/-! ### A warm reset (R75) -/

variable {d}

theorem sysCmdWarm_refused (h : d.mode = .boot ∨ d.mode = .selftest ∨ d.mode = .thermal ∨ d.mode = .recovery) :
    sysCmdWarm d = d.refuse 3 Reg.SYS_CMD_WARM.addr := by
  have awake : d.mode ≠ .lastGasp := by rintro hm; simp [hm] at h
  exact (if_neg awake).trans (if_pos h)

theorem sysCmdWarm_restarts (hg : d.mode ≠ .lastGasp)
    (hm : ¬(d.mode = .boot ∨ d.mode = .selftest ∨ d.mode = .thermal ∨ d.mode = .recovery)) (hw : d.warming = false) :
    sysCmdWarm d = { d with warming := true }.restart [3, 4, 5, 6, 7, 8, 9, 10] 3 0 :=
  (if_neg hg).trans ((if_neg hm).trans (if_neg (by simp only [hw, Bool.false_eq_true, not_false_eq_true])))

theorem finish_raw {e : Nat} (he : e < 128) : d.finish.raw e = d.raw e := by
  have free : ∀ w < 4, (Reg.EVT_RAW_BITS w).key ∉ summaryKeys ++ curtailKeys := by decide
  exact finish_bit d _ (free (e / 32) (by omega))

/-- A refused warm reset tells its code and its address alone. -/
theorem coded_sysCmdWarm_refused (h : d.mode = .boot ∨ d.mode = .selftest ∨ d.mode = .thermal ∨ d.mode = .recovery) :
    d.coded sysCmdWarm = ((d.set Reg.SYS_REFUSE_CODE 0).refuse 3 Reg.SYS_CMD_WARM.addr, 3) := by
  have same : (d.set Reg.SYS_REFUSE_CODE 0).mode = d.mode := mode_set d 0 (by decide)
  have refused := sysCmdWarm_refused (d := d.set Reg.SYS_REFUSE_CODE 0) (by rw [same]; exact h)
  have code : (sysCmdWarm (d.set Reg.SYS_REFUSE_CODE 0)).get Reg.SYS_REFUSE_CODE = 3 := by
    rw [refused, Dev.refuse, get_set_other _ _ (by decide), get_set_same]
    rfl
  rw [coded_refused (by rw [code]; decide), code, refused]

/-- A warm reset that is taken refuses nothing. -/
theorem coded_sysCmdWarm_restarts (hg : d.mode ≠ .lastGasp)
    (hm : ¬(d.mode = .boot ∨ d.mode = .selftest ∨ d.mode = .thermal ∨ d.mode = .recovery)) (hw : d.warming = false) :
    d.coded sysCmdWarm =
      (({ d.set Reg.SYS_REFUSE_CODE 0 with warming := true }.restart [3, 4, 5, 6, 7, 8, 9, 10] 3 0).set Reg.SYS_REFUSE_CODE
        (d.get Reg.SYS_REFUSE_CODE), 0) := by
  have same : (d.set Reg.SYS_REFUSE_CODE 0).mode = d.mode := mode_set d 0 (by decide)
  have restarts := sysCmdWarm_restarts (d := d.set Reg.SYS_REFUSE_CODE 0) (same ▸ hg) (same ▸ hm) hw
  have code : (sysCmdWarm (d.set Reg.SYS_REFUSE_CODE 0)).get Reg.SYS_REFUSE_CODE = 0 := by
    rw [restarts, (restart_carries _ _ 3 0).get (by decide) (by decide)]
    exact get_set_same d _ 0
  rw [coded_ok code, restarts]

/-- Last gasp powers the host ports down: no host command arrives. -/
theorem completes_host_lastGasp {c : Instr} {s : State} {f : Dev → Dev} {p : Dev → Prop} (hc : exec c s = s.host f)
    (hs : s.dev.stopped = false) (hm : s.dev.mode = .lastGasp) (h : p s.dev.begin.finish) : Completes c s p :=
  completes_main hc hs (by have : s.dev.begin.mode = .lastGasp := hm; rw [if_pos this]; exact h)

theorem completes_command_lastGasp {c : Instr} {s : State} {f : Dev → Dev} {p : Dev → Prop} (hc : exec c s = s.command f)
    (hs : s.dev.stopped = false) (hm : s.dev.mode = .lastGasp) (h : p s.dev.begin.finish) : Completes c s p :=
  completes_host_lastGasp hc hs hm h

theorem sysCmdWarm_completes_restart {s : State} (hs : s.serves) (hw : s.dev.warming = false)
    (hm : ¬(s.dev.mode = .boot ∨ s.dev.mode = .selftest ∨ s.dev.mode = .thermal ∨ s.dev.mode = .recovery)) :
    Completes .sysCmdWarm s fun d =>
      d.warming = true ∧ d.txn = none ∧ d.get Reg.SYS_RESETCAUSE_KIND = 3 ∧ d.raw 1 = true ∧ d.mode = s.dev.mode ∧
      d.sram = s.dev.sram ∧ d.flash = s.dev.flash := by
  obtain ⟨runs, awake⟩ := hs
  refine completes_command (f := sysCmdWarm) rfl runs awake ?_
  rw [coded_sysCmdWarm_restarts (d := s.dev.begin) awake hm hw]
  have carried := restart_carries { s.dev.begin.set Reg.SYS_REFUSE_CODE 0 with warming := true } [3, 4, 5, 6, 7, 8, 9, 10] 3 0
  refine ⟨(finish_warming _).trans carried.warming, (finish_txn _).trans (restart_txn _ _ 3 0), ?_, ?_, ?_,
    (finish_sram _).trans carried.sram, (finish_flash _).trans carried.flash⟩
  · rw [finish_get _ (by decide), get_emit, get_set_other _ _ (by decide), restart_kind]
  · rw [finish_raw (by decide)]
    exact (raw_set _ _ (by decide)).trans (restart_raw_one _ _ 3 0)
  · rw [finish_mode]
    exact (mode_set _ _ (by decide)).trans (carried.mode.trans (mode_set s.dev.begin 0 (by decide)))

theorem sysCmdWarm_completes_refused {s : State} (hs : s.runs)
    (hm : s.dev.mode = .boot ∨ s.dev.mode = .selftest ∨ s.dev.mode = .thermal ∨ s.dev.mode = .recovery) :
    Completes .sysCmdWarm s fun d =>
      Dev.OnlyRegs [Reg.SYS_REFUSE_CODE.key, Reg.SYS_REFUSE_ADDR.key] s.dev d ∧ d.get Reg.SYS_REFUSE_CODE = 3 ∧
      d.get Reg.SYS_REFUSE_ADDR = 0x10 ∧ d.emitted = [.answer (statusOf 3) 3 []] := by
  refine completes_command (f := sysCmdWarm) rfl hs (by rintro h; simp [h] at hm) ?_
  rw [coded_sysCmdWarm_refused (d := s.dev.begin) hm]
  have start := Writes.start [Reg.SYS_REFUSE_CODE.key, Reg.SYS_REFUSE_ADDR.key] s.dev
  have told := ((start.set (f := Reg.SYS_REFUSE_CODE) 0 (by simp)).set (f := Reg.SYS_REFUSE_CODE) 3 (by simp)).set
    (f := Reg.SYS_REFUSE_ADDR) Reg.SYS_CMD_WARM.addr (by simp)
  refine ⟨(told.emit _).finish, ?_, ?_, ?_⟩
  · rw [finish_get _ (by decide), get_emit, Dev.refuse, get_set_other _ _ (by decide), get_set_same]
    rfl
  · rw [finish_get _ (by decide), get_emit, Dev.refuse, get_set_same]
    rfl
  · exact finish_emitted_free _ (by simp [Dev.refuse, Msg.driven, Msg.onDn])

theorem warmRestartDone_idle (h : d.warming = false) : warmRestartDone d = d :=
  if_neg (by simp only [h, Bool.false_eq_true, not_false_eq_true])

theorem warmRestartDone_warming (h : d.warming = true) :
    warmRestartDone d = forAll 16 { d with warming := false } Dev.resume := if_pos h

theorem warmRestartDone_writes (h : d.warming = true) :
    Writes allResumeKeys { d with warming := false, outs := (warmRestartDone d.begin).outs } (warmRestartDone d.begin) := by
  rw [warmRestartDone_warming (d := d.begin) h]
  refine ⟨?_, fun k hk => forAll_resume_agree { d.begin with warming := false } k (decide_eq_false hk)⟩
  obtain ⟨r, o, hx⟩ := forAll_resume_fields { d.begin with warming := false } 16
  rw [hx]
  rfl

theorem warmRestartDone_resumed {n : Nat} (h : d.warming = true) (hn : n < 16) : d.resumed n (warmRestartDone d.begin).finish := by
  rw [warmRestartDone_warming (d := d.begin) h]
  exact resumed_of_sameSession (x := { d.begin with warming := false }) ⟨rfl, rfl, rfl, rfl, rfl, rfl⟩
    (forAll_resume_resumed hn) (.finish hn)

/-! ### Resets of one steward (R75, R76, R535) -/

/-- A steward restarts, and its sessions resume. -/
def stewardRestarts (k : Nat) (d : Dev) : Dev := (d.restart [3 + k] 4 k).resumeOf k

theorem stewardWatchdog_restarts (k : Nat) (hw : d.warming = false) (hb : d.mode ≠ .boot) (hg : d.mode ≠ .lastGasp) :
    stewardWatchdog k d = stewardRestarts k d :=
  if_neg (by simp only [hw, hb, hg, Bool.false_eq_true, or_self, not_false_eq_true])

/-- The device with an uncorrectable fetch logged, EV025 raised, and the word reloaded. -/
def fetchTrapped (k bank word synd : Nat) (d : Dev) : Dev :=
  ((d.uncorrectable 0 (1 + k) bank word synd).raise 25 bank).reloadWord bank word

theorem stewardFetchTrap_restarts (k bank word synd : Nat) (hw : d.warming = false) (hb : d.mode ≠ .boot)
    (hg : d.mode ≠ .lastGasp) :
    stewardFetchTrap k bank word synd d = stewardRestarts k (fetchTrapped k bank word synd d) :=
  if_neg (by simp only [hw, hb, hg, Bool.false_eq_true, or_self, not_false_eq_true])

variable (d)

theorem stewardRestarts_carries (k : Nat) : Carries d (stewardRestarts k d) :=
  (restart_carries d _ 4 k).trans (resumeOf_carries _ k)

/-- What a restarted steward leaves at the end of the command: no transaction, the cause, and EV001. -/
theorem stewardRestarts_finish (k : Fin 8) :
    (stewardRestarts k d).finish.txn = none ∧ (stewardRestarts k d).finish.get Reg.SYS_RESETCAUSE_KIND = 4 ∧
      (stewardRestarts k d).finish.get Reg.SYS_RESETCAUSE_STEWARD = k.val ∧ (stewardRestarts k d).finish.raw 1 = true := by
  have resumed := resumeOf_carries (d.restart [3 + k.val] 4 k) k
  refine ⟨?_, ?_, ?_, ?_⟩
  · rw [finish_txn]
    exact resumed.txn (restart_txn d _ 4 k)
  · rw [finish_get _ (by decide), stewardRestarts, resumeOf_get _ _ (by decide), restart_kind]
  · rw [finish_get _ (by decide), stewardRestarts, resumeOf_get _ _ (by decide), restart_steward, Nat.mod_eq_of_lt k.isLt]
  · rw [finish_raw (by decide)]
    exact resumed.raised 1 (by decide) (restart_raw_one d _ 4 k)

theorem refreshLog_carries : Carries d d.refreshLog :=
  .forAll 4 d _ fun d w => .set d _ (restartKey_of_le (by simp only [Reg.MEM_LOGDATA_DATA]; omega))

theorem logNew_carries (e : MemLog) : Carries d (d.logNew e) := by
  unfold Dev.logNew
  have logged : ∀ (f : MemCtx → MemCtx) (v : Nat), Carries d ((d.modMem f).set Reg.MEM_LOGHEAD_TOTAL v).refreshLog :=
    fun f v => ((Carries.modMem d f).trans (.set _ v (by decide))).trans (refreshLog_carries _)
  dsimp only
  split
  · exact (logged _ _).trans (.raise _ 0 (by decide))
  · exact logged _ _

theorem logError_carries (typ port agent b w synd : Nat) : Carries d (d.logError typ port agent b w synd) := by
  unfold Dev.logError
  have syndrome : restartKey (Reg.MEM_BANKERR_SYND b).key = true := restartKey_of_le (by simp only [Reg.MEM_BANKERR_SYND]; omega)
  have noted : Carries d (if typ = 5 ∨ typ = 6 then d else d.set (Reg.MEM_BANKERR_SYND b) synd) :=
    .ite (.refl d) (.set d synd syndrome)
  dsimp only
  split
  · exact noted.trans ((Carries.modMem _ _).trans (refreshLog_carries _))
  · exact noted.trans (logNew_carries _ _)

theorem uncorrectable_carries (port agent b w synd : Nat) : Carries d (d.uncorrectable port agent b w synd) := by
  have count : restartKey (Reg.MEM_BANKERR_UE b).key = true := restartKey_of_le (by simp only [Reg.MEM_BANKERR_UE]; omega)
  have poisoned : Carries d (d.setPoison b w true) := .of_same rfl rfl rfl rfl id
  exact ((poisoned.trans (.set _ _ count)).trans (logError_carries _ 2 port agent b w synd)).trans (.raise _ b (by decide))

theorem putSram_regs (bank : Nat) : ∀ (bytes : List Byte) (o : Nat) (d : Dev), (d.putSram bank o bytes).regs = d.regs
  | [], _, _ => rfl
  | v :: bytes, o, d => putSram_regs bank bytes (o + 1) (d.setSramByte bank o v)

theorem reloadWord_regs (bank word : Nat) : (d.reloadWord bank word).regs = d.regs := by
  unfold Dev.reloadWord
  split
  · rfl
  · exact putSram_regs bank _ _ _

theorem fetchTrapped_mode (k bank word synd : Nat) : (fetchTrapped k bank word synd d).mode = d.mode := by
  have logged : Carries d ((d.uncorrectable 0 (1 + k) bank word synd).raise 25 bank) :=
    (uncorrectable_carries d 0 (1 + k) bank word synd).trans (.raise _ bank (by decide))
  rw [fetchTrapped, ← logged.mode]
  exact mode_of_get (by simp only [Dev.get, reloadWord_regs])

theorem fetchTrapped_raw (k bank word synd : Nat) : (fetchTrapped k bank word synd d).raw 25 = true :=
  (raw_of_regs (reloadWord_regs _ bank word) 25).trans (raw_raise _ bank (by decide))

end

/-- Settles O9: a warm reset and a steward's reset are a restart (`restart_carries`), which the sessions' resumption from their
checkpoints follows (`forAll_resume_resumed`); the end of the command keeps what both leave. What a checkpoint restores is the
model's choice (log 124). -/
theorem stewardsRestart : Obligations.stewardsRestart := by
  unfold Obligations.stewardsRestart
  refine ⟨fun s hs hw hb hst ht hr => ?_, fun s hs hm => ?_, fun s hs hm => ?_, fun s hs hw => ?_, fun s hs hw => ?_,
    fun s k hs hw hb hg => ?_, fun s k bank word synd hs hw hb hg => ?_⟩
  · exact sysCmdWarm_completes_restart hs hw (by simp [hb, hst, ht, hr])
  · exact sysCmdWarm_completes_refused hs hm
  · refine completes_command_lastGasp (f := sysCmdWarm) rfl hs hm ⟨(Writes.start [] s.dev).finish, ?_⟩
    rw [finish_emitted_free _ (by simp)]
    rfl
  · refine completes_main (f := warmRestartDone) rfl hs ?_
    rw [warmRestartDone_idle (d := s.dev.begin) hw]
    exact (Writes.start [] s.dev).finish
  · refine completes_main (f := warmRestartDone) rfl hs ⟨?_, fun n => warmRestartDone_resumed hw n.isLt⟩
    rw [finish_outs]
    exact (warmRestartDone_writes hw).finish
  · refine completes_main (f := stewardWatchdog k) rfl hs ?_
    rw [stewardWatchdog_restarts (d := s.dev.begin) k hw hb hg]
    have carried := stewardRestarts_carries s.dev.begin k
    obtain ⟨txn, kind, steward, raised⟩ := stewardRestarts_finish s.dev.begin k
    exact ⟨txn, kind, steward, raised, (finish_mode _).trans carried.mode, (finish_sram _).trans carried.sram,
      (finish_flash _).trans carried.flash⟩
  · refine completes_main (f := stewardFetchTrap k bank word synd.toNat) rfl hs ?_
    rw [stewardFetchTrap_restarts (d := s.dev.begin) k bank word synd.toNat hw hb hg]
    have carried := stewardRestarts_carries (fetchTrapped k bank word synd.toNat s.dev.begin) k
    obtain ⟨txn, kind, steward, raised⟩ := stewardRestarts_finish (fetchTrapped k bank word synd.toNat s.dev.begin) k
    refine ⟨txn, kind, steward, ?_, raised, ?_⟩
    · rw [finish_raw (by decide)]
      exact carried.raised 25 (by decide) (fetchTrapped_raw _ _ _ _ _)
    · exact (finish_mode _).trans (carried.mode.trans (fetchTrapped_mode _ _ _ _ _))

end Sys2Proof.Proofs
end

section
/-! Weights and phases of an arc: the ascending order of its strings, what each of them is given, and the sum of the weights
(R139, R141, R142). -/

namespace Sys2Proof.Proofs

open Sys2Proof.Machine Sys2Proof.Laws

/-! ### The strings of an arc in ascending order -/

theorem courseStrings_ascending (c : Nat) : (courseStrings c).Pairwise (· < ·) := by simp [courseStrings]

theorem mem_courseStrings {c s : Nat} (h : s ∈ courseStrings c) : 4 * c ≤ s ∧ s < 4 * (c + 1) := by
  simp only [courseStrings, List.mem_cons, List.not_mem_nil, or_false] at h
  omega

theorem arcCourses_ascending (d : Dev) (n : Nat) : (d.arcCourses n).Pairwise (· < ·) := List.pairwise_lt_range.filter _

theorem arcStrings_ascending (d : Dev) (n : Nat) : (d.arcStrings n).Pairwise (· < ·) := by
  refine List.pairwise_flatMap.2 ⟨fun c _ => courseStrings_ascending c, (arcCourses_ascending d n).imp ?_⟩
  intro b c hbc s hs r hr
  have hsb := mem_courseStrings hs
  have hrc := mem_courseStrings hr
  omega

theorem activeStrings_ascending (d : Dev) (n : Nat) : (d.activeStrings n).Pairwise (· < ·) :=
  (arcStrings_ascending d n).filter _

/-! ### The shares as they are worked out (R139, R141) -/

/-- Flooring loses no more than one unit a string. -/
theorem sum_div_bounds (ws : List Nat) {total : Nat} (h : 0 < total) :
    (ws.map fun w => w * 65536 / total).sum * total ≤ 65536 * ws.sum ∧
      65536 * ws.sum ≤ ((ws.map fun w => w * 65536 / total).sum + ws.length) * total := by
  induction ws with
  | nil => simp
  | cons w ws ih =>
    have hle : w * 65536 / total * total ≤ w * 65536 := Nat.div_mul_le_self _ _
    have hlt : w * 65536 < w * 65536 / total * total + total := Nat.lt_div_mul_add h
    obtain ⟨ihle, ihge⟩ := ih
    rw [Nat.add_mul] at ihge
    simp only [List.map_cons, List.sum_cons, List.length_cons, Nat.add_mul, Nat.mul_add, Nat.one_mul]
    constructor <;> omega

theorem sum_map_add_nat {α : Type} (f g : α → Nat) (l : List α) :
    (l.map fun a => f a + g a).sum = (l.map f).sum + (l.map g).sum := by
  induction l with
  | nil => rfl
  | cons a l ih =>
    simp only [List.map_cons, List.sum_cons, ih]
    omega

/-- One unit each to the first `k` of `n` strings makes `k` units, if there are so many strings. -/
theorem sum_first_units (k n : Nat) : ((List.range n).map fun i => flag (decide (i < k))).sum = min k n := by
  induction n with
  | zero => simp
  | succ n ih =>
    rw [List.range_succ, List.map_append, List.sum_append, ih]
    by_cases h : n < k <;> simp [flag, h] <;> omega

theorem map_fst_zip_range {α β : Type} (g : α → β) (l : List α) :
    ((l.zip (List.range l.length)).map fun p => g p.1) = l.map g := by
  change (l.zip _).map (g ∘ Prod.fst) = _
  rw [← List.map_map, List.map_fst_zip (by simp)]

theorem map_snd_zip_range {α β : Type} (g : Nat → β) (l : List α) :
    ((l.zip (List.range l.length)).map fun p => g p.2) = (List.range l.length).map g := by
  change (l.zip _).map (g ∘ Prod.snd) = _
  rw [← List.map_map, List.map_snd_zip (by simp)]

/-- Each string of the list beside its floored share. -/
def flooredShares (raw : List (Nat × Nat)) : List (Nat × Nat) := raw.map fun p => (p.1, p.2 * 65536 / (raw.map (·.2)).sum)

theorem flooredShares_strings (raw : List (Nat × Nat)) : (flooredShares raw).map (·.1) = raw.map (·.1) := List.map_map

theorem flooredShares_length (raw : List (Nat × Nat)) : (flooredShares raw).length = raw.length := List.length_map _

theorem flooredShares_bounds {raw : List (Nat × Nat)} (h : (raw.map (·.2)).sum ≠ 0) :
    ((flooredShares raw).map (·.2)).sum ≤ 65536 ∧ 65536 ≤ ((flooredShares raw).map (·.2)).sum + raw.length := by
  have hpos := Nat.pos_of_ne_zero h
  have hshares : (flooredShares raw).map (·.2) = (raw.map (·.2)).map fun w => w * 65536 / (raw.map (·.2)).sum := by
    simp [flooredShares, Function.comp_def]
  have bounds := sum_div_bounds (raw.map (·.2)) hpos
  rw [← hshares, List.length_map] at bounds
  exact ⟨Nat.le_of_mul_le_mul_right bounds.1 hpos, Nat.le_of_mul_le_mul_right bounds.2 hpos⟩

/-- What `shareOut` gives where a raw weight is not zero: to each its floored share, and to the first ones a unit more. -/
theorem shareOut_eq {raw : List (Nat × Nat)} (h : (raw.map (·.2)).sum ≠ 0) :
    shareOut raw = ((flooredShares raw).zip (List.range (flooredShares raw).length)).map fun p =>
      (p.1.1, p.1.2 + flag (decide (p.2 < 65536 - ((flooredShares raw).map (·.2)).sum))) := by
  simp only [shareOut, ← List.sum_eq_foldl, if_neg h]
  rfl

theorem shareOut_strings (raw : List (Nat × Nat)) : (shareOut raw).map (·.1) = raw.map (·.1) := by
  by_cases h : (raw.map (·.2)).sum = 0
  · simp [shareOut, ← List.sum_eq_foldl, h, Function.comp_def]
  · rw [shareOut_eq h, List.map_map, ← flooredShares_strings]
    exact map_fst_zip_range (·.1) (flooredShares raw)

theorem shareOut_sum {raw : List (Nat × Nat)} (h : (raw.map (·.2)).sum ≠ 0) : ((shareOut raw).map (·.2)).sum = 65536 := by
  obtain ⟨hle, hge⟩ := flooredShares_bounds h
  rw [shareOut_eq h, List.map_map]
  generalize hleft : 65536 - ((flooredShares raw).map (·.2)).sum = left
  have parts := map_fst_zip_range (·.2) (flooredShares raw)
  have units := map_snd_zip_range (fun i => flag (decide (i < left))) (flooredShares raw)
  calc (((flooredShares raw).zip (List.range (flooredShares raw).length)).map fun p => p.1.2 + flag (decide (p.2 < left))).sum
      = ((flooredShares raw).map (·.2)).sum + min left (flooredShares raw).length := by
        rw [sum_map_add_nat, parts, units, sum_first_units]
    _ = 65536 := by rw [flooredShares_length]; omega

/-! ### What each string is given (R142) -/

theorem phaseKey_ne {s r : Nat} (h : s ≠ r) : (Reg.INK_STRING_PHASE s).key ≠ (Reg.INK_STRING_PHASE r).key := by
  simp only [Reg.INK_STRING_PHASE]
  omega

theorem phaseKey_ne_weightKey (s r : Nat) : (Reg.INK_STRING_PHASE s).key ≠ (Reg.INK_STRING_WEIGHT r).key := by
  simp only [Reg.INK_STRING_PHASE, Reg.INK_STRING_WEIGHT]
  omega

theorem setWeight_phase (d : Dev) (s r w : Nat) :
    (d.setWeight s w).get (Reg.INK_STRING_PHASE r) = d.get (Reg.INK_STRING_PHASE r) := by
  unfold Dev.setWeight
  split <;> exact get_set_other _ _ (phaseKey_ne_weightKey r s)

/-- One string of `n` is given its weight and the phase of its place, as `Dev.setShares` does for each. -/
def giveShare (n : Nat) (d : Dev) (p : (Nat × Nat) × Nat) : Dev :=
  (d.setWeight p.1.1 p.1.2).set (Reg.INK_STRING_PHASE p.1.1) (phaseOf p.2 n)

theorem setShares_eq (d : Dev) (ss : List Nat) :
    d.setShares ss = ((shareOut (d.rawWeights ss)).zip (List.range (shareOut (d.rawWeights ss)).length)).foldl
      (giveShare (shareOut (d.rawWeights ss)).length) d := rfl

theorem giveShare_phase_same (n : Nat) (d : Dev) (p : (Nat × Nat) × Nat) :
    (giveShare n d p).get (Reg.INK_STRING_PHASE p.1.1) = phaseOf p.2 n % 4096 := get_set_same _ _ _

theorem giveShare_phase_other (n : Nat) (d : Dev) {p : (Nat × Nat) × Nat} {s : Nat} (h : s ≠ p.1.1) :
    (giveShare n d p).get (Reg.INK_STRING_PHASE s) = d.get (Reg.INK_STRING_PHASE s) :=
  (get_set_other _ _ (phaseKey_ne h)).trans (setWeight_phase d _ _ _)

theorem foldl_giveShare_phase_other (n : Nat) {l : List ((Nat × Nat) × Nat)} {s : Nat} (h : ∀ p ∈ l, s ≠ p.1.1) (d : Dev) :
    (l.foldl (giveShare n) d).get (Reg.INK_STRING_PHASE s) = d.get (Reg.INK_STRING_PHASE s) := by
  induction l generalizing d with
  | nil => rfl
  | cons p l ih =>
    obtain ⟨hp, hl⟩ := List.forall_mem_cons.1 h
    exact (ih hl _).trans (giveShare_phase_other n d hp)

/-- Where no string stands twice in the list, each keeps the phase of its own place. -/
theorem foldl_giveShare_phase (n : Nat) {l : List ((Nat × Nat) × Nat)} (hl : l.Pairwise fun p q => p.1.1 ≠ q.1.1)
    {p : (Nat × Nat) × Nat} (hp : p ∈ l) (d : Dev) :
    (l.foldl (giveShare n) d).get (Reg.INK_STRING_PHASE p.1.1) = phaseOf p.2 n % 4096 := by
  induction l generalizing d with
  | nil => cases hp
  | cons q l ih =>
    obtain ⟨hq, hrest⟩ := List.pairwise_cons.1 hl
    rcases List.mem_cons.1 hp with rfl | hmem
    · exact (foldl_giveShare_phase_other n hq _).trans (giveShare_phase_same n d p)
    · exact ih hrest hmem _

theorem phaseOf_lt {i n : Nat} (h : i < n) : phaseOf i n < 4096 :=
  Nat.div_lt_of_lt_mul (by rw [Nat.mul_comm n]; exact Nat.mul_lt_mul_of_pos_left h (by decide))

theorem rawWeights_strings (d : Dev) (ss : List Nat) : (d.rawWeights ss).map (·.1) = ss := by
  unfold Dev.rawWeights
  split <;> simp [Function.comp_def]

/-- The i-th string of an ascending list receives the i-th phase. -/
theorem setShares_phase (d : Dev) {ss : List Nat} (hss : ss.Pairwise (· < ·)) {i : Nat} (h : i < ss.length) :
    (d.setShares ss).get (Reg.INK_STRING_PHASE ss[i]) = phaseOf i ss.length := by
  rw [setShares_eq]
  generalize hws : shareOut (d.rawWeights ss) = ws
  obtain rfl : ws.map (·.1) = ss := by rw [← hws, shareOut_strings, rawWeights_strings]
  have hi : i < ws.length := by simpa using h
  have once : (ws.zip (List.range ws.length)).Pairwise fun p q => p.1.1 ≠ q.1.1 := by
    have := hss.imp Nat.ne_of_lt
    rwa [← map_fst_zip_range (·.1) ws, List.pairwise_map] at this
  have own : (ws[i], i) ∈ ws.zip (List.range ws.length) := List.mem_iff_getElem.2 ⟨i, by simpa using hi, by simp⟩
  have phase := foldl_giveShare_phase ws.length once own d
  rw [Nat.mod_eq_of_lt (phaseOf_lt hi)] at phase
  simpa using phase

theorem reshare_phase (d : Dev) {n i : Nat} (h : i < (d.activeStrings n).length) :
    (d.reshare n).get (Reg.INK_STRING_PHASE (d.activeStrings n)[i]) = phaseOf i (d.activeStrings n).length :=
  setShares_phase d (activeStrings_ascending d n) h

/-- Settles O20: the active strings of an arc stand in ascending order (`activeStrings_ascending`), so each keeps the phase of its
own place (`reshare_phase`); flooring loses no more than a unit a string, and `shareOut` gives those units back (`shareOut_sum`). -/
theorem weightsSumAndPhasesSpread : Obligations.weightsSumAndPhasesSpread := by
  refine ⟨fun d n i h _ => ⟨reshare_phase d h, fun j hj hij => ?_⟩, fun raw hraw => ⟨shareOut_sum ?_, shareOut_strings raw⟩⟩
  · exact List.pairwise_iff_getElem.1 (activeStrings_ascending d n) i j h hj hij
  · obtain ⟨p, hp, hne⟩ := hraw
    have positive := List.sum_pos_iff_exists_pos_nat.2 ⟨p.2, List.mem_map_of_mem hp, Nat.pos_of_ne_zero hne⟩
    exact Nat.ne_of_gt positive

end Sys2Proof.Proofs
end

section
/-! Writes to SRAM: the bytes that a run of bytes, a word operation and the host's atomic operation reach, and the word that a
partial write or an alias operation cleans first (R522, R529 to R532, R535). -/

namespace Sys2Proof.Proofs

open Sys2Proof.Machine Sys2Proof.Laws

/-! ### Little-endian bytes (R15) -/

theorem leBytes_length : ∀ n v : Nat, (leBytes n v).length = n
  | 0, _ => rfl
  | n + 1, v => congrArg (· + 1) (leBytes_length n (v / 256))

theorem leBytes_getD : ∀ {i n : Nat} (v : Nat), i < n → (leBytes n v).getD i 0#8 = BitVec.ofNat 8 (v / 256 ^ i)
  | 0, n + 1, v, _ => by simp [leBytes]
  | i + 1, n + 1, v, h => by
    rw [leBytes, List.getD_cons_succ, leBytes_getD (v / 256) (Nat.lt_of_succ_lt_succ h), Nat.div_div_eq_div_mul, Nat.pow_succ']

theorem ofLe_lt : ∀ l : List Byte, ofLe l < 256 ^ l.length
  | [] => Nat.one_pos
  | b :: l => by
    have := ofLe_lt l
    have := b.isLt
    simp only [ofLe, List.length_cons, Nat.pow_succ]
    omega

theorem ofLe_leBytes : ∀ n v : Nat, ofLe (leBytes n v) = v % 256 ^ n
  | 0, v => by simp [leBytes, ofLe, Nat.mod_one]
  | n + 1, v => by
    rw [leBytes, ofLe, ofLe_leBytes n, BitVec.toNat_ofNat, Nat.pow_succ' (m := 256)]
    exact Nat.mod_mul.symm

theorem leBytes_ofLe : ∀ l : List Byte, leBytes l.length (ofLe l) = l
  | [] => rfl
  | b :: l => by
    have low : BitVec.ofNat 8 (b.toNat + 256 * ofLe l) = b := by
      apply BitVec.eq_of_toNat_eq
      have := b.isLt
      rw [BitVec.toNat_ofNat]
      omega
    have high : (b.toNat + 256 * ofLe l) / 256 = ofLe l := by have := b.isLt; omega
    rw [List.length_cons, ofLe, leBytes, low, high, leBytes_ofLe l]

/-! ### A run of bytes at an address -/

/-- The table `m'` holds the bytes from the address on, and reads as `m` everywhere else. -/
structure StoredAt (a : Nat) (bytes : List Byte) (m m' : List (Nat × Byte)) : Prop where
  own : ∀ i < bytes.length, tget 0#8 m' (a + i) = bytes.getD i 0#8
  rest : ∀ k, k < a ∨ a + bytes.length ≤ k → tget 0#8 m' k = tget 0#8 m k

/-- A second run of the same length at the same address covers the first. -/
theorem StoredAt.over {a : Nat} {xs ys : List Byte} {m m' m'' : List (Nat × Byte)} (h : StoredAt a xs m m')
    (g : StoredAt a ys m' m'') (len : xs.length = ys.length) : StoredAt a ys m m'' :=
  ⟨g.own, fun k hk => (g.rest k hk).trans (h.rest k (len ▸ hk))⟩

variable {d : Dev}

theorem putSram_storedAt (b : Nat) :
    ∀ (bytes : List Byte) (o : Nat) (d : Dev), StoredAt (sramKey b o) bytes d.sram (d.putSram b o bytes).sram
  | [], _, _ => ⟨fun _ h => absurd h (Nat.not_lt_zero _), fun _ _ => rfl⟩
  | v :: bytes, o, d => by
    have later := putSram_storedAt b bytes (o + 1) (d.setSramByte b o v)
    have next : sramKey b (o + 1) = sramKey b o + 1 := by simp only [sramKey]; omega
    rw [next] at later
    refine ⟨fun i hi => ?_, fun k hk => ?_⟩
    · cases i with
      | zero =>
        rw [Nat.add_zero, List.getD_cons_zero, Dev.putSram, later.rest _ (.inl (Nat.lt_succ_self _))]
        exact tget_tput_same _ _ _ _
      | succ i =>
        rw [List.getD_cons_succ, ← later.own i (Nat.lt_of_succ_lt_succ hi), Nat.add_right_comm, Nat.add_assoc (sramKey b o)]
        rfl
    · rw [List.length_cons] at hk
      exact (later.rest k (by omega)).trans (tget_tput_other _ _ _ (by omega))

theorem putSram_eq (b : Nat) :
    ∀ (bytes : List Byte) (o : Nat) (d : Dev), d.putSram b o bytes = { d with sram := (d.putSram b o bytes).sram }
  | [], _, _ => rfl
  | v :: bytes, o, d => by
    rw [Dev.putSram, putSram_eq b bytes (o + 1) (d.setSramByte b o v)]
    rfl

theorem putSram_emitted (b o : Nat) (bytes : List Byte) : (d.putSram b o bytes).emitted = d.emitted := by rw [putSram_eq]

theorem putSram_poisoned (b o : Nat) (bytes : List Byte) (b' w : Nat) :
    (d.putSram b o bytes).poisoned b' w = d.poisoned b' w := by rw [putSram_eq]; rfl

/-- Bytes put into SRAM write no register and send no message. -/
theorem writes_putSram {named : List Nat} {x : Dev} (b o : Nat) (bytes : List Byte) (h : Writes named d x) :
    Writes named { d with sram := (x.putSram b o bytes).sram } (x.putSram b o bytes) := by
  obtain ⟨fields, regs⟩ := h
  refine ⟨?_, fun k hk => by rw [putSram_regs]; exact regs k hk⟩
  have other := congrArg (fun y : Dev => { y with sram := (x.putSram b o bytes).sram }) fields
  rw [putSram_regs, putSram_emitted]
  exact (putSram_eq b bytes o x).trans other

theorem sramBytes_length (b o n : Nat) : (d.sramBytes b o n).length = n := by simp [Dev.sramBytes]

theorem ofLe_sramBytes_lt (b o n : Nat) : ofLe (d.sramBytes b o n) < 256 ^ n := by
  simpa only [sramBytes_length] using ofLe_lt (d.sramBytes b o n)

theorem sramBytes_getD {i n : Nat} (b o : Nat) (h : i < n) : (d.sramBytes b o n).getD i 0#8 = d.sramByte b (o + i) := by
  simp [Dev.sramBytes, h]

theorem StoredAt.sramByte {b o i n : Nat} {bytes : List Byte} {m : List (Nat × Byte)}
    (h : StoredAt (sramKey b o) bytes m d.sram) (len : bytes.length = n) (hi : i < n) :
    d.sramByte b (o + i) = bytes.getD i 0#8 := by
  rw [← h.own i (len ▸ hi), sramKey, Nat.add_assoc]
  rfl

theorem StoredAt.sramBytes {b o n : Nat} {bytes : List Byte} {m : List (Nat × Byte)}
    (h : StoredAt (sramKey b o) bytes m d.sram) (len : bytes.length = n) : d.sramBytes b o n = bytes := by
  refine List.ext_getElem ((sramBytes_length ..).trans len.symm) fun i _ hi => ?_
  rw [List.getElem_eq_getD 0#8, List.getElem_eq_getD 0#8, sramBytes_getD b o (len ▸ hi)]
  exact h.sramByte rfl hi

theorem StoredAt.frame {b o n : Nat} {bytes : List Byte} {m m' : List (Nat × Byte)} (h : StoredAt (sramKey b o) bytes m m')
    (len : bytes.length = n) : ∀ a, a < b * 262144 + o ∨ b * 262144 + o + n ≤ a → tget 0#8 m' a = tget 0#8 m a :=
  len ▸ h.rest

theorem sramByte_of_sram {d d' : Dev} (h : d'.sram = d.sram) (b o : Nat) : d'.sramByte b o = d.sramByte b o := by
  simp only [Dev.sramByte, h]

theorem sramBytes_of_sram {d d' : Dev} (h : d'.sram = d.sram) (b o n : Nat) : d'.sramBytes b o n = d.sramBytes b o n := by
  simp only [Dev.sramBytes, sramByte_of_sram h]

/-! ### A 64-bit word -/

theorem sramWord_lt (b w : Nat) : d.sramWord b w < 2 ^ 64 := ofLe_sramBytes_lt b (8 * w) 8

theorem leBytes_sramWord (b w : Nat) : leBytes 8 (d.sramWord b w) = d.sramBytes b (8 * w) 8 := by
  have := leBytes_ofLe (d.sramBytes b (8 * w) 8)
  rwa [sramBytes_length] at this

theorem setSramWord_storedAt (b w v : Nat) :
    StoredAt (sramKey b (8 * w)) (leBytes 8 v) d.sram (d.setSramWord b w v).sram := putSram_storedAt b _ _ d

theorem StoredAt.sramWord {b w v : Nat} {m : List (Nat × Byte)} (h : StoredAt (sramKey b (8 * w)) (leBytes 8 v) m d.sram) :
    d.sramWord b w = v % 2 ^ 64 :=
  (congrArg ofLe (h.sramBytes (leBytes_length 8 v))).trans (ofLe_leBytes 8 v)

theorem sramWord_of_sram {d d' : Dev} (h : d'.sram = d.sram) (b w : Nat) : d'.sramWord b w = d.sramWord b w := by
  simp only [Dev.sramWord, sramBytes_of_sram h]

/-! ### A word that cannot be read is cleaned (R529, R535) -/

theorem poisoned_setPoison (b w : Nat) (p : Bool) : (d.setPoison b w p).poisoned b w = p := by
  cases p <;> simp [Dev.poisoned, Dev.setPoison, Dev.modMem, flag]

theorem setSramWord_poisoned (b w v b' w' : Nat) : (d.setSramWord b w v).poisoned b' w' = d.poisoned b' w' :=
  putSram_poisoned b _ _ b' w'

theorem emit_poisoned (m : Msg) (b w : Nat) : (d.emit m).poisoned b w = d.poisoned b w := rfl

theorem finish_poisoned (b w : Nat) : d.finish.poisoned b w = d.poisoned b w := by simp only [Dev.poisoned, finish_mem]

theorem mem_withEvents (x : Dev) : (d.withEvents x).mem = d.mem := rfl

theorem refreshLog_mem : d.refreshLog.mem = d.mem := by
  have shown : d.refreshLog = d.withEvents d.refreshLog := withEvents_forAll 4 _ fun _ _ => withEvents_set _ _ _
  rw [shown, mem_withEvents]

/-- A new log entry poisons no word. -/
theorem logNew_poison (e : MemLog) : (d.logNew e).mem.poison = d.mem.poison := by
  unfold Dev.logNew
  dsimp only
  split
  · rw [withEvents_raise, mem_withEvents, refreshLog_mem]
    rfl
  · rw [refreshLog_mem]
    rfl

theorem logError_poison (typ port agent b w synd : Nat) : (d.logError typ port agent b w synd).mem.poison = d.mem.poison := by
  unfold Dev.logError
  dsimp only
  split
  · rw [refreshLog_mem]
    split <;> rfl
  · rw [logNew_poison]
    split <;> rfl

theorem cleanPartial_storedAt (agent b w : Nat) :
    StoredAt (sramKey b (8 * w)) (leBytes 8 0) d.sram (d.cleanPartial agent b w).sram := by
  rw [Dev.cleanPartial, (logError_carries _ _ _ _ _ _ _).sram]
  exact setSramWord_storedAt (d := d.setPoison b w false) b w 0

theorem cleanPartial_poisoned (agent b w : Nat) : (d.cleanPartial agent b w).poisoned b w = false := by
  rw [Dev.cleanPartial, Dev.poisoned, logError_poison]
  exact (putSram_poisoned b _ _ b w).trans (poisoned_setPoison b w false)

theorem cleanPartial_sramWord (agent b w : Nat) : (d.cleanPartial agent b w).sramWord b w = 0 :=
  (cleanPartial_storedAt agent b w).sramWord

theorem cleanPartial_sramByte {i : Nat} (agent b w : Nat) (h : i < 8) :
    (d.cleanPartial agent b w).sramByte b (8 * w + i) = 0#8 := by
  rw [(cleanPartial_storedAt agent b w).sramByte (leBytes_length 8 0) h, leBytes_getD 0 h, Nat.zero_div]

/-! ### The operations of the alias windows (R530) -/

/-- The word that a bit-set or a bit-clear operation leaves. -/
def bitsOp (set_ : Bool) (old mask : Nat) : Nat := if set_ then old ||| mask else old - (old &&& mask)

theorem bitsOp_lt {n old mask : Nat} (set_ : Bool) (ho : old < 2 ^ n) (hm : mask < 2 ^ n) : bitsOp set_ old mask < 2 ^ n := by
  unfold bitsOp
  split
  · exact Nat.or_lt_two_pow ho hm
  · exact Nat.lt_of_le_of_lt (Nat.sub_le _ _) ho

theorem bitsOp_zero (set_ : Bool) (mask : Nat) : bitsOp set_ 0 mask = if set_ then mask else 0 := by simp [bitsOp]

theorem wordOp_bits_clean {b w : Nat} (agent mask : Nat) (set_ : Bool) (h : d.poisoned b w = false) :
    d.wordOp agent b w (.bits mask set_ false) =
      (d.setSramWord b w (bitsOp set_ (d.sramWord b w) mask)).emit (.answer 0 0 [d.sramWord b w]) := by
  simp only [Dev.wordOp, h, Bool.false_eq_true, or_self, if_false, bitsOp]

theorem wordOp_bits_dirty {b w : Nat} {bad : Bool} (agent mask : Nat) (set_ : Bool) (h : bad = true ∨ d.poisoned b w = true) :
    d.wordOp agent b w (.bits mask set_ bad) =
      ((d.cleanPartial agent b w).setSramWord b w (if set_ then mask else 0)).emit (.answer 0 0 [0]) := by
  simp only [Dev.wordOp, h, if_true, cleanPartial_sramWord, ← bitsOp_zero, bitsOp]

/-! ### Partial writes (R529) -/

theorem mergeBytes_getD {i : Nat} (old data mask : Nat) (h : i < 8) :
    (leBytes 8 (mergeBytes old data mask)).getD i 0#8 =
      if mask.testBit i then BitVec.ofNat 8 (data / 256 ^ i) else (leBytes 8 old).getD i 0#8 := by
  have bytes := leBytes_ofLe ((List.range 8).map fun i =>
    if mask.testBit i then (leBytes 8 data).getD i 0#8 else (leBytes 8 old).getD i 0#8)
  rw [List.length_map, List.length_range] at bytes
  rw [mergeBytes, bytes, ← leBytes_getD data h]
  simp [h]

/-- The word takes the bytes of a mask, and OK is answered. -/
def mergeWord (d : Dev) (b w data mask : Nat) : Dev :=
  (d.setSramWord b w (mergeBytes (d.sramWord b w) data mask)).emit (.answer 0 0 [])

theorem mergeWord_storedAt (b w data mask : Nat) :
    StoredAt (sramKey b (8 * w)) (leBytes 8 (mergeBytes (d.sramWord b w) data mask)) d.sram (mergeWord d b w data mask).sram :=
  setSramWord_storedAt b w _

theorem mergeWord_sramByte {i : Nat} (b w data mask : Nat) (h : i < 8) :
    (mergeWord d b w data mask).sramByte b (8 * w + i) =
      if mask.testBit i then BitVec.ofNat 8 (data / 256 ^ i) else d.sramByte b (8 * w + i) := by
  rw [(mergeWord_storedAt b w data mask).sramByte (leBytes_length 8 _) h, mergeBytes_getD _ _ _ h, leBytes_sramWord,
    sramBytes_getD b _ h]

theorem mergeWord_poisoned (b w data mask : Nat) : (mergeWord d b w data mask).poisoned b w = d.poisoned b w := by
  rw [mergeWord, emit_poisoned, setSramWord_poisoned]

theorem wordOp_write_clean {b w : Nat} (agent data mask : Nat) (h : d.poisoned b w = false) :
    d.wordOp agent b w (.write data mask false) =
      mergeWord (if mask = 255 then d.setPoison b w false else d) b w data mask := by
  simp only [Dev.wordOp, h, Bool.false_eq_true, or_self, if_false, mergeWord]

theorem wordOp_write_dirty {b w : Nat} {bad : Bool} (agent data mask : Nat) (h : bad = true ∨ d.poisoned b w = true) :
    d.wordOp agent b w (.write data mask bad) =
      mergeWord (if mask = 255 then d.setPoison b w false else d.cleanPartial agent b w) b w data mask := by
  simp only [Dev.wordOp, h, if_true, mergeWord]

/-! ### Accesses to a bank (R522, R532) -/

section

variable {x : BankAccess}

theorem access_denied (h : d.mayAccess x.agent x.bank = false) : d.access x = d.emit (.answer 1 0 []) := by
  simp [Dev.access, h]

theorem access_on (h : d.mayAccess x.agent x.bank = true) (on : d.bankPwr x.bank = 0) :
    d.access x = d.wordOp x.agent x.bank x.word x.op := by
  simp [Dev.access, h, on]

theorem access_waking (h : d.mayAccess x.agent x.bank = true) (waking : d.bankPwr x.bank = 3) :
    d.access x = d.modMem fun m => { m with waiting := m.waiting ++ [x] } := by
  simp [Dev.access, h, waking]

theorem access_down (h : d.mayAccess x.agent x.bank = true) (notOn : d.bankPwr x.bank ≠ 0) (asleep : d.bankPwr x.bank ≠ 3) :
    d.access x = d := by
  -- `notOn` and `asleep` exclude the other arms of the match.
  simp [Dev.access, h]

theorem finish_emitted_answer {st code : Nat} {ws : List Nat} (h : d.emitted = [.answer st code ws]) :
    d.finish.emitted = [.answer st code ws] := by
  rw [finish_emitted_free, h]
  simp [h, Msg.driven, Msg.onDn]

theorem exec_aliasBitOperation (agent : Fin 32) (b : Fin 64) (w : Fin 32768) (mask : BitVec 64) (set_ bad : Bool) (s : State) :
    exec (.aliasBitOperation agent b w mask set_ bad) s =
      s.main (Dev.access · ⟨agent.val, b.val, w.val, .bits mask.toNat set_ bad⟩) := rfl

theorem exec_partialWrite (agent : Fin 32) (b : Fin 64) (w : Fin 32768) (data : BitVec 64) (mask : BitVec 8) (bad : Bool)
    (s : State) :
    exec (.partialWrite agent b w data mask bad) s =
      s.main (Dev.access · ⟨agent.val, b.val, w.val, .write data.toNat mask.toNat bad⟩) := rfl

variable {c : Instr} {s : State} (hc : exec c s = s.main (Dev.access · x)) (hs : s.runs)

include hc hs

theorem completes_access_denied (h : s.dev.mayAccess x.agent x.bank = false) :
    Completes c s fun d => Dev.OnlyRegs [] s.dev d ∧ d.emitted = [.answer 1 0 []] := by
  refine completes_main hc hs ?_
  rw [access_denied (d := s.dev.begin) h]
  exact ⟨((Writes.start [] s.dev).emit _).finish, finish_emitted_answer rfl⟩

variable (may : s.dev.mayAccess x.agent x.bank = true)

include may

theorem completes_access_on {p : Dev → Prop} (on : s.dev.bankPwr x.bank = 0)
    (h : p (s.dev.begin.wordOp x.agent x.bank x.word x.op).finish) : Completes c s p := by
  refine completes_main hc hs ?_
  rwa [access_on (d := s.dev.begin) may on]

theorem completes_access_down (notOn : s.dev.bankPwr x.bank ≠ 0) (asleep : s.dev.bankPwr x.bank ≠ 3) :
    Completes c s fun d => Dev.OnlyRegs [] s.dev d := by
  refine completes_main hc hs ?_
  rw [access_down (d := s.dev.begin) may notOn asleep]
  exact (Writes.start [] s.dev).finish

theorem completes_access_waking (waking : s.dev.bankPwr x.bank = 3) :
    Completes c s fun d =>
      Dev.OnlyRegs [] (s.dev.modMem fun m => { m with waiting := m.waiting ++ [x] }) d ∧ d.emitted = [] := by
  refine completes_main hc hs ?_
  rw [access_waking (d := s.dev.begin) may waking]
  exact ⟨(Writes.start [] (s.dev.modMem _)).finish, finish_emitted_free _ (by simp [Dev.modMem])⟩

end

/-! ### The host's atomic operations (R531) -/

theorem atom_notOn {mask : Nat} {set_ : Bool} (h : d.bankPwr (d.get Reg.MEM_HOSTWIN_BANK) ≠ 0) : d.atom mask set_ = d := if_pos h

theorem atom_clean {b o : Nat} (mask : Nat) (set_ : Bool) (hb : b = d.get Reg.MEM_HOSTWIN_BANK)
    (ho : o = 4 * d.get Reg.MEM_ATOMADDR_OFFSET) (on : d.bankPwr b = 0) (clean : d.poisoned b (o / 8) = false) :
    d.atom mask set_ =
      (d.putSram b o (leBytes 4 (bitsOp set_ (ofLe (d.sramBytes b o 4)) mask))).set Reg.MEM_ATOMOLD_MASK
        (ofLe (d.sramBytes b o 4)) := by
  subst hb ho
  simp only [Dev.atom, on, clean, ne_eq, not_true_eq_false, Bool.false_eq_true, if_false, bitsOp]

theorem bankPwr_set_refuseCode (b v : Nat) : (d.set Reg.SYS_REFUSE_CODE v).bankPwr b = d.bankPwr b :=
  get_set_other d v (by simp only [Reg.MEM_BANKOWN_PWR, Reg.SYS_REFUSE_CODE]; omega)

/-- An atomic operation refuses nothing: its half takes the new value, and MEM_ATOMOLD the old one. -/
theorem coded_atom_clean {b o old : Nat} (mask : Nat) (set_ : Bool) (hb : b = d.get Reg.MEM_HOSTWIN_BANK)
    (ho : o = 4 * d.get Reg.MEM_ATOMADDR_OFFSET) (hold : old = ofLe (d.sramBytes b o 4)) (clean : d.poisoned b (o / 8) = false)
    (on : d.bankPwr b = 0) :
    d.coded (Dev.atom · mask set_) =
      ((((d.set Reg.SYS_REFUSE_CODE 0).putSram b o (leBytes 4 (bitsOp set_ old mask))).set Reg.MEM_ATOMOLD_MASK old).set
        Reg.SYS_REFUSE_CODE (d.get Reg.SYS_REFUSE_CODE), 0) := by
  have done := atom_clean (d := d.set Reg.SYS_REFUSE_CODE 0) mask set_ (hb.trans (get_set_other d 0 (by decide)).symm)
    (ho.trans (congrArg (4 * ·) (get_set_other d 0 (by decide)).symm)) ((bankPwr_set_refuseCode b 0).trans on) clean
  rw [sramBytes_of_sram (set_sram d _ 0), ← hold] at done
  have code : ((d.set Reg.SYS_REFUSE_CODE 0).atom mask set_).get Reg.SYS_REFUSE_CODE = 0 := by
    rw [done, get_set_other _ _ (by decide), Dev.get, putSram_regs]
    exact get_set_same d Reg.SYS_REFUSE_CODE 0
  rw [coded_ok (f := (Dev.atom · mask set_)) code, done]

theorem coded_atom_notOn {mask : Nat} {set_ : Bool} (notOn : d.bankPwr (d.get Reg.MEM_HOSTWIN_BANK) ≠ 0) :
    d.coded (Dev.atom · mask set_) = ((d.set Reg.SYS_REFUSE_CODE 0).set Reg.SYS_REFUSE_CODE (d.get Reg.SYS_REFUSE_CODE), 0) := by
  have idle : (d.set Reg.SYS_REFUSE_CODE 0).atom mask set_ = d.set Reg.SYS_REFUSE_CODE 0 :=
    atom_notOn (by rwa [get_set_other d 0 (by decide), bankPwr_set_refuseCode])
  have code : ((d.set Reg.SYS_REFUSE_CODE 0).atom mask set_).get Reg.SYS_REFUSE_CODE = 0 := by
    rw [idle]
    exact get_set_same d Reg.SYS_REFUSE_CODE 0
  rw [coded_ok (f := (Dev.atom · mask set_)) code, idle]

/-- An atomic operation writes the 32-bit half alone, and MEM_ATOMOLD shows what the half was before. -/
theorem completes_atom {c : Instr} {s : State} {mask : BitVec 32} {set_ : Bool} {b o old : Nat}
    (hc : exec c s = s.command (Dev.atom · mask.toNat set_)) (hs : s.serves) (hb : b = s.dev.get Reg.MEM_HOSTWIN_BANK)
    (ho : o = 4 * s.dev.get Reg.MEM_ATOMADDR_OFFSET) (hold : old = ofLe (s.dev.sramBytes b o 4))
    (clean : s.dev.poisoned b (o / 8) = false) (on : s.dev.bankPwr b = 0) :
    Completes c s fun d =>
      Dev.OnlyRegs [Reg.SYS_REFUSE_CODE.key, Reg.MEM_ATOMOLD_MASK.key] { s.dev with sram := d.sram } d ∧
      d.get Reg.MEM_ATOMOLD_MASK = old ∧ ofLe (d.sramBytes b o 4) = bitsOp set_ old mask.toNat ∧
      d.emitted = [.answer 0 0 []] ∧
      ∀ a, (a < b * 262144 + o ∨ b * 262144 + o + 4 ≤ a) → tget 0#8 d.sram a = tget 0#8 s.dev.sram a := by
  obtain ⟨runs, awake⟩ := hs
  refine completes_command hc runs awake ?_
  rw [coded_atom_clean (d := s.dev.begin) _ _ hb ho hold clean on]
  have small : old < 2 ^ 32 := hold ▸ ofLe_sramBytes_lt b o 4
  have stored := putSram_storedAt b (leBytes 4 (bitsOp set_ old mask.toNat)) o (s.dev.begin.set Reg.SYS_REFUSE_CODE 0)
  have start := (Writes.start [Reg.SYS_REFUSE_CODE.key, Reg.MEM_ATOMOLD_MASK.key] s.dev).set (f := Reg.SYS_REFUSE_CODE) 0
    (by simp)
  have shown := (writes_putSram b o (leBytes 4 (bitsOp set_ old mask.toNat)) start).set (f := Reg.MEM_ATOMOLD_MASK) old (by simp)
  refine ⟨?_, ?_, ?_, finish_emitted_answer ?_, ?_⟩
  · rw [finish_sram]
    exact ((shown.set (f := Reg.SYS_REFUSE_CODE) _ (by simp)).emit _).finish
  · rw [finish_get _ (by decide), get_emit, get_set_other _ _ (by decide), get_set_same]
    exact Nat.mod_eq_of_lt small
  · rw [sramBytes_of_sram (finish_sram _), sramBytes_of_sram (emit_sram _ _), sramBytes_of_sram (set_sram _ _ _),
      sramBytes_of_sram (set_sram _ _ _), stored.sramBytes (leBytes_length 4 _), ofLe_leBytes]
    exact Nat.mod_eq_of_lt (bitsOp_lt set_ small mask.isLt)
  · simp [putSram_emitted, statusOf]
  · rw [finish_sram, emit_sram, set_sram, set_sram]
    exact stored.frame (leBytes_length 4 _)

theorem completes_atom_notOn {c : Instr} {s : State} {mask : Nat} {set_ : Bool}
    (hc : exec c s = s.command (Dev.atom · mask set_)) (hs : s.serves)
    (notOn : s.dev.bankPwr (s.dev.get Reg.MEM_HOSTWIN_BANK) ≠ 0) :
    Completes c s fun d => Dev.OnlyRegs [Reg.SYS_REFUSE_CODE.key] s.dev d := by
  obtain ⟨runs, awake⟩ := hs
  refine completes_command hc runs awake ?_
  rw [coded_atom_notOn (d := s.dev.begin) notOn]
  have start := (Writes.start [Reg.SYS_REFUSE_CODE.key] s.dev).set (f := Reg.SYS_REFUSE_CODE) 0 (by simp)
  exact ((start.set (f := Reg.SYS_REFUSE_CODE) _ (by simp)).emit _).finish

/-! ### The commands of the alias windows and of partial writes -/

section

variable {s : State} {agent : Fin 32} {b : Fin 64} {w : Fin 32768} (hs : s.runs)
  (may : s.dev.mayAccess agent.val b.val = true) (on : s.dev.bankPwr b.val = 0)

include hs may on

theorem completes_bits_clean (mask : BitVec 64) (set_ : Bool) (clean : s.dev.poisoned b.val w.val = false) :
    Completes (.aliasBitOperation agent b w mask set_ false) s fun d =>
      Dev.OnlyRegs [] { s.dev with sram := d.sram } d ∧ d.emitted = [.answer 0 0 [s.dev.sramWord b.val w.val]] ∧
      d.sramWord b.val w.val = bitsOp set_ (s.dev.sramWord b.val w.val) mask.toNat ∧
      ∀ a, (a < b.val * 262144 + 8 * w.val ∨ b.val * 262144 + 8 * w.val + 8 ≤ a) →
        tget 0#8 d.sram a = tget 0#8 s.dev.sram a := by
  refine completes_access_on (exec_aliasBitOperation ..) hs may on ?_
  rw [wordOp_bits_clean (d := s.dev.begin) _ _ _ clean]
  have stored := setSramWord_storedAt (d := s.dev.begin) b.val w.val (bitsOp set_ (s.dev.sramWord b.val w.val) mask.toNat)
  refine ⟨?_, ?_, ?_, ?_⟩
  · rw [finish_sram]
    exact ((writes_putSram _ _ _ (Writes.start [] s.dev)).emit _).finish
  · refine finish_emitted_answer ?_
    rw [emitted_emit, Dev.setSramWord, putSram_emitted]
    rfl
  · rw [sramWord_of_sram (finish_sram _), sramWord_of_sram (emit_sram _ _)]
    exact stored.sramWord.trans (Nat.mod_eq_of_lt (bitsOp_lt set_ (sramWord_lt _ _) mask.isLt))
  · rw [finish_sram, emit_sram]
    exact stored.frame (leBytes_length 8 _)

theorem completes_bits_dirty (mask : BitVec 64) (set_ : Bool) {bad : Bool}
    (dirty : bad = true ∨ s.dev.poisoned b.val w.val = true) :
    Completes (.aliasBitOperation agent b w mask set_ bad) s fun d =>
      d.poisoned b.val w.val = false ∧ d.sramWord b.val w.val = (if set_ then mask.toNat else 0) ∧
      ∀ a, (a < b.val * 262144 + 8 * w.val ∨ b.val * 262144 + 8 * w.val + 8 ≤ a) →
        tget 0#8 d.sram a = tget 0#8 s.dev.sram a := by
  refine completes_access_on (exec_aliasBitOperation ..) hs may on ?_
  rw [wordOp_bits_dirty (d := s.dev.begin) _ _ _ dirty]
  have cleaned := cleanPartial_storedAt (d := s.dev.begin) agent.val b.val w.val
  have stored := cleaned.over (setSramWord_storedAt b.val w.val (if set_ then mask.toNat else 0))
    ((leBytes_length 8 _).trans (leBytes_length 8 _).symm)
  refine ⟨?_, ?_, ?_⟩
  · rw [finish_poisoned, emit_poisoned, setSramWord_poisoned, cleanPartial_poisoned]
  · rw [sramWord_of_sram (finish_sram _), sramWord_of_sram (emit_sram _ _)]
    refine stored.sramWord.trans (Nat.mod_eq_of_lt ?_)
    split
    · exact mask.isLt
    · decide
  · rw [finish_sram, emit_sram]
    exact stored.frame (leBytes_length 8 _)

theorem completes_write_clean (data : BitVec 64) (mask : BitVec 8) (clean : s.dev.poisoned b.val w.val = false) :
    Completes (.partialWrite agent b w data mask false) s fun d =>
      Dev.OnlyRegs [] { (if mask.toNat = 255 then s.dev.setPoison b.val w.val false else s.dev) with sram := d.sram } d ∧
      d.emitted = [.answer 0 0 []] ∧
      (∀ i < 8, d.sramByte b.val (8 * w.val + i) =
        if mask.getLsbD i then BitVec.ofNat 8 (data.toNat / 256 ^ i) else s.dev.sramByte b.val (8 * w.val + i)) ∧
      ∀ a, (a < b.val * 262144 + 8 * w.val ∨ b.val * 262144 + 8 * w.val + 8 ≤ a) →
        tget 0#8 d.sram a = tget 0#8 s.dev.sram a := by
  refine completes_access_on (exec_partialWrite ..) hs may on ?_
  rw [wordOp_write_clean (d := s.dev.begin) _ _ _ clean]
  generalize hx : (if mask.toNat = 255 then s.dev.begin.setPoison b.val w.val false else s.dev.begin) = x
  have sram : x.sram = s.dev.sram := by rw [← hx]; split <;> rfl
  have start : Writes [] (if mask.toNat = 255 then s.dev.setPoison b.val w.val false else s.dev) x := by
    rw [← hx]
    split
    · exact Writes.start [] (s.dev.setPoison b.val w.val false)
    · exact Writes.start [] s.dev
  have silent : x.emitted = [] := by rw [← hx]; split <;> rfl
  refine ⟨?_, ?_, fun i hi => ?_, ?_⟩
  · rw [finish_sram]
    exact ((writes_putSram _ _ _ start).emit _).finish
  · refine finish_emitted_answer ?_
    rw [mergeWord, emitted_emit, Dev.setSramWord, putSram_emitted, silent]
    rfl
  · rw [sramByte_of_sram (finish_sram _), mergeWord_sramByte _ _ _ _ hi, sramByte_of_sram sram]
    rfl
  · rw [finish_sram, ← sram]
    exact (mergeWord_storedAt _ _ _ _).frame (leBytes_length 8 _)

/-- No byte of an unreadable word is kept: those that the mask does not name become zero. -/
theorem completes_write_dirty (data : BitVec 64) (mask : BitVec 8) {bad : Bool}
    (dirty : bad = true ∨ s.dev.poisoned b.val w.val = true) :
    Completes (.partialWrite agent b w data mask bad) s fun d =>
      d.poisoned b.val w.val = false ∧
      (∀ i < 8, d.sramByte b.val (8 * w.val + i) =
        if mask.getLsbD i then BitVec.ofNat 8 (data.toNat / 256 ^ i) else 0#8) ∧
      ∀ a, (a < b.val * 262144 + 8 * w.val ∨ b.val * 262144 + 8 * w.val + 8 ≤ a) →
        tget 0#8 d.sram a = tget 0#8 s.dev.sram a := by
  refine completes_access_on (exec_partialWrite ..) hs may on ?_
  rw [wordOp_write_dirty (d := s.dev.begin) _ _ _ dirty]
  by_cases whole : mask.toNat = 255
  · rw [if_pos whole]
    refine ⟨?_, fun i hi => ?_, ?_⟩
    · rw [finish_poisoned, mergeWord_poisoned, poisoned_setPoison]
    · have all : ∀ i < 8, Nat.testBit 255 i = true := by decide
      have named : mask.toNat.testBit i = true := by rw [whole]; exact all i hi
      rw [sramByte_of_sram (finish_sram _), mergeWord_sramByte _ _ _ _ hi, named, BitVec.getLsbD, named]
      rfl
    · rw [finish_sram]
      exact (mergeWord_storedAt (d := s.dev.begin.setPoison b.val w.val false) _ _ _ _).frame (leBytes_length 8 _)
  · rw [if_neg whole]
    have cleaned := cleanPartial_storedAt (d := s.dev.begin) agent.val b.val w.val
    refine ⟨?_, fun i hi => ?_, ?_⟩
    · rw [finish_poisoned, mergeWord_poisoned, cleanPartial_poisoned]
    · rw [sramByte_of_sram (finish_sram _), mergeWord_sramByte _ _ _ _ hi, cleanPartial_sramByte _ _ _ hi]
      rfl
    · rw [finish_sram]
      exact (cleaned.over (mergeWord_storedAt _ _ _ _) ((leBytes_length 8 _).trans (leBytes_length 8 _).symm)).frame
        (leBytes_length 8 _)

end

/-- Settles O51: an access is denied, waits, falls on a bank that is down, or is a word operation. A word operation and an atomic
operation put a run of bytes at one address (`putSram_storedAt`); where the word cannot be read, it is zeros first
(`cleanPartial_storedAt`), which the run covers (`StoredAt.over`). That an access to a bank in Off or Retention has no effect is the
model's choice (log 131), as is an atomic operation's answer without effect (log 71). -/
theorem sramWritesGoToTheirBytes : Obligations.sramWritesGoToTheirBytes := by
  unfold Obligations.sramWritesGoToTheirBytes
  refine ⟨fun s agent b w hs denied => ⟨fun mask set_ bad => ?_, fun data mask bad => ?_⟩,
    fun s agent b w mask set_ hs may on clean => ?_, fun s agent b w mask set_ bad hs may on dirty => ?_,
    fun s agent b w data mask hs may on => ⟨fun clean => ?_, fun bad dirty => ?_⟩,
    fun s agent b w hs may => ⟨fun notOn asleep => ⟨fun mask set_ bad => ?_, fun data mask bad => ?_⟩,
      fun waking => ⟨fun mask set_ bad => ?_, fun data mask bad => ?_⟩⟩,
    fun s mask b o old hs hb ho hold clean on => ⟨?_, ?_⟩, fun s mask hs notOn => ⟨?_, ?_⟩⟩
  · exact completes_access_denied (exec_aliasBitOperation ..) hs denied
  · exact completes_access_denied (exec_partialWrite ..) hs denied
  · exact completes_bits_clean hs may on mask set_ clean
  · exact completes_bits_dirty hs may on mask set_ dirty
  · exact completes_write_clean hs may on data mask clean
  · exact completes_write_dirty hs may on data mask dirty
  · exact completes_access_down (exec_aliasBitOperation ..) hs may notOn asleep
  · exact completes_access_down (exec_partialWrite ..) hs may notOn asleep
  · exact completes_access_waking (exec_aliasBitOperation ..) hs may waking
  · exact completes_access_waking (exec_partialWrite ..) hs may waking
  · exact completes_atom (set_ := true) rfl hs hb ho hold clean on
  · exact completes_atom (set_ := false) rfl hs hb ho hold clean on
  · exact completes_atom_notOn (set_ := true) rfl hs notOn
  · exact completes_atom_notOn (set_ := false) rfl hs notOn

end Sys2Proof.Proofs
end
